-- ==== Sys2Proof/Word.lean ====
section
/-! DEFINITION. The words the manual treats as bits (11: bytes, 16-bit and 32-bit numbers). -/
namespace Sys2Proof

/-- One byte of a frame (11: "bytes are numbered from 0 in the order they travel"). -/
abbrev Byte := BitVec 8

/-- A 16-bit number: a signature, a function code. -/
abbrev Word16 := BitVec 16

/-- A 32-bit number: an identity, a setting word, a parameter value. -/
abbrev Word32 := BitVec 32

/-- A 29-bit CAN identifier (R156). -/
abbrev Ident := BitVec 29

end Sys2Proof
end

