-- ==== Sys2Proof/Config.lean ====
section
/-! DEFINITION. What the part fixes: capacities (00_scope), times that are no settings (11.4), and limits. -/
namespace Sys2Proof.Config

/-- Unit Table records (R49). -/
def maxUnits : Nat := 6
/-- Function Pool entries (R72). -/
def poolEntries : Nat := 128
/-- Cache records (R83). -/
def cacheRecords : Nat := 4
/-- Claims (R143). -/
def maxClaims : Nat := 8
/-- Intake Queue entries (R157). -/
def intakeEntries : Nat := 16
/-- Report Queue frames (R170). -/
def reportFrames : Nat := 24
/-- Unit-access requests outstanding per slot (R38). -/
def accessPerSlot : Nat := 2
/-- The value at which a counter stays (R41). -/
def counterTop : Nat := 65535
/-- The value at which a sensor's age stays (R135). -/
def ageTop : Nat := 65535

/-- The 50 ms sample period (R6). -/
def samplePeriod : Nat := 50
/-- The samples that must agree (R6, R100). -/
def agreeingSamples : Nat := 3
/-- The off time before off-state sensing (R100). -/
def offSettle : Nat := 20
/-- The self-wake period in PARKED (R16). -/
def selfWakePeriod : Nat := 250
/-- The start wait after a wake (R17). -/
def startWait : Nat := 20
/-- The feed-off time after COMBINATION-RESET (R19). -/
def feedOffTime : Nat := 200
/-- The answer window (R23). -/
def answerWindow : Nat := 6
/-- The byte gap (R23): a gap above this ends the attempt. -/
def byteGap : Nat := 2
/-- The resync gap (R25). -/
def resyncGap : Nat := 3
/-- The steady measurement interval (R114). -/
def steadyInterval : Nat := 100
/-- The run time after which a measurement clears the attempt count (R105). -/
def runClear : Nat := 1000
/-- The setup deadline (R165). -/
def setupDeadline : Nat := 5000
/-- The FULL-RESET transmit wait (R174). -/
def fullResetWait : Nat := 50

/-- Load-record limits: r, c, n (R67). -/
def maxR : Nat := 4000
def maxC : Nat := 2000
def maxN : Nat := 15

/-- The sense ceiling in mA (R92). -/
def senseCeiling : Nat := 20000
/-- The top of a supply conversion, in 10 mV (R113). -/
def supplyTop : Nat := 3600
/-- The current at which a measurement trips its line, in mA (R103). -/
def tripCurrent : Nat := 18000
/-- The switch rating in mA: a greater expected load is OVERSUBSCRIBED (R118). -/
def switchRating : Nat := 15000
/-- The supply window of a classified measurement, in 10 mV (R116). -/
def supplyLow : Nat := 1800
def supplyHigh : Nat := 3200
/-- The supply at which resistive load is declared, in 10 mV (R117). -/
def declaredSupply : Nat := 2400

/-- The greatest delta of a subscription (R137). -/
def maxDelta : Nat := 32767

end Sys2Proof.Config
end

