-- ==== Sys2Proof/Syntax.lean ====
section
/-! DEFINITION. The commands of the part: one constructor for each row of spec/opcode_table.json. -/
namespace Sys2Proof

/-- The eight lamp lines in line order (R92). -/
inductive Line where
  | tailL | tailR | stop | turnL | turnR | reverse | fog | marker
  deriving DecidableEq, Repr

/-- The four master slots (R158). -/
inductive Slot where
  | s0 | s1 | s2 | s3
  deriving DecidableEq, Repr

/-- A frame as the vehicle port hears it (R156, R175): whether its identifier is extended, whether it is a remote
frame, the identifier, the length code and the bytes of its data field. -/
structure BusFrame where
  extended : Bool
  remote : Bool
  ident : Ident
  lengthCode : Nat
  bytes : List Byte
  deriving DecidableEq, Repr

/-- One conversion pair of a measurement: the line current in mA and the supply in 10 mV (R113). -/
structure Conversion where
  current : Nat
  supply : Nat
  deriving DecidableEq, Repr

/-- The commands. The rows that are requests stand for the TAKING of that request from the head of the Intake Queue
(R161): the request's operands are the bytes of the intake entry, so these constructors carry none. -/
inductive Instr where
  /-- The supply is applied (R20). -/
  | powerOnReset
  /-- The battery falls below 8.0 V (R20). -/
  | lowSupplyReset
  /-- The supply has risen to 9.0 V or above (R20). -/
  | lowSupplyRelease
  /-- A 50 ms sample instant (R6, R100): plug CLOSED, ignition HIGH, and bit i set where the off-state comparator of
  line i reads LOADED. -/
  | sampleInstant (plugClosed ignitionHigh : Bool) (loaded : Byte)
  /-- The attach debounce reaches its setting (R8). -/
  | attachDebounceExpiry
  /-- The feed start wait expires (R10). -/
  | feedStartWaitExpiry
  /-- The park delay reaches its setting (R14). -/
  | parkDelayExpiry
  /-- A self-wake of PARKED (R16): the plug sample and the off-state comparators. -/
  | selfWake (plugClosed : Bool) (loaded : Byte)
  /-- A high level on the ignition line in PARKED (R16). -/
  | ignitionWake
  /-- A frame is received in PARKED (R16). -/
  | busFrameWake (frame : BusFrame)
  /-- The start wait after a wake ends (R17). -/
  | startWaitExpiry
  /-- The feed-off time of COMBINATION-RESET ends (R19). -/
  | feedOffTimeExpiry
  /-- COMBINATION-READ is taken (R2). -/
  | combinationRead
  /-- COMBINATION-RESET is taken (R18). -/
  | combinationReset
  /-- The check byte of a call has been sent in full (R21). -/
  | callSent
  /-- No start bit within the answer window (R23). -/
  | answerWindowExpiry
  /-- A byte gap above 2 ms before the answer is complete (R23). -/
  | byteGapTimeout
  /-- The bytes of an answer arrive, the last of them a length byte above 8 (R23). -/
  | lengthByteError (bytes : List Byte)
  /-- The bytes that complete an answer frame arrive (R23). -/
  | answerFrameComplete (bytes : List Byte)
  /-- A byte arrives while no answer is awaited (R25). -/
  | discardedByte (byte : Byte)
  /-- The resync gap ends (R25). -/
  | resyncGapEnd
  /-- The next poll due of a sensor entry arrives (R34). -/
  | pollDue (position index : Nat)
  /-- COUNTERS-DUMP is taken (R42). -/
  | countersDump
  /-- COUNTERS-DUMP-RESET is taken (R43). -/
  | countersDumpReset
  /-- The extension timer reaches the extension probe interval (R54). -/
  | extensionTimerExpiry
  /-- UNIT-READ is taken (R80). -/
  | unitRead
  /-- FUNCTION-READ is taken (R81). -/
  | functionRead
  /-- A LAMP-SET frame arrives (R94): its identifier, sequence tag, line flags and answer-wanted byte. -/
  | lampSet (ident : Ident) (sequence lines wanted : Byte)
  /-- A slot's refresh age reaches its window (R96). -/
  | refreshWindowExpiry (slot : Slot)
  /-- The flash phase ends (R99). -/
  | flashPhaseEnd
  /-- The switch of a line reports its fault indication (R103). -/
  | switchFaultIndication (line : Line)
  /-- The restart delay of a line reaches its setting (R104). -/
  | restartDelayExpiry (line : Line)
  /-- LINE-RESET is taken (R107). -/
  | lineReset
  /-- A measurement instant of a line with its four conversion pairs (R113). -/
  | measurementInstant (line : Line) (c1 c2 c3 c4 : Conversion)
  /-- VERDICT-READ is taken (R126). -/
  | verdictRead
  /-- The age of a sensor value reaches the staleness threshold (R135). -/
  | stalenessThreshold (position index : Nat)
  /-- SENSE-SUBSCRIBE is taken (R137). -/
  | senseSubscribe
  /-- SENSE-UNSUBSCRIBE is taken (R138). -/
  | senseUnsubscribe
  /-- SENSE-READ is taken (R140). -/
  | senseRead
  /-- ACTUATE is taken (R144, R145). -/
  | actuate
  /-- The hold time of a MOMENTARY claim runs out (R147). -/
  | holdTimeExpiry (position index : Nat)
  /-- RELEASE is taken (R150). -/
  | release
  /-- FORCE-RELEASE is taken (R151). -/
  | forceRelease
  /-- A frame arrives on the vehicle port (R156). -/
  | requestFrame (frame : BusFrame)
  /-- An intake entry of fewer than 8 data bytes is taken (R161). -/
  | refusedFormat
  /-- An intake entry whose code is not a request code is taken (R161). -/
  | refusedUnknown
  /-- UNIT-PARAM-READ is taken (R163). -/
  | unitParamRead
  /-- UNIT-PARAM-WRITE is taken (R163). -/
  | unitParamWrite
  /-- SETTING-READ is taken (R164). -/
  | settingRead
  /-- SETTING-WRITE is taken (R166). -/
  | settingWrite
  /-- SETTING-FIELD-WRITE is taken (R167). -/
  | settingFieldWrite
  /-- SETUP-CLOSE is taken (R165). -/
  | setupClose
  /-- The setup deadline reaches 5000 ms (R165). -/
  | setupDeadlineExpiry
  /-- NOTICE-ROUTE is taken (R169). -/
  | noticeRoute
  /-- The transmission of the head frame of the Report Queue completes (R170). -/
  | frameTransmitted
  /-- The CAN controller enters bus-off (R172). -/
  | busOffEntry
  /-- The CAN controller leaves bus-off (R172). -/
  | busOffExit
  /-- PART-STATUS-READ is taken (R173). -/
  | partStatusRead
  /-- FULL-RESET is taken (R174). -/
  | fullReset
  /-- The FULL-RESET transmit wait ends (R174). -/
  | fullResetWaitEnd
  /-- A byte of an awaited answer arrives before the frame is complete (R23). -/
  | answerByteReceived (byte : Byte)
  deriving DecidableEq, Repr

end Sys2Proof
end

