-- ==== Sys2Proof/Decode.lean ====
section
/-! DEFINITION. The reading of an opcode-table word as a command. -/
namespace Sys2Proof

/-- No row of spec/opcode_table.json gives bits, so no word spells a command (log entry 5). -/
def decodeTableWord (_nbits _w : Nat) : Option Instr := none

end Sys2Proof
end

