-- ==== Sys2Proof/Machine/SettingWords.lean ====
section
/-! DEFINITION. Families indexed by line and by slot, and the setting words of the Setup Store (R164, 11.4). -/
namespace Sys2Proof.Machine

/-- One value for each lamp line, in line order (R92). -/
structure PerLine (α : Type) where
  tailL : α
  tailR : α
  stop : α
  turnL : α
  turnR : α
  reverse : α
  fog : α
  marker : α
  deriving DecidableEq, Repr

/-- One value for each master slot (R158). -/
structure PerSlot (α : Type) where
  s0 : α
  s1 : α
  s2 : α
  s3 : α
  deriving DecidableEq, Repr

variable {α : Type}

def PerLine.const (a : α) : PerLine α := ⟨a, a, a, a, a, a, a, a⟩

def PerLine.get (p : PerLine α) : Line → α
  | .tailL => p.tailL
  | .tailR => p.tailR
  | .stop => p.stop
  | .turnL => p.turnL
  | .turnR => p.turnR
  | .reverse => p.reverse
  | .fog => p.fog
  | .marker => p.marker

def PerLine.set (p : PerLine α) (l : Line) (a : α) : PerLine α :=
  match l with
  | .tailL => { p with tailL := a }
  | .tailR => { p with tailR := a }
  | .stop => { p with stop := a }
  | .turnL => { p with turnL := a }
  | .turnR => { p with turnR := a }
  | .reverse => { p with reverse := a }
  | .fog => { p with fog := a }
  | .marker => { p with marker := a }

/-- Every line's value changed by one function of the line and its value. -/
def PerLine.map {β : Type} (f : Line → α → β) (p : PerLine α) : PerLine β :=
  ⟨f .tailL p.tailL, f .tailR p.tailR, f .stop p.stop, f .turnL p.turnL, f .turnR p.turnR,
   f .reverse p.reverse, f .fog p.fog, f .marker p.marker⟩

def PerSlot.const (a : α) : PerSlot α := ⟨a, a, a, a⟩

def PerSlot.get (p : PerSlot α) : Slot → α
  | .s0 => p.s0
  | .s1 => p.s1
  | .s2 => p.s2
  | .s3 => p.s3

def PerSlot.set (p : PerSlot α) (k : Slot) (a : α) : PerSlot α :=
  match k with
  | .s0 => { p with s0 := a }
  | .s1 => { p with s1 := a }
  | .s2 => { p with s2 := a }
  | .s3 => { p with s3 := a }

def PerSlot.map {β : Type} (f : Slot → α → β) (p : PerSlot α) : PerSlot β :=
  ⟨f .s0 p.s0, f .s1 p.s1, f .s2 p.s2, f .s3 p.s3⟩

/-- The lines in line order (R92). -/
def allLines : List Line := [.tailL, .tailR, .stop, .turnL, .turnR, .reverse, .fog, .marker]

/-- The slots in ascending order (R158). -/
def allSlots : List Slot := [.s0, .s1, .s2, .s3]

/-- The settings of 11.4 by name. -/
inductive Setting where
  | partCode | behaviourRevision
  | identifierBlock | retryLimit | tripAttempts
  | slotWord (k : Slot) | intakeQuota (k : Slot) | noticeRouting (k : Slot) | refreshWindow (k : Slot)
  | attachDebounce | feedStartWait | extensionInterval | pollFast | pollNormal | pollSlow | momentaryHold
  | flashOn | flashOff | restartDelay | parkDelay | openThreshold | toleranceLow | toleranceHigh | toleranceFloor
  | noticeReserve
  | lampSettle (l : Line)
  | senseEnables
  deriving DecidableEq, Repr

/-- The Setup Store: every setting word as the 32-bit number it holds (R164). -/
structure Settings where
  partCode : Word32
  behaviourRevision : Word32
  identifierBlock : Word32
  retryLimit : Word32
  tripAttempts : Word32
  slotWord : PerSlot Word32
  intakeQuota : PerSlot Word32
  noticeRouting : PerSlot Word32
  refreshWindow : PerSlot Word32
  attachDebounce : Word32
  feedStartWait : Word32
  extensionInterval : Word32
  pollFast : Word32
  pollNormal : Word32
  pollSlow : Word32
  momentaryHold : Word32
  flashOn : Word32
  flashOff : Word32
  restartDelay : Word32
  parkDelay : Word32
  openThreshold : Word32
  toleranceLow : Word32
  toleranceHigh : Word32
  toleranceFloor : Word32
  noticeReserve : Word32
  lampSettle : PerLine Word32
  senseEnables : Word32
  deriving DecidableEq, Repr

def Settings.get (w : Settings) : Setting → Word32
  | .partCode => w.partCode
  | .behaviourRevision => w.behaviourRevision
  | .identifierBlock => w.identifierBlock
  | .retryLimit => w.retryLimit
  | .tripAttempts => w.tripAttempts
  | .slotWord k => w.slotWord.get k
  | .intakeQuota k => w.intakeQuota.get k
  | .noticeRouting k => w.noticeRouting.get k
  | .refreshWindow k => w.refreshWindow.get k
  | .attachDebounce => w.attachDebounce
  | .feedStartWait => w.feedStartWait
  | .extensionInterval => w.extensionInterval
  | .pollFast => w.pollFast
  | .pollNormal => w.pollNormal
  | .pollSlow => w.pollSlow
  | .momentaryHold => w.momentaryHold
  | .flashOn => w.flashOn
  | .flashOff => w.flashOff
  | .restartDelay => w.restartDelay
  | .parkDelay => w.parkDelay
  | .openThreshold => w.openThreshold
  | .toleranceLow => w.toleranceLow
  | .toleranceHigh => w.toleranceHigh
  | .toleranceFloor => w.toleranceFloor
  | .noticeReserve => w.noticeReserve
  | .lampSettle l => w.lampSettle.get l
  | .senseEnables => w.senseEnables

def Settings.set (w : Settings) (n : Setting) (v : Word32) : Settings :=
  match n with
  | .partCode => { w with partCode := v }
  | .behaviourRevision => { w with behaviourRevision := v }
  | .identifierBlock => { w with identifierBlock := v }
  | .retryLimit => { w with retryLimit := v }
  | .tripAttempts => { w with tripAttempts := v }
  | .slotWord k => { w with slotWord := w.slotWord.set k v }
  | .intakeQuota k => { w with intakeQuota := w.intakeQuota.set k v }
  | .noticeRouting k => { w with noticeRouting := w.noticeRouting.set k v }
  | .refreshWindow k => { w with refreshWindow := w.refreshWindow.set k v }
  | .attachDebounce => { w with attachDebounce := v }
  | .feedStartWait => { w with feedStartWait := v }
  | .extensionInterval => { w with extensionInterval := v }
  | .pollFast => { w with pollFast := v }
  | .pollNormal => { w with pollNormal := v }
  | .pollSlow => { w with pollSlow := v }
  | .momentaryHold => { w with momentaryHold := v }
  | .flashOn => { w with flashOn := v }
  | .flashOff => { w with flashOff := v }
  | .restartDelay => { w with restartDelay := v }
  | .parkDelay => { w with parkDelay := v }
  | .openThreshold => { w with openThreshold := v }
  | .toleranceLow => { w with toleranceLow := v }
  | .toleranceHigh => { w with toleranceHigh := v }
  | .toleranceFloor => { w with toleranceFloor := v }
  | .noticeReserve => { w with noticeReserve := v }
  | .lampSettle l => { w with lampSettle := w.lampSettle.set l v }
  | .senseEnables => { w with senseEnables := v }

/-- A slot word of 11.4: tag in bits 0-7, role in bits 8-9, rights in bits 16-22. -/
def slotIdentityWord (tag : Byte) (role : BitVec 2) (rights : BitVec 7) : Word32 :=
  (0#9 ++ rights) ++ ((0#6 ++ role) ++ tag)

/-- Every word's default (11.4), with the Master Table's as R158 gives them: slot 0 LIGHTING with LAMPS and LINE-RESET,
slot 1 BRAKING with STOP-LINE, slot 2 BODY with BODY-CLAIM, slot 3 SERVICE with LINE-RESET, UNIT-ACCESS, SETTINGS and
RESETS. -/
def Settings.default : Settings where
  partCode := 7
  behaviourRevision := 1
  identifierBlock := 0x0A6D
  retryLimit := 3
  tripAttempts := 3
  slotWord := ⟨slotIdentityWord 0x50 0 0b0000101, slotIdentityWord 0x51 1 0b0000010,
    slotIdentityWord 0x52 2 0b0001000, slotIdentityWord 0x53 3 0b1110100⟩
  intakeQuota := .const 4
  noticeRouting := ⟨0b0001101, 0b0000001, 0b0010001, 0b1111111⟩
  refreshWindow := .const 0
  attachDebounce := 300
  feedStartWait := 150
  extensionInterval := 1000
  pollFast := 200
  pollNormal := 1000
  pollSlow := 5000
  momentaryHold := 250
  flashOn := 340
  flashOff := 330
  restartDelay := 500
  parkDelay := 30
  openThreshold := 60
  toleranceLow := 10
  toleranceHigh := 10
  toleranceFloor := 60
  noticeReserve := 6
  lampSettle := .const 120
  senseEnables := 0xFF

end Sys2Proof.Machine
end

