-- ==== Sys2Proof/Machine/State.lean ====
section
/-! DEFINITION. The state of the part: everything the manual gives it (INVENTORY.md, State), as plain data. -/
namespace Sys2Proof.Machine

/-! ### The combination (R1) -/

/-- The combination states (chapter 1). -/
inductive CombState where
  | detached | settling | building | serving | parked
  deriving DecidableEq, Repr

/-- The wake causes (R17). -/
inductive WakeCause where
  | none | ignition | busFrame | attachChange
  deriving DecidableEq, Repr

/-- The reset causes (R20). -/
inductive ResetCause where
  | powerOn | lowSupply | requested
  deriving DecidableEq, Repr

/-- The combination record of R1 with the Combination Controller's timers. A timer is the millisecond it runs from, or
`none` while it is stopped. -/
structure Combination where
  state : CombState
  unsettled : Bool
  chainFull : Bool
  identityClash : Bool
  passiveLoad : Bool
  /-- The unit feed is ON (R9). -/
  feed : Bool
  /-- The recorded attach value (R15). -/
  recordedAttach : Bool
  wakeCause : WakeCause
  resetCause : ResetCause
  /-- The attach debounce (R8). -/
  attachSince : Option Nat
  /-- The park delay (R14). -/
  parkSince : Option Nat
  /-- The feed start wait (R10). -/
  feedStartSince : Option Nat
  /-- The feed-off time (R19). -/
  feedOffSince : Option Nat
  /-- An entry to SETTLING waits for the end of the feed-off time (R19). -/
  entryWaiting : Bool
  /-- The start wait after a wake (R17). -/
  startWaitSince : Option Nat
  /-- The low-supply reset holds the part (R20). -/
  heldInReset : Bool
  deriving DecidableEq, Repr

/-! ### Lamp lines (R92) and verdict records (R112) -/

/-- A line's sensed load state (R100, R101). -/
inductive Presence where
  | unknown | loaded | open
  deriving DecidableEq, Repr

/-- A verdict (R112). The classifications are the verdicts but PENDING and SHORT. -/
inductive Verdict where
  | pending | none | open | low | ok | high | undeclared | short | oversubscribed
  deriving DecidableEq, Repr

/-- One verdict record (R112). -/
structure VerdictRecord where
  verdict : Verdict
  held : Bool
  lastE : Nat
  lastM : Nat
  lastU : Nat
  lower : Nat
  upper : Nat
  /-- The deficit of LOW, the residual of HIGH and UNDECLARED. -/
  difference : Nat
  estimate : Nat
  /-- The attributed positions: bit p-1 for position p. -/
  attributed : Byte
  candidate : Option Verdict
  repeats : Nat
  presence : Presence
  deriving DecidableEq, Repr

/-- The trip state of a line (R92). -/
inductive TripState where
  | normal | tripped | latched
  deriving DecidableEq, Repr

/-- Where a line stands between its switch-on and its measurements (R113 to R115). -/
inductive Timing where
  /-- The switch is OFF. -/
  | idle
  /-- A steady line switched on at `since`, not yet measured (R114). -/
  | settling (since : Nat)
  /-- A steady line whose last measurement instant was `last` (R114). -/
  | series (last : Nat)
  /-- A turn line in a full on-phase whose phase-begin came at `since`, not yet measured (R115). -/
  | fullPhase (since : Nat)
  /-- A turn line already measured in this on-phase (R115). -/
  | phaseMeasured
  /-- A turn line switched on part-way through an on-phase: not measured in it (R115). -/
  | partPhase
  deriving DecidableEq, Repr

/-- The off-state sample being counted and how often it has come (R100). -/
structure Agreement where
  sample : Presence
  count : Nat
  deriving DecidableEq, Repr

/-- What the Lamp Switch Bank, the Sense Front End and the Lamp Monitor hold for one line (R92, R112). -/
structure LampLine where
  /-- The switch is ON. -/
  on : Bool
  trip : TripState
  attempts : Nat
  /-- The run time (R105). -/
  runSince : Option Nat
  /-- The restart delay (R104). -/
  restartSince : Option Nat
  /-- The off time (R92). -/
  offSince : Nat
  agree : Option Agreement
  timing : Timing
  verdict : VerdictRecord
  deriving DecidableEq, Repr

/-- The Flash Generator: its phase and the start of the phase (R98, R99). -/
inductive Flash where
  | stopped
  | on (since : Nat)
  | off (since : Nat)
  deriving DecidableEq, Repr

/-! ### The Sense Front End (R6, R16) -/

/-- The debounced inputs and the sampling of the Sense Front End. -/
structure SenseFrontEnd where
  plugClosed : Bool
  /-- Plug samples in a row that differ from the debounced state. -/
  plugCount : Nat
  ignitionHigh : Bool
  ignitionCount : Nat
  /-- The next 50 ms sample instant; absent in PARKED. -/
  nextSample : Option Nat
  /-- The next self-wake; present in PARKED (R16). -/
  nextSelfWake : Option Nat
  parkedPlug : Bool
  parkedLines : PerLine Presence
  deriving DecidableEq, Repr

/-! ### Unit records and the Function Pool (R63, R72, R83) -/

/-- A node's generation. -/
inductive Generation where
  | a | b
  deriving DecidableEq, Repr

/-- The unit states of a record (chapter 3). -/
inductive UnitState where
  | placed | listing | bridging | serving | refused
  deriving DecidableEq, Repr

/-- A load record: r, c in mA and n lamps (R63). -/
structure Load where
  r : Nat
  c : Nat
  n : Nat
  deriving DecidableEq, Repr

/-- The refusal causes (R70). -/
inductive RefusalCause where
  | listUnreadable | loadUnreadable | genAConstant | loadLimit | entryUnreadable | functionClass | functionRange
  deriving DecidableEq, Repr

/-- A function's class (R69). -/
inductive FunctionClass where
  | sensor | momentary | latched | setpoint
  deriving DecidableEq, Repr

/-- A sensor's poll class (R69). -/
inductive PollClass where
  | fast | normal | slow
  deriving DecidableEq, Repr

/-- The quality of a sensor value (R129). -/
inductive Quality where
  | notYet | good | clamped | sensorFault | stale
  deriving DecidableEq, Repr

/-- A value record (R129). The age is the time since `answeredAt`; it stands at 0 while the quality is NOT-YET. -/
structure ValueRecord where
  value : Int
  quality : Quality
  answeredAt : Nat
  nextDue : Option Nat
  deriving DecidableEq, Repr

/-- A subscription of one slot on an entry (R129). -/
structure Subscription where
  delta : Nat
  lastNotified : Int
  deriving DecidableEq, Repr

/-- A function entry in use (R72). Its owner is the record whose function list holds it. -/
structure FunctionEntry where
  index : Nat
  code : Word16
  cls : FunctionClass
  min : Int
  max : Int
  /-- Present for SENSOR, absent otherwise. -/
  poll : Option PollClass
  /-- Present for SENSOR, absent otherwise. -/
  value : Option ValueRecord
  subs : PerSlot (Option Subscription)
  deriving DecidableEq, Repr

/-- A unit record (R63). -/
structure UnitRecord where
  position : Nat
  identity : Word32
  generation : Generation
  signature : Word16
  state : UnitState
  partialFlag : Bool
  restored : Bool
  loads : PerLine Load
  /-- The lamp fault set: bit i for line i. -/
  lampFaults : Byte
  declared : Nat
  functions : List FunctionEntry
  /-- The refusal cause and the line or index it names (0 when it names none). -/
  refusal : Option (RefusalCause × Nat)
  deriving DecidableEq, Repr

/-- A cache record (R83). Its recency rank is its place in the cache, the first being rank 1. -/
structure CacheRecord where
  identity : Word32
  generation : Generation
  signature : Word16
  loads : PerLine Load
  declared : Nat
  partialFlag : Bool
  functions : List FunctionEntry
  deriving DecidableEq, Repr

/-! ### Claims and queued work (R143, R35, R38) -/

/-- The commands of ACTUATE (R142). -/
inductive Command where
  | run | stop | on | off | set
  deriving DecidableEq, Repr

/-- The sender of an ACTUATE whose answer is wanted (R35). -/
structure Requester where
  slot : Slot
  sequence : Byte
  deriving DecidableEq, Repr

/-- An Urgent Queue entry (R35). -/
structure UrgentEntry where
  position : Nat
  index : Nat
  command : Command
  value : Int
  clamped : Bool
  requester : Option Requester
  deriving DecidableEq, Repr

/-- PARAM-GET, or PARAM-SET with its value (R38). -/
inductive AccessKind where
  | get
  | set (value : Word32)
  deriving DecidableEq, Repr

/-- An Access Queue entry (R38). -/
structure AccessEntry where
  slot : Slot
  sequence : Byte
  position : Nat
  parameter : Byte
  kind : AccessKind
  deriving DecidableEq, Repr

/-- HELD, or ENDING with whether its removal owes the holder CLAIM-END RELEASED-BY-STOP (R149). -/
inductive ClaimState where
  | held
  | ending (announce : Bool)
  deriving DecidableEq, Repr

/-- Where a claim's urgent entry stands (R143). -/
inductive EntryPlace where
  | waiting | inFlight
  deriving DecidableEq, Repr

/-- A claim (R143). -/
structure Claim where
  position : Nat
  index : Nat
  holder : Slot
  cls : FunctionClass
  state : ClaimState
  lastRun : Option Nat
  entry : Option EntryPlace
  stopMark : Bool
  deriving DecidableEq, Repr

/-! ### The trailer line (R29) and the walk (R44) -/

/-- The call kinds (11.3). -/
inductive CallKind where
  | probe | place | bridge | listOpen | listEntry | loadRead | sense | actuate | paramGet | paramSet | lampReport
  deriving DecidableEq, Repr

/-- A bring-up step of the Chain Walker (R44, R51). A PLACE carries its position and what the PROBE answer gave. -/
inductive Step where
  | probe
  | place (position : Nat) (identity : Word32) (generation : Generation) (signature : Word16)
  | listOpen (position : Nat)
  | loadRead (position : Nat) (line : Line)
  | listEntry (position index : Nat)
  | bridge (position : Nat)
  | lampReport (position : Nat)
  deriving DecidableEq, Repr

/-- The work a transaction serves (R29). -/
inductive Originator where
  | bringUp (step : Step)
  | urgent (entry : UrgentEntry)
  | access (entry : AccessEntry)
  | poll (position index : Nat)
  deriving DecidableEq, Repr

/-- The phase of a transaction (R29). AWAITING keeps the time of the end of the call or of the last answer byte, and
the answer bytes received so far. -/
inductive TxPhase where
  | calling
  | awaiting (since : Nat) (received : List Byte)
  | resync
  deriving DecidableEq, Repr

/-- The transaction in flight (R29). -/
structure Transaction where
  kind : CallKind
  target : Nat
  payload : List Byte
  originator : Originator
  attempts : Nat
  phase : TxPhase
  deriving DecidableEq, Repr

/-- The Trailer Line Controller. -/
structure TrailerLine where
  tx : Option Transaction
  /-- The resync gap (R25). -/
  gapSince : Option Nat
  urgent : List UrgentEntry
  access : List AccessEntry
  /-- The bytes of the last call sent in full (model's record of TDATA). -/
  tdataOut : List Byte
  deriving DecidableEq, Repr

/-- The Chain Walker (R44). Sets of positions have bit p-1 for position p. -/
structure Walker where
  pointer : Nat
  active : Bool
  extSince : Option Nat
  extDue : Bool
  offered : Option Step
  lampReports : Byte
  lampFaultSeen : Byte
  rearSeen : Bool
  /-- The presence list, held for the length of a listing (R66). -/
  presenceList : Word32
  /-- The walk's next step while a LAMP-REPORT stays offered: it is offered once that LAMP-REPORT has been started (R45, R59, log
  entry 27). -/
  owed : Option Step
  deriving DecidableEq, Repr

/-! ### Counters, masters and the vehicle port -/

/-- The sixteen counters in dump order (R41). -/
inductive Counter where
  | callsSent | answersGood | checkErrors | shortAnswers | noAnswers | transactionsFailed | unitsLost | requestsTaken
  | requestsBusy | framesUnknownSender | noticesDropped | busOffEvents | trips | verdictChanges | combinationsBuilt
  | cacheRestores
  deriving DecidableEq, Repr

/-- The Counter Bank (R41). -/
structure Counters where
  callsSent : Nat
  answersGood : Nat
  checkErrors : Nat
  shortAnswers : Nat
  noAnswers : Nat
  transactionsFailed : Nat
  unitsLost : Nat
  requestsTaken : Nat
  requestsBusy : Nat
  framesUnknownSender : Nat
  noticesDropped : Nat
  busOffEvents : Nat
  trips : Nat
  verdictChanges : Nat
  combinationsBuilt : Nat
  cacheRestores : Nat
  deriving DecidableEq, Repr

/-- What a slot holds beside its setting words (R93, R96, R158). -/
structure SlotState where
  /-- The request set: bit i for line i. -/
  requestSet : Byte
  refreshSince : Nat
  refreshExpired : Bool
  missed : Bool
  deriving DecidableEq, Repr

/-- The setup window (R165). -/
structure SetupWindow where
  open_ : Bool
  holder : Option Slot
  deadlineSince : Option Nat
  deriving DecidableEq, Repr

/-- A frame the part sends (R170, R176). -/
structure Frame where
  ident : Ident
  data : List Byte
  deriving DecidableEq, Repr

/-- An Intake Queue entry (R157): the slot and the data bytes received. -/
structure IntakeEntry where
  slot : Slot
  data : List Byte
  deriving DecidableEq, Repr

/-- The response statuses (11.2). -/
inductive Status where
  | done | part | refusedFormat | refusedUnknown | refusedRights | refusedRange | refusedState
  | busy | held | setupClosed | superseded | unitLost | unitInhibited | unitDeclined
  deriving DecidableEq, Repr

/-- A response before it is formed into a frame (R162, 11.2). -/
structure Response where
  slot : Slot
  code : Byte
  sequence : Byte
  status : Status
  clamped : Bool
  data : List Byte
  deriving DecidableEq, Repr

/-- The FULL-RESET transmit wait (R174): its start, and how many frames of the Report Queue stand up to and including
the DONE frame (0 once that frame has been transmitted). -/
structure FullResetWait where
  since : Nat
  ahead : Nat
  deriving DecidableEq, Repr

/-- The Vehicle Port with the Intake Queue, the deferred-response list and the Report Queue. -/
structure Port where
  busOff : Bool
  intake : List IntakeEntry
  deferred : List Response
  report : List Frame
  fullReset : Option FullResetWait
  /-- The last frame whose transmission completed (model's record of CANH and CANL). -/
  canOut : Option Frame
  deriving DecidableEq, Repr

/-! ### The whole -/

/-- The state of the part. -/
structure State where
  /-- The model's clock in ms (log entry 1). -/
  now : Nat
  comb : Combination
  sense : SenseFrontEnd
  line : TrailerLine
  walker : Walker
  units : List UnitRecord
  cache : List CacheRecord
  lamps : PerLine LampLine
  flash : Flash
  claims : List Claim
  slots : PerSlot SlotState
  settings : Settings
  setup : SetupWindow
  port : Port
  counters : Counters
  /-- The commands that wait, first in first out (the host's form). -/
  pending : List Instr
  deriving DecidableEq, Repr

/-- The part has no fault that stops it: the manual gives every event an effect, and exec always answers a next
state. No constructor, so no step can end in one. -/
inductive Fault where
  deriving DecidableEq, Repr

/-- Why a command has no meaning in the model. -/
inductive Refusal where
  /-- Raised by an arm of exec whose command is not modelled yet; no arm is such (safe). -/
  | notModelled (mnemonic : String)
  deriving DecidableEq, Repr

/-- A verdict record after a reset, with the presence it keeps (R112, R18). -/
def VerdictRecord.cleared (presence : Presence) : VerdictRecord :=
  { verdict := .pending, held := false, lastE := 0, lastM := 0, lastU := 0, lower := 0, upper := 0, difference := 0,
    estimate := 0, attributed := 0, candidate := none, repeats := 0, presence }

/-- The walker after a reset, the drop and COMBINATION-RESET (R44). -/
def Walker.idle : Walker :=
  { pointer := 1, active := false, extSince := none, extDue := false, offered := none, lampReports := 0,
    lampFaultSeen := 0, rearSeen := false, presenceList := 0, owed := none }

/-- Every counter at 0 (R41). -/
def Counters.zero : Counters := ⟨0, 0, 0, 0, 0, 0, 0, 0, 0, 0, 0, 0, 0, 0, 0, 0⟩

/-- A lamp line after a reset that ends at `t` (R92, R112). -/
def LampLine.resetAt (t : Nat) : LampLine :=
  { on := false, trip := .normal, attempts := 0, runSince := none, restartSince := none, offSince := t, agree := none,
    timing := .idle, verdict := .cleared .unknown }

/-- The part right after a power-on reset that ends when the clock stands at `t` (R20; each block as its own chapter
states, see INVENTORY.md). The parked samples are a DESIGN CHOICE (log entry 3). -/
def State.resetAt (t : Nat) : State where
  now := t
  comb :=
    { state := .detached, unsettled := false, chainFull := false, identityClash := false, passiveLoad := false,
      feed := false, recordedAttach := false, wakeCause := .none, resetCause := .powerOn, attachSince := none,
      parkSince := some t, feedStartSince := none, feedOffSince := none, entryWaiting := false,
      startWaitSince := none, heldInReset := false }
  sense :=
    { plugClosed := false, plugCount := 0, ignitionHigh := false, ignitionCount := 0, nextSample := some t,
      nextSelfWake := none, parkedPlug := false, parkedLines := .const .unknown }
  line := { tx := none, gapSince := none, urgent := [], access := [], tdataOut := [] }
  walker := .idle
  units := []
  cache := []
  lamps := .const (.resetAt t)
  flash := .stopped
  claims := []
  slots := .const { requestSet := 0, refreshSince := t, refreshExpired := true, missed := false }
  settings := .default
  setup := { open_ := true, holder := none, deadlineSince := some t }
  port := { busOff := false, intake := [], deferred := [], report := [], fullReset := none, canOut := none }
  counters := .zero
  pending := []

/-- The part right after power-on reset (R20); the model's clock starts at 0 (log entry 1). -/
def State.reset : State := State.resetAt 0

end Sys2Proof.Machine
end

