-- ==== Sys2Proof/Machine/Formats.lean ====
section
/-! DEFINITION. The codes and layouts of chapter 11, the CRC-8 of R22, and the bytes of numbers and sets. -/
namespace Sys2Proof.Machine

/-! ### Numbers in bytes (11: most significant byte first, two's complement) -/

/-- A number in one byte. -/
def byteOf (n : Nat) : Byte := BitVec.ofNat 8 n

/-- A number in two bytes. -/
def bytes16 (n : Nat) : List Byte := [BitVec.ofNat 8 (n / 256), BitVec.ofNat 8 n]

/-- A 16-bit word in two bytes. -/
def bytesOfWord16 (w : Word16) : List Byte := bytes16 w.toNat

/-- A 32-bit word in four bytes. -/
def bytesOfWord32 (w : Word32) : List Byte :=
  [w.extractLsb' 24 8, w.extractLsb' 16 8, w.extractLsb' 8 8, w.extractLsb' 0 8]

/-- A signed number in two bytes. -/
def bytesSigned (i : Int) : List Byte := bytesOfWord16 (BitVec.ofInt 16 i)

/-- The number that bytes spell. -/
def natOfBytes (bs : List Byte) : Nat := bs.foldl (fun n b => 256 * n + b.toNat) 0

/-- The 16-bit word that two bytes spell. -/
def word16Of (bs : List Byte) : Word16 := BitVec.ofNat 16 (natOfBytes bs)

/-- The 32-bit word that four bytes spell. -/
def word32Of (bs : List Byte) : Word32 := BitVec.ofNat 32 (natOfBytes bs)

/-- The signed number that two bytes spell. -/
def signedOf (bs : List Byte) : Int := (word16Of bs).toInt

/-- The byte of a list at a place, 0 where the list is shorter. -/
def byteAt (bs : List Byte) (i : Nat) : Byte := bs.getD i 0

/-- A flag as bit 0 of a byte. -/
def flagByte (b : Bool) : Byte := if b then 1 else 0

/-- Exactly `n` bytes: the list cut or filled with zeros (R176). -/
def fitBytes : Nat → List Byte → List Byte
  | 0, _ => []
  | n + 1, [] => 0 :: fitBytes n []
  | n + 1, b :: bs => b :: fitBytes n bs

/-! ### Line, slot and position sets -/

/-- The line number (R92). -/
def lineNumber : Line → Nat
  | .tailL => 0
  | .tailR => 1
  | .stop => 2
  | .turnL => 3
  | .turnR => 4
  | .reverse => 5
  | .fog => 6
  | .marker => 7

/-- The line a number names (R92). -/
def lineOfNumber (n : Nat) : Option Line := allLines[n]?

/-- The turn lines (R92). -/
def isTurn : Line → Bool
  | .turnL | .turnR => true
  | _ => false

/-- A set of lines holds a line: bit i stands for line number i (11). -/
def inLineSet (set : Byte) (l : Line) : Bool := set.getLsbD (lineNumber l)

/-- The set of one line. -/
def lineBit (l : Line) : Byte := 1#8 <<< lineNumber l

/-- The set of the lines that satisfy a test. -/
def lineSetOf (p : Line → Bool) : Byte :=
  allLines.foldl (fun set l => if p l then set ||| lineBit l else set) 0

/-- The slot number (R158). -/
def slotNumber : Slot → Nat
  | .s0 => 0
  | .s1 => 1
  | .s2 => 2
  | .s3 => 3

/-- The set of the slots that satisfy a test, in bits 0 to 3 (11). -/
def slotSetOf (p : Slot → Bool) : Byte :=
  allSlots.foldl (fun set k => if p k then set ||| (1#8 <<< slotNumber k) else set) 0

/-- The set of one position: bit p-1 for position p (11.2). No bit stands for position 0, which is no position of a unit (R49). -/
def positionBit (p : Nat) : Byte := if p = 0 then 0 else 1#8 <<< (p - 1)

/-- A set of positions holds a position from 1 to 6. -/
def inPositionSet (set : Byte) (p : Nat) : Bool := p ≠ 0 && set.getLsbD (p - 1)

/-- The positions of a set below `k`. -/
def positionsBelow (set : Byte) (k : Nat) : Byte := set &&& ((1#8 <<< (k - 1)) - 1)

/-! ### Codes (11.1) -/

def combStateCode : CombState → Nat
  | .detached => 0
  | .settling => 1
  | .building => 2
  | .serving => 3
  | .parked => 4

def unitStateCode : UnitState → Nat
  | .placed => 0
  | .listing => 1
  | .bridging => 2
  | .serving => 3
  | .refused => 4

/-- LOST, used in UNIT notices alone (R53). -/
def unitLostCode : Nat := 5

def generationCode : Generation → Nat
  | .a => 1
  | .b => 2

def generationOf (b : Byte) : Option Generation :=
  if b = 1 then some .a else if b = 2 then some .b else none

def refusalCode : RefusalCause → Nat
  | .listUnreadable => 1
  | .loadUnreadable => 2
  | .genAConstant => 3
  | .loadLimit => 4
  | .entryUnreadable => 5
  | .functionClass => 6
  | .functionRange => 7

def verdictCode : Verdict → Nat
  | .pending => 0
  | .none => 1
  | .open => 2
  | .low => 3
  | .ok => 4
  | .high => 5
  | .undeclared => 6
  | .short => 7
  | .oversubscribed => 8

/-- The candidate's code: FFh when there is none (11.1). -/
def candidateCode : Option Verdict → Nat
  | none => 0xFF
  | some v => verdictCode v

def presenceCode : Presence → Nat
  | .unknown => 0
  | .loaded => 1
  | .open => 2

def tripCode : TripState → Nat
  | .normal => 0
  | .tripped => 1
  | .latched => 2

def classCode : FunctionClass → Nat
  | .sensor => 1
  | .momentary => 2
  | .latched => 3
  | .setpoint => 4

def classOf (b : Byte) : Option FunctionClass :=
  if b = 1 then some .sensor
  else if b = 2 then some .momentary
  else if b = 3 then some .latched
  else if b = 4 then some .setpoint
  else none

/-- The poll class's code: 0 NONE when it is absent. -/
def pollCode : Option PollClass → Nat
  | none => 0
  | some .fast => 1
  | some .normal => 2
  | some .slow => 3

def pollOf (b : Byte) : Option PollClass :=
  if b = 1 then some .fast else if b = 2 then some .normal else if b = 3 then some .slow else none

def qualityCode : Quality → Nat
  | .notYet => 0
  | .good => 1
  | .clamped => 2
  | .sensorFault => 3
  | .stale => 4

def commandCode : Command → Nat
  | .run => 1
  | .stop => 2
  | .on => 3
  | .off => 4
  | .set => 5

def commandOf (b : Byte) : Option Command :=
  if b = 1 then some .run
  else if b = 2 then some .stop
  else if b = 3 then some .on
  else if b = 4 then some .off
  else if b = 5 then some .set
  else none

def resetCauseCode : ResetCause → Nat
  | .powerOn => 1
  | .lowSupply => 2
  | .requested => 3

def wakeCauseCode : WakeCause → Nat
  | .none => 0
  | .ignition => 1
  | .busFrame => 2
  | .attachChange => 3

def flashCode : Flash → Nat
  | .stopped => 0
  | .on _ => 1
  | .off _ => 2

def txPhaseCode : TxPhase → Nat
  | .calling => 1
  | .awaiting _ _ => 2
  | .resync => 3

/-- The call kinds' codes (11.3). -/
def callKindCode : CallKind → Nat
  | .probe => 0x01
  | .place => 0x02
  | .bridge => 0x03
  | .listOpen => 0x04
  | .listEntry => 0x05
  | .loadRead => 0x06
  | .sense => 0x07
  | .actuate => 0x08
  | .paramGet => 0x09
  | .paramSet => 0x0A
  | .lampReport => 0x0B

def statusCode : Status → Nat
  | .done => 0x00
  | .part => 0x01
  | .refusedFormat => 0x10
  | .refusedUnknown => 0x11
  | .refusedRights => 0x12
  | .refusedRange => 0x13
  | .refusedState => 0x14
  | .busy => 0x20
  | .held => 0x21
  | .setupClosed => 0x22
  | .superseded => 0x30
  | .unitLost => 0x31
  | .unitInhibited => 0x32
  | .unitDeclined => 0x33

/-- The reasons of CLAIM-END (R153). -/
inductive EndReason where
  | expired | releasedByStop | unitLost | forced
  deriving DecidableEq, Repr

def endReasonCode : EndReason → Nat
  | .expired => 1
  | .releasedByStop => 2
  | .unitLost => 3
  | .forced => 4

/-- The causes of SETUP (R165). -/
inductive SetupCause where
  | deadline | requested
  deriving DecidableEq, Repr

def setupCauseCode : SetupCause → Nat
  | .deadline => 1
  | .requested => 2

/-- The notice kinds (11.1). -/
inductive NoticeKind where
  | combination | unit | verdict | trip | claimEnd | sense | setup
  deriving DecidableEq, Repr

def noticeKindCode : NoticeKind → Nat
  | .combination => 1
  | .unit => 2
  | .verdict => 3
  | .trip => 4
  | .claimEnd => 5
  | .sense => 6
  | .setup => 7

/-- A kind's bit in a routing set. -/
def noticeKindBit (k : NoticeKind) : Nat := noticeKindCode k - 1

/-! ### Request codes (11.2) -/

def codeLampSet : Byte := 0x10
def codeLineReset : Byte := 0x11
def codeVerdictRead : Byte := 0x20
def codeCombinationRead : Byte := 0x21
def codeUnitRead : Byte := 0x22
def codeFunctionRead : Byte := 0x23
def codePartStatusRead : Byte := 0x24
def codeSenseRead : Byte := 0x30
def codeSenseSubscribe : Byte := 0x31
def codeSenseUnsubscribe : Byte := 0x32
def codeActuate : Byte := 0x40
def codeRelease : Byte := 0x41
def codeForceRelease : Byte := 0x42
def codeUnitParamRead : Byte := 0x50
def codeUnitParamWrite : Byte := 0x51
def codeSettingRead : Byte := 0x60
def codeSettingWrite : Byte := 0x61
def codeSettingFieldWrite : Byte := 0x62
def codeSetupClose : Byte := 0x63
def codeNoticeRoute : Byte := 0x64
def codeCountersDump : Byte := 0x70
def codeCountersDumpReset : Byte := 0x71
def codeCombinationReset : Byte := 0x7E
def codeFullReset : Byte := 0x7F

/-- The codes that the Request Engine takes: every request code but LAMP-SET, which the port hands to the lamps on
arrival (R156, R161). -/
def takenCodes : List Byte :=
  [codeLineReset, codeVerdictRead, codeCombinationRead, codeUnitRead, codeFunctionRead, codePartStatusRead,
   codeSenseRead, codeSenseSubscribe, codeSenseUnsubscribe, codeActuate, codeRelease, codeForceRelease,
   codeUnitParamRead, codeUnitParamWrite, codeSettingRead, codeSettingWrite, codeSettingFieldWrite, codeSetupClose,
   codeNoticeRoute, codeCountersDump, codeCountersDumpReset, codeCombinationReset, codeFullReset]

/-! ### Vehicle frames (11.2) -/

/-- The identifier: block in bits 28-16, kind in bits 15-8, tag in bits 7-0. -/
def identOf (block : BitVec 13) (kind tag : Byte) : Ident := (block ++ kind) ++ tag

def identBlock (i : Ident) : BitVec 13 := i.extractLsb' 16 13
def identKind (i : Ident) : Byte := i.extractLsb' 8 8
def identTag (i : Ident) : Byte := i.extractLsb' 0 8

def kindRequest : Byte := 0x01
def kindResponse : Byte := 0x02
def kindNotice : Byte := 0x03

/-- The tag of an empty slot (R158). -/
def emptyTag : Byte := 0xFF

/-- The data bytes of a received frame: at most 8, whatever the length code says above that (R175). -/
def frameData (f : BusFrame) : List Byte := f.bytes.take (Nat.min f.lengthCode 8)

/-- The response record: code echo, sequence tag, status, flags, four data bytes (11.2). -/
def responseBytes (code sequence : Byte) (status : Status) (missed clamped : Bool) (data : List Byte) : List Byte :=
  [code, sequence, byteOf (statusCode status), flagByte missed ||| (flagByte clamped <<< 1)] ++ fitBytes 4 data

/-- The continuation layout of a counter dump: sequence tag, status PART, three counters (11.2). -/
def continuationBytes (sequence : Byte) (counters : List Nat) : List Byte :=
  fitBytes 8 ([sequence, byteOf (statusCode .part)] ++ counters.flatMap bytes16)

/-- The notice record: the kind with the missed flag in bit 7, then the content (11.2). -/
def noticeBytes (kind : NoticeKind) (missed : Bool) (content : List Byte) : List Byte :=
  (byteOf (noticeKindCode kind) ||| (flagByte missed <<< 7)) :: fitBytes 7 content

/-! ### Trailer frames (R21, R22, 11.3) -/

/-- One shift of the check's running value: left by one place, combined with 07h when a one is carried out (R22). -/
def crcShift (v : Byte) : Byte := if v.msb then (v <<< 1) ^^^ 0x07 else v <<< 1

/-- One byte taken into the running value (R22). -/
def crcByte (v b : Byte) : Byte :=
  crcShift (crcShift (crcShift (crcShift (crcShift (crcShift (crcShift (crcShift (v ^^^ b))))))))

/-- The check over bytes in frame order, from 00h (R22). -/
def crc8 (bs : List Byte) : Byte := bs.foldl crcByte 0

/-- The header of a call: the target in bits 0-2, the kind in bits 3-7 (11.3). -/
def callHeader (kind : CallKind) (target : Nat) : Byte := BitVec.ofNat 8 (8 * callKindCode kind + target)

/-- A call frame: header, length, payload and check (R21). -/
def callFrame (t : Transaction) : List Byte :=
  let body := callHeader t.kind t.target :: byteOf t.payload.length :: t.payload
  body ++ [crc8 body]

/-- The result of an answer (11.3). -/
inductive AnswerResult where
  | accept | decline | inhibit | unknownKind
  deriving DecidableEq, Repr

/-- The result in bits 0 and 1 of the answer status (R177). -/
def answerResult (status : Byte) : AnswerResult :=
  match status.getLsbD 1, status.getLsbD 0 with
  | false, false => .accept
  | false, true => .decline
  | true, false => .inhibit
  | true, true => .unknownKind

/-- Rear-activity, bit 4 of the answer status (11.3). -/
def answerRear (status : Byte) : Bool := status.getLsbD 4
/-- Lamp-fault, bit 5 (11.3). -/
def answerLampFault (status : Byte) : Bool := status.getLsbD 5
/-- Sensor-fault, bit 6 (11.3). -/
def answerSensorFault (status : Byte) : Bool := status.getLsbD 6

/-- The answer payload lengths a call admits for a result, by the table of 11.3; `gen` is the generation of the unit
record, on which the lengths of LIST-OPEN and SENSE depend (R28). An empty list: the result is not admitted. -/
def admittedLengths (kind : CallKind) (result : AnswerResult) (gen : Option Generation) : List Nat :=
  match result, kind with
  | .unknownKind, _ => [0]
  | .accept, .probe => [7]
  | .accept, .place | .accept, .bridge | .accept, .actuate | .accept, .paramSet => [0]
  | .accept, .listOpen => match gen with
    | some .a => [1]
    | some .b => [4]
    | none => []
  | .accept, .listEntry => [8]
  | .accept, .loadRead => [5]
  | .accept, .sense => match gen with
    | some .a => [1]
    | some .b => [2]
    | none => []
  | .accept, .paramGet => [4]
  | .accept, .lampReport => [1]
  | .decline, .place | .decline, .bridge | .decline, .listEntry | .decline, .paramGet | .decline, .paramSet => [0]
  | .decline, _ => []
  | .inhibit, .actuate => [0]
  | .inhibit, _ => []

end Sys2Proof.Machine
end

