-- ==== Sys2Proof/Machine/Operands.lean ====
section
/-! DEFINITION. The fields of the setting words, the Master Table they hold, and the operands of a request. -/
namespace Sys2Proof.Machine

/-! ### Settings as numbers -/

/-- A setting as the number its word holds (R164: a word may hold a single number). -/
def State.setting (s : State) (n : Setting) : Nat := (s.settings.get n).toNat

/-- The identifier block (02h, bits 0-12). -/
def State.block (s : State) : BitVec 13 := s.settings.identifierBlock.extractLsb' 0 13

/-- The park delay in ms: its word holds seconds (11.4). -/
def State.parkDelayMs (s : State) : Nat := 1000 * s.setting .parkDelay

/-- The interval of a poll class (R131). -/
def State.pollInterval (s : State) : PollClass → Nat
  | .fast => s.setting .pollFast
  | .normal => s.setting .pollNormal
  | .slow => s.setting .pollSlow

/-- The off-state sense of a line is enabled (R100, 38h). -/
def State.senseEnabled (s : State) (l : Line) : Bool := s.settings.senseEnables.getLsbD (lineNumber l)

/-! ### The Master Table (R158) -/

/-- The rights of a slot word, in bits 16-22 (11.1, 11.4). -/
inductive Right where
  | lamps | stopLine | lineReset | bodyClaim | unitAccess | settings | resets
  deriving DecidableEq, Repr

/-- A right's bit in the rights set (11.1). -/
def rightBit : Right → Nat
  | .lamps => 0
  | .stopLine => 1
  | .lineReset => 2
  | .bodyClaim => 3
  | .unitAccess => 4
  | .settings => 5
  | .resets => 6

/-- The tag of a slot word. -/
def wordTag (w : Word32) : Byte := w.extractLsb' 0 8

/-- A slot word gives a right. -/
def wordHasRight (w : Word32) (r : Right) : Bool := w.getLsbD (16 + rightBit r)

/-- The tag a slot holds (R158). -/
def State.tag (s : State) (k : Slot) : Byte := wordTag (s.settings.slotWord.get k)

/-- A slot is empty: its tag is FFh (R158). -/
def State.slotEmpty (s : State) (k : Slot) : Bool := s.tag k == emptyTag

/-- A slot holds a right (R159). -/
def State.hasRight (s : State) (k : Slot) (r : Right) : Bool := wordHasRight (s.settings.slotWord.get k) r

/-- A slot's intake quota (R158). -/
def State.quota (s : State) (k : Slot) : Nat := s.setting (.intakeQuota k)

/-- A slot's lamp refresh window (R96). -/
def State.refreshWindow (s : State) (k : Slot) : Nat := s.setting (.refreshWindow k)

/-- A slot's notice routing includes a kind (R171). -/
def State.routes (s : State) (k : Slot) (kind : NoticeKind) : Bool :=
  (s.settings.noticeRouting.get k).getLsbD (noticeKindBit kind)

/-- The slot that holds a tag; an empty slot matches no tag (R156, R158). -/
def State.slotOfTag (s : State) (tag : Byte) : Option Slot :=
  allSlots.find? fun k => !s.slotEmpty k && s.tag k == tag

/-- The lines a slot word's rights cover (R94): all with LAMPS, STOP with STOP-LINE, else none. -/
def coveredLines (w : Word32) : Byte :=
  if wordHasRight w .lamps then 0xFF
  else if wordHasRight w .stopLine then lineBit .stop
  else 0

/-! ### The numbered list of settings (11.4) -/

/-- The classes of setting words (R164). -/
inductive SettingClass where
  | setup | runtime | fixed
  deriving DecidableEq, Repr

/-- The slot of an offset 0 to 3. -/
def slotOfOffset (n : Nat) : Slot :=
  match n with
  | 0 => .s0
  | 1 => .s1
  | 2 => .s2
  | _ => .s3

/-- The setting a number names (11.4); a number not listed names none. -/
def settingOfNumber (n : Nat) : Option Setting :=
  if 0x10 ≤ n ∧ n ≤ 0x13 then some (.slotWord (slotOfOffset (n - 0x10)))
  else if 0x14 ≤ n ∧ n ≤ 0x17 then some (.intakeQuota (slotOfOffset (n - 0x14)))
  else if 0x18 ≤ n ∧ n ≤ 0x1B then some (.noticeRouting (slotOfOffset (n - 0x18)))
  else if 0x1C ≤ n ∧ n ≤ 0x1F then some (.refreshWindow (slotOfOffset (n - 0x1C)))
  else if 0x30 ≤ n ∧ n ≤ 0x37 then (lineOfNumber (n - 0x30)).map .lampSettle
  else match n with
    | 0x00 => some .partCode
    | 0x01 => some .behaviourRevision
    | 0x02 => some .identifierBlock
    | 0x03 => some .retryLimit
    | 0x04 => some .tripAttempts
    | 0x20 => some .attachDebounce
    | 0x21 => some .feedStartWait
    | 0x22 => some .extensionInterval
    | 0x23 => some .pollFast
    | 0x24 => some .pollNormal
    | 0x25 => some .pollSlow
    | 0x26 => some .momentaryHold
    | 0x27 => some .flashOn
    | 0x28 => some .flashOff
    | 0x29 => some .restartDelay
    | 0x2A => some .parkDelay
    | 0x2B => some .openThreshold
    | 0x2C => some .toleranceLow
    | 0x2D => some .toleranceHigh
    | 0x2E => some .toleranceFloor
    | 0x2F => some .noticeReserve
    | 0x38 => some .senseEnables
    | _ => none

/-- A setting's class (11.4). -/
def settingClass : Setting → SettingClass
  | .partCode | .behaviourRevision => .fixed
  | .identifierBlock | .retryLimit | .tripAttempts | .slotWord _ => .setup
  | _ => .runtime

/-- The least and greatest value of a setting that is a single clamped number (11.4); none for the words that are
judged bit by bit. -/
def settingRange : Setting → Option (Nat × Nat)
  | .retryLimit | .tripAttempts => some (1, 7)
  | .intakeQuota _ => some (1, 16)
  | .attachDebounce | .feedStartWait => some (50, 1000)
  | .extensionInterval => some (200, 5000)
  | .pollFast => some (100, 1000)
  | .pollNormal => some (200, 5000)
  | .pollSlow => some (1000, 30000)
  | .momentaryHold => some (100, 1000)
  | .flashOn | .flashOff => some (200, 1000)
  | .restartDelay => some (100, 5000)
  | .parkDelay => some (5, 600)
  | .openThreshold => some (10, 500)
  | .toleranceLow | .toleranceHigh => some (0, 32)
  | .toleranceFloor => some (0, 500)
  | .noticeReserve => some (0, 12)
  | .lampSettle _ => some (20, 500)
  | .refreshWindow _ => some (100, 10000)
  | .partCode | .behaviourRevision | .identifierBlock | .slotWord _ | .noticeRouting _ | .senseEnables => none

/-- The bits that belong to a field of the word (R168, 11.4). A single number with no places given has the whole word
(DESIGN CHOICE, log entry 10). -/
def settingFieldBits : Setting → Word32
  | .identifierBlock => 0x00001FFF
  | .slotWord _ => 0x007F03FF
  | .noticeRouting _ => 0x0000007F
  | .senseEnables => 0x000000FF
  | _ => 0xFFFFFFFF

/-- A number clamped into a range (R168). -/
def clampNat (lo hi n : Nat) : Nat := Nat.max lo (Nat.min hi n)

/-- The word a write stores for a single number (R168, R178): clamped to the nearer end, a refresh window of 0 kept as
the hold value. -/
def clampedWord (n : Setting) (w : Word32) : Word32 :=
  match n, settingRange n with
  | .refreshWindow _, some (lo, hi) => if w = 0 then 0 else BitVec.ofNat 32 (clampNat lo hi w.toNat)
  | _, some (lo, hi) => BitVec.ofNat 32 (clampNat lo hi w.toNat)
  | _, none => w

/-! ### Operands of a request (11.2, R175) -/

/-- Byte 0: the code. A frame too short to carry it gives 00h (R157, R161). -/
def IntakeEntry.code (e : IntakeEntry) : Byte := byteAt e.data 0
/-- Byte 1: the sequence tag. -/
def IntakeEntry.sequence (e : IntakeEntry) : Byte := byteAt e.data 1
/-- An operand byte as a number. -/
def IntakeEntry.operand (e : IntakeEntry) (i : Nat) : Nat := (byteAt e.data i).toNat
/-- The operand bytes from `i`, `n` of them. -/
def IntakeEntry.operands (e : IntakeEntry) (i n : Nat) : List Byte := (e.data.drop i).take n

/-- A position operand is 1 to 6. -/
def validPosition (p : Nat) : Bool := 1 ≤ p && p ≤ 6
/-- A function index operand is 0 to 31. -/
def validIndex (i : Nat) : Bool := i ≤ 31

end Sys2Proof.Machine
end

