-- ==== Sys2Proof/Machine/Ops.lean ====
section
/-! DEFINITION. The shared operations: the clock, the counters, the Report Queue with its responses and notices, the
deferred-response list, the intake, and the frame of an event. -/
namespace Sys2Proof.Machine

/-- What a command answers. -/
abbrev Result := Host.Outcome State Fault Refusal

/-! ### Time -/

/-- The clock moves on to `t` if it has not reached it (log entry 1). -/
def State.reach (s : State) (t : Nat) : State := { s with now := Nat.max s.now t }

/-! ### Counters (R41) -/

/-- A counter raised by one, staying at 65 535 (R41). -/
def bumped (n : Nat) : Nat := if n < Config.counterTop then n + 1 else n

def Counters.bump (b : Counters) : Counter → Counters
  | .callsSent => { b with callsSent := bumped b.callsSent }
  | .answersGood => { b with answersGood := bumped b.answersGood }
  | .checkErrors => { b with checkErrors := bumped b.checkErrors }
  | .shortAnswers => { b with shortAnswers := bumped b.shortAnswers }
  | .noAnswers => { b with noAnswers := bumped b.noAnswers }
  | .transactionsFailed => { b with transactionsFailed := bumped b.transactionsFailed }
  | .unitsLost => { b with unitsLost := bumped b.unitsLost }
  | .requestsTaken => { b with requestsTaken := bumped b.requestsTaken }
  | .requestsBusy => { b with requestsBusy := bumped b.requestsBusy }
  | .framesUnknownSender => { b with framesUnknownSender := bumped b.framesUnknownSender }
  | .noticesDropped => { b with noticesDropped := bumped b.noticesDropped }
  | .busOffEvents => { b with busOffEvents := bumped b.busOffEvents }
  | .trips => { b with trips := bumped b.trips }
  | .verdictChanges => { b with verdictChanges := bumped b.verdictChanges }
  | .combinationsBuilt => { b with combinationsBuilt := bumped b.combinationsBuilt }
  | .cacheRestores => { b with cacheRestores := bumped b.cacheRestores }

/-- The counters in dump order (R41). -/
def Counters.toList (b : Counters) : List Nat :=
  [b.callsSent, b.answersGood, b.checkErrors, b.shortAnswers, b.noAnswers, b.transactionsFailed, b.unitsLost,
   b.requestsTaken, b.requestsBusy, b.framesUnknownSender, b.noticesDropped, b.busOffEvents, b.trips,
   b.verdictChanges, b.combinationsBuilt, b.cacheRestores]

/-- An event counted (R41). -/
def State.count (s : State) (c : Counter) : State := { s with counters := s.counters.bump c }

/-! ### The Report Queue (R170, R171) -/

/-- The free frames of the Report Queue (R170). -/
def State.freeFrames (s : State) : Nat := Config.reportFrames - s.port.report.length

/-- A slot's missed flag written (R171). -/
def State.setMissed (s : State) (k : Slot) (b : Bool) : State :=
  { s with slots := s.slots.set k { s.slots.get k with missed := b } }

/-- A slot's missed flag. -/
def State.missed (s : State) (k : Slot) : Bool := (s.slots.get k).missed

/-- A frame put at the tail of the Report Queue, addressed to a slot's tag as it stands (R170). -/
def State.queueFrame (s : State) (kind : Byte) (k : Slot) (data : List Byte) : State :=
  { s with port := { s.port with report := s.port.report ++ [⟨identOf s.block kind (s.tag k), data⟩] } }

/-- A response queued: it carries the slot's missed flag, which is cleared in this event (R171). -/
def State.queueResponse (s : State) (r : Response) : State :=
  (s.queueFrame kindResponse r.slot
    (responseBytes r.code r.sequence r.status (s.missed r.slot) r.clamped r.data)).setMissed r.slot false

/-- A notice of this kind is offered to the slot: the slot is not empty and its routing includes the kind (R158,
R171). -/
def State.noticeFor (s : State) (kind : NoticeKind) (k : Slot) : Bool := !s.slotEmpty k && s.routes k kind

/-- An offered notice is queued now: the free frames exceed the notice reserve and no response waits (R162, R171). -/
def State.noticeRoom (s : State) : Bool :=
  s.port.deferred.isEmpty && decide (s.setting .noticeReserve < s.freeFrames)

/-- A notice queued, carrying the slot's missed flag (R171). -/
def State.queueNotice (s : State) (kind : NoticeKind) (k : Slot) (content : List Byte) : State :=
  (s.queueFrame kindNotice k (noticeBytes kind (s.missed k) content)).setMissed k false

/-- A notice dropped: counted, and the missed flag set (R171). -/
def State.dropNotice (s : State) (k : Slot) : State := (s.count .noticesDropped).setMissed k true

/-- A notice offered for one slot: queued or dropped (R171), or nothing where it is not routed. -/
def State.offerNotice (s : State) (kind : NoticeKind) (k : Slot) (content : List Byte) : State :=
  if s.noticeFor kind k then
    if s.noticeRoom then s.queueNotice kind k content else s.dropNotice k
  else s

/-- A notice offered to every slot, in ascending slot number (log entry 6). -/
def State.offerAll (s : State) (kind : NoticeKind) (content : List Byte) : State :=
  allSlots.foldl (fun s k => s.offerNotice kind k content) s

/-! ### Deferred responses (R162) -/

/-- A response joins the list: a LAMP-SET response takes the place of a waiting one of the same slot (R162). -/
def joinDeferred (r : Response) : List Response → List Response
  | [] => [r]
  | d :: ds =>
    if r.code = codeLampSet ∧ d.code = codeLampSet ∧ d.slot = r.slot then r :: ds else d :: joinDeferred r ds

/-- A response that takes the place of a waiting LAMP-SET response of its slot (R162). -/
def displaces (r : Response) (waiting : List Response) : Bool :=
  waiting.any fun d => decide (r.code = codeLampSet ∧ d.code = codeLampSet ∧ d.slot = r.slot)

/-- A response waits in the list. A LAMP-SET response whose place it takes is never sent (R162): a response that is not
queued sets the slot's missed flag (R171). -/
def State.waitResponse (s : State) (r : Response) : State :=
  let t := { s with port := { s.port with deferred := joinDeferred r s.port.deferred } }
  if displaces r s.port.deferred then t.setMissed r.slot true else t

/-- A response produced in an event that guarantees no frame (R162): discarded for an empty slot (R160), which leaves the
slot's missed flag as it stands (DEDUCED, log entry 28); queued at once if a frame is free, else waiting. -/
def State.deferResponse (s : State) (r : Response) : State :=
  if s.slotEmpty r.slot then s
  else if s.port.deferred.isEmpty && decide (0 < s.freeFrames) then s.queueResponse r
  else s.waitResponse r

/-- Several responses, oldest first. -/
def State.deferAll (s : State) (rs : List Response) : State := rs.foldl State.deferResponse s

/-- The oldest waiting response takes the frame that an event has freed (R162). -/
def State.serveDeferred (s : State) : State :=
  match s.port.deferred with
  | [] => s
  | r :: rs =>
    if 0 < s.freeFrames then
      State.queueResponse { s with port := { s.port with deferred := rs } } r
    else s

/-! ### Taking a request (R161) -/

/-- The frames the response to an entry needs at its taking (R161). -/
def State.framesNeeded (s : State) (e : IntakeEntry) : Nat :=
  if e.data.length < 8 then 1
  else if e.code = codeCountersDump then 6
  else if e.code = codeCountersDumpReset ∧ s.hasRight e.slot .resets then 6
  else 1

/-- The conditions of R161 on the part: not PARKED (the start wait is part of PARKED), no FULL-RESET wait, no deferred
response waiting (R162). -/
def State.takesRequests (s : State) : Bool :=
  decide (s.comb.state ≠ .parked) && s.port.fullReset.isNone && s.port.deferred.isEmpty

/-- The head of the intake, if the Request Engine takes it now and it is of the wanted sort, with the state after it has
left the queue (R161). -/
def State.takeHead (s : State) (wanted : IntakeEntry → Bool) : Option (IntakeEntry × State) :=
  match s.port.intake with
  | [] => none
  | e :: rest =>
    if s.takesRequests && wanted e && decide (s.framesNeeded e ≤ s.freeFrames) then
      some (e, { s with port := { s.port with intake := rest } })
    else none

/-- An entry of 8 data bytes that carries a code. -/
def isRequest (code : Byte) (e : IntakeEntry) : Bool := decide (8 ≤ e.data.length) && e.code == code

/-- A request with this code is taken: it leaves the intake, REQUESTS-TAKEN is counted and it is decided. Where the head
is no such request, or cannot be taken now, nothing is taken (R161). -/
def State.taking (s : State) (wanted : IntakeEntry → Bool) (decideIt : IntakeEntry → State → State) : State :=
  match s.takeHead wanted with
  | none => s
  | some (e, t) => decideIt e (t.count .requestsTaken)

/-- The response to an entry, queued in the frame its taking guaranteed (R161). -/
def State.answer (s : State) (e : IntakeEntry) (status : Status) (data : List Byte := []) (clamped : Bool := false) :
    State :=
  s.queueResponse { slot := e.slot, code := e.code, sequence := e.sequence, status, clamped, data }

/-! ### The attach condition and the two timers of chapter 1 -/

/-- The attach condition (R7). -/
def State.attached (s : State) : Bool :=
  s.sense.plugClosed || allLines.any fun l => (s.lamps.get l).verdict.presence == .loaded

/-- The attach debounce runs: it times how long the attach condition has differed from what the state assumes (R8). -/
def State.attachDiffers (s : State) : Bool :=
  match s.comb.state with
  | .detached => s.attached
  | .settling | .building | .serving => !s.attached
  | .parked => false

/-- The attach debounce starts, goes on or stops; a waiting entry to SETTLING ends where the condition fails (R8,
R19). -/
def State.retimeAttach (s : State) : State :=
  { s with comb :=
      { s.comb with
        attachSince := if s.attachDiffers then some (s.comb.attachSince.getD s.now) else none
        entryWaiting := s.comb.entryWaiting && s.attached && s.comb.state == .detached } }

/-- The transaction in flight is a unit access. -/
def State.accessInFlight (s : State) : Bool :=
  match s.line.tx with
  | some { originator := .access _, .. } => true
  | _ => false

/-- The conditions under which the park delay runs (R14). -/
def State.mayPark (s : State) : Bool :=
  decide (s.comb.state ≠ .parked) && !s.sense.ignitionHigh
    && allSlots.all (fun k => (s.slots.get k).requestSet == 0)
    && s.claims.isEmpty && s.line.access.isEmpty && !s.accessInFlight

/-- The park delay starts, goes on or stops (R14). -/
def State.retimePark (s : State) : State :=
  { s with comb :=
      { s.comb with parkSince := if s.mayPark then some (s.comb.parkSince.getD s.now) else none } }

/-- The combination state changes: the attach debounce restarts from zero (R8). -/
def State.enter (s : State) (c : CombState) : State :=
  { s with comb := { s.comb with state := c, attachSince := none } }

/-! ### COMBINATION notices (R1) and the frame of an event -/

/-- The combination flags as a byte (11.1). -/
def State.combFlags (s : State) : Byte :=
  flagByte s.comb.unsettled ||| (flagByte s.comb.chainFull <<< 1) ||| (flagByte s.comb.identityClash <<< 2)
    ||| (flagByte s.comb.passiveLoad <<< 3)

/-- A COMBINATION notice to every routed slot: state, unit count, flags (R1). -/
def State.noticeCombination (s : State) : State :=
  s.offerAll .combination [byteOf (combStateCode s.comb.state), byteOf s.units.length, s.combFlags]

/-- What a COMBINATION notice reports a change of (R1): the state and the four flags, not the unit count. -/
def State.combSummary (s : State) : CombState × Byte := (s.comb.state, s.combFlags)

/-- The COMBINATION notice at the end of an event that has changed the state or a flag (R1, log entry 7). -/
def State.announce (s before : State) : State :=
  if s.combSummary = before.combSummary then s else s.noticeCombination

/-- A command that moves no timer and no combination flag; held in the low-supply reset, the part does nothing (R20). -/
def powered (f : State → State) (s : State) : Result :=
  .next (if s.comb.heldInReset then s else f s)

/-- A command that is an event of the part: its effect, then the two timers of chapter 1, then the COMBINATION notice
of R1; held in the low-supply reset, the part does nothing (R20). -/
def event (f : State → State) (s : State) : Result :=
  .next (if s.comb.heldInReset then s else ((f s).retimeAttach.retimePark).announce s)

end Sys2Proof.Machine
end

