-- ==== Sys2Proof/Machine/Flags.lean ====
section
/-! DEFINITION. The combination flags (R3 to R5) and the flags of an answer (R31, R55, R56). -/
namespace Sys2Proof.Machine

/-! ### Combination flags -/

/-- A unit record holds UNSETTLED: PLACED, LISTING or BRIDGING (R3). -/
def UnitRecord.unsettles (u : UnitRecord) : Bool :=
  match u.state with
  | .placed | .listing | .bridging => true
  | .serving | .refused => false

/-- UNSETTLED re-evaluated from the Unit Table (R3). -/
def State.refreshUnsettled (s : State) : State :=
  { s with comb := { s.comb with unsettled := s.units.any UnitRecord.unsettles } }

/-- A verdict shows load that no unit declares (R5). -/
def Verdict.isPassive : Verdict → Bool
  | .undeclared | .high => true
  | _ => false

/-- PASSIVE-LOAD recomputed from the verdicts (R5). -/
def State.refreshPassive (s : State) : State :=
  { s with comb :=
      { s.comb with passiveLoad := allLines.any fun l => (s.lamps.get l).verdict.verdict.isPassive } }

/-- CHAIN-FULL written (R4). -/
def State.setChainFull (s : State) (b : Bool) : State := { s with comb := { s.comb with chainFull := b } }

/-- IDENTITY-CLASH written (R4). -/
def State.setIdentityClash (s : State) (b : Bool) : State := { s with comb := { s.comb with identityClash := b } }

/-! ### Answer flags -/

/-- The highest position in the Unit Table, 0 when it is empty. -/
def State.lastPosition (s : State) : Nat := s.units.foldl (fun n u => Nat.max n u.position) 0

/-- The unit record at a position (R63). -/
def State.unitAt (s : State) (p : Nat) : Option UnitRecord := s.units.find? fun u => u.position == p

/-- Rear-activity from the last unit: a rise hastens an extension probe where the conditions of R55 hold, and the flag
is remembered. -/
def State.handRear (s : State) (p : Nat) (flag : Bool) : State :=
  if p = s.lastPosition then
    { s with walker :=
        { s.walker with
          extDue := s.walker.extDue || (flag && !s.walker.rearSeen && s.comb.state == .serving && !s.walker.active
            && !s.comb.chainFull && !s.comb.identityClash)
          rearSeen := flag } }
  else s

/-- A flag bit of a position set written. -/
def writePosition (set : Byte) (p : Nat) (flag : Bool) : Byte :=
  if flag then set ||| positionBit p else set &&& ~~~(positionBit p)

/-- Lamp-fault from a SERVING unit: a change puts the position in the lamp-report set (R56). -/
def State.handLampFault (s : State) (p : Nat) (flag : Bool) : State :=
  if inPositionSet s.walker.lampFaultSeen p = flag then s
  else
    { s with walker :=
        { s.walker with
          lampReports := s.walker.lampReports ||| positionBit p
          lampFaultSeen := writePosition s.walker.lampFaultSeen p flag } }

/-- The flags of a good answer handed to their owners: from a placed unit of generation B alone (R31). Sensor-fault is
read with the SENSE answer. -/
def State.handFlags (s : State) (target : Nat) (status : Byte) : State :=
  match s.unitAt target with
  | none => s
  | some u =>
    match u.generation with
    | .a => s
    | .b =>
      let t := s.handRear target (answerRear status)
      if u.state = .serving then t.handLampFault target (answerLampFault status) else t

end Sys2Proof.Machine
end

