-- ==== Sys2Proof/Machine/Records.lean ====
section
/-! DEFINITION. Operations over the Unit Table, the Function Pool and the Recent-Unit Cache (chapters 4 and 5). -/
namespace Sys2Proof.Machine

/-! ### Unit records (R63) -/

/-- One unit record changed in place. -/
def State.modifyUnit (s : State) (p : Nat) (f : UnitRecord → UnitRecord) : State :=
  { s with units := s.units.map fun u => if u.position = p then f u else u }

/-- A function entry of a unit record. -/
def UnitRecord.entry (u : UnitRecord) (i : Nat) : Option FunctionEntry := u.functions.find? fun e => e.index == i

/-- One function entry changed in place. -/
def State.modifyEntry (s : State) (p i : Nat) (f : FunctionEntry → FunctionEntry) : State :=
  s.modifyUnit p fun u => { u with functions := u.functions.map fun e => if e.index = i then f e else e }

/-- The unit at a position is SERVING. -/
def State.servingAt (s : State) (p : Nat) : Bool :=
  match s.unitAt p with
  | some u => u.state == .serving
  | none => false

/-- The entry of a unit record, whatever the unit's state. -/
def State.entryAt (s : State) (p i : Nat) : Option FunctionEntry := (s.unitAt p).bind fun u => u.entry i

/-- A record whose inventory is complete: SERVING or BRIDGING (R12, R88). -/
def UnitRecord.complete (u : UnitRecord) : Bool := u.state == .serving || u.state == .bridging

/-! ### The Function Pool (R72) -/

/-- The entries in use: those of the unit records and of the cache records. -/
def State.poolUsed (s : State) : Nat :=
  (s.units.map fun u => u.functions.length).sum + (s.cache.map fun r => r.functions.length).sum

/-- The free entries (R72). -/
def State.poolFree (s : State) : Nat := Config.poolEntries - s.poolUsed

/-- The value record of an admitted entry: the minimum, NOT-YET, age 0, no due time (R129). -/
def freshValue (min : Int) : ValueRecord := { value := min, quality := .notYet, answeredAt := 0, nextDue := none }

/-- A function entry as it is admitted (R73, R129). -/
def newEntry (index : Nat) (code : Word16) (cls : FunctionClass) (min max : Int) (poll : Option PollClass) :
    FunctionEntry :=
  { index, code, cls, min, max, poll, value := if cls = .sensor then some (freshValue min) else none,
    subs := .const none }

/-- An entry as it passes into the cache: the value record reset, the subscriptions removed (R130). -/
def FunctionEntry.withdrawn (e : FunctionEntry) : FunctionEntry :=
  { e with value := e.value.map fun _ => freshValue e.min, subs := .const none }

/-! ### The Recent-Unit Cache (R83 to R91) -/

/-- The cache record made from a unit record (R88). -/
def UnitRecord.toCache (u : UnitRecord) : CacheRecord :=
  { identity := u.identity, generation := u.generation, signature := u.signature, loads := u.loads,
    declared := u.declared, partialFlag := u.partialFlag, functions := u.functions.map FunctionEntry.withdrawn }

/-- An insertion at rank 1, the record at rank 4 discarded from a full cache (R88). -/
def insertCache (r : CacheRecord) (cache : List CacheRecord) : List CacheRecord :=
  r :: cache.take (Config.cacheRecords - 1)

/-- A unit record leaves the Unit Table by a loss or a drop: into the cache when its inventory is complete, else
discarded with its entries (R88). -/
def State.retireUnit (s : State) (u : UnitRecord) : State :=
  let t := { s with units := s.units.filter fun v => v.position ≠ u.position }
  if u.complete then { t with cache := insertCache u.toCache t.cache } else t

/-- The units at positions `k` and above, highest first: the order of every removal (R12, R58). -/
def State.unitsFrom (s : State) (k : Nat) : List UnitRecord :=
  (s.units.filter fun u => k ≤ u.position).reverse

/-- The oldest cache records discarded one at a time until the pool has a free entry or the cache is empty (R74, R90).
The first argument bounds the evictions by the number of records. -/
def makeRoom : Nat → State → State
  | 0, s => s
  | n + 1, s =>
    if 0 < s.poolFree ∨ s.cache = [] then s
    else makeRoom n { s with cache := s.cache.dropLast }

/-- Room made for one function entry (R74). -/
def State.makeRoom (s : State) : State := Machine.makeRoom s.cache.length s

/-- The cache record of an identity (R85; at most one, R84). -/
def State.cachedAs (s : State) (identity : Word32) : Option CacheRecord :=
  s.cache.find? fun r => r.identity == identity

/-- A cache record matches a placed node: the same signature and the same generation (R85). -/
def CacheRecord.isMatch (r : CacheRecord) (generation : Generation) (signature : Word16) : Bool :=
  r.signature == signature && r.generation == generation

/-- The record of an identity leaves the cache (R86, R87). -/
def State.uncache (s : State) (identity : Word32) : State :=
  { s with cache := s.cache.filter fun r => r.identity ≠ identity }

/-- A unit record at its creation (R49, R64). -/
def newUnit (position : Nat) (identity : Word32) (generation : Generation) (signature : Word16) : UnitRecord :=
  { position, identity, generation, signature, state := .placed, partialFlag := false, restored := false,
    loads := .const ⟨0, 0, 0⟩, lampFaults := 0, declared := 0, functions := [], refusal := none }

/-- A unit record restored from a cache record (R64, R86). -/
def UnitRecord.restoreFrom (u : UnitRecord) (r : CacheRecord) : UnitRecord :=
  { u with state := .bridging, restored := true, loads := r.loads, declared := r.declared,
           partialFlag := r.partialFlag, functions := r.functions }

/-- A UNIT notice (R53): position, unit state code, identity. -/
def State.noticeUnit (s : State) (position stateCode : Nat) (identity : Word32) : State :=
  s.offerAll .unit ([byteOf position, byteOf stateCode] ++ bytesOfWord32 identity)

/-- A UNIT notice of the record at a position as it stands. -/
def State.noticeUnitAt (s : State) (p : Nat) : State :=
  match s.unitAt p with
  | some u => s.noticeUnit p (unitStateCode u.state) u.identity
  | none => s

/-- A unit's state changed, UNSETTLED re-evaluated and the UNIT notice queued (R3, R53). -/
def State.setUnitState (s : State) (p : Nat) (st : UnitState) : State :=
  ((s.modifyUnit p fun u => { u with state := st }).refreshUnsettled).noticeUnitAt p

end Sys2Proof.Machine
end

