-- ==== Sys2Proof/Machine/ClaimTable.lean ====
section
/-! DEFINITION. Operations over the Claim Table and the Urgent Queue (R35, R36, R143 to R153). -/
namespace Sys2Proof.Machine

/-- A claim's function comes before another's: ascending position, then ascending index (R12, R152). -/
def Claim.before (c d : Claim) : Bool :=
  decide (c.position < d.position) || (c.position == d.position && decide (c.index < d.index))

/-- A claim put in its place of the table, which is kept in ascending position and index. -/
def insertClaim (c : Claim) : List Claim → List Claim
  | [] => [c]
  | d :: ds => if c.before d then c :: d :: ds else d :: insertClaim c ds

/-- The claim on a function (R143). -/
def State.claimOn (s : State) (p i : Nat) : Option Claim :=
  s.claims.find? fun c => c.position == p && c.index == i

/-- A claim written back over the one on its function. -/
def State.putClaim (s : State) (c : Claim) : State :=
  { s with claims := s.claims.map fun d => if d.position = c.position ∧ d.index = c.index then c else d }

/-- The claim on a function removed. -/
def State.removeClaim (s : State) (p i : Nat) : State :=
  { s with claims := s.claims.filter fun d => !(d.position == p && d.index == i) }

/-- The entry serves the function. -/
def UrgentEntry.serves (e : UrgentEntry) (p i : Nat) : Bool := e.position == p && e.index == i

/-- A response to an ACTUATE whose answer is wanted; none where the requester is absent (R35, R37). -/
def UrgentEntry.responses (e : UrgentEntry) (status : Status) (clamped : Bool) : List Response :=
  match e.requester with
  | none => []
  | some q => [{ slot := q.slot, code := codeActuate, sequence := q.sequence, status, clamped, data := [] }]

/-- A response to a unit-access request (R39). -/
def AccessEntry.response (e : AccessEntry) (status : Status) (data : List Byte) : Response :=
  { slot := e.slot, sequence := e.sequence, status, clamped := false, data
    code := match e.kind with
      | .get => codeUnitParamRead
      | .set _ => codeUnitParamWrite }

/-- A command handed over as the command of a claim (R145): it replaces the claim's waiting entry in its place, whose
requester is answered SUPERSEDED (R36), or joins the tail of the Urgent Queue as the claim's new entry. -/
def State.handCommand (s : State) (c : Claim) (e : UrgentEntry) : State :=
  match c.entry with
  | some .waiting =>
    let old := s.line.urgent.filter fun (d : UrgentEntry) => d.serves c.position c.index
    let t := { s with line :=
      { s.line with urgent := s.line.urgent.map fun (d : UrgentEntry) => if d.serves c.position c.index then e else d } }
    (t.putClaim c).deferAll (old.flatMap fun (d : UrgentEntry) => d.responses .superseded false)
  | _ =>
    State.putClaim { s with line := { s.line with urgent := s.line.urgent ++ [e] } } { c with entry := some .waiting }

/-- A claim removed with its waiting entry, whose requester is answered SUPERSEDED (R36, R150, R151). -/
def State.endClaim (s : State) (c : Claim) : State :=
  let t := s.removeClaim c.position c.index
  match c.entry with
  | some .waiting =>
    let old := t.line.urgent.filter fun (d : UrgentEntry) => d.serves c.position c.index
    State.deferAll
      { t with line := { t.line with urgent := t.line.urgent.filter fun (d : UrgentEntry) => !d.serves c.position c.index } }
      (old.flatMap fun (d : UrgentEntry) => d.responses .superseded false)
  | _ => t

/-- A CLAIM-END notice to the claim's holder (R153). -/
def State.noticeClaimEnd (s : State) (c : Claim) (reason : EndReason) : State :=
  s.offerNotice .claimEnd c.holder [byteOf c.position, byteOf c.index, byteOf (endReasonCode reason)]

/-- A MOMENTARY claim goes to ENDING and its STOP is queued (R147, R148, R151). `announce` says whether its removal owes
CLAIM-END RELEASED-BY-STOP (R149). -/
def State.stopClaim (s : State) (c : Claim) (requester : Option Requester) (announce : Bool) : State :=
  s.handCommand { c with state := .ending announce, stopMark := true }
    { position := c.position, index := c.index, command := .stop, value := 0, clamped := false, requester }

/-- The outcome of a claim's transaction (R146, R149): an ENDING claim whose STOP has completed is removed, with its
CLAIM-END where one is owed; of any other claim the completed entry becomes absent. A claim whose entry is not in flight
is left alone. -/
def State.claimCompleted (s : State) (p i : Nat) : State :=
  match s.claimOn p i with
  | none => s
  | some c =>
    if c.entry = some .inFlight then
      match c.state with
      | .ending announce =>
        if c.stopMark then
          let t := s.removeClaim p i
          if announce then t.noticeClaimEnd c .releasedByStop else t
        else s.putClaim { c with entry := none }
      | .held => s.putClaim { c with entry := none }
    else s

/-- The claims that satisfy a test end without a STOP, each with its CLAIM-END, in ascending position and index
(R152). -/
def State.endClaims (s : State) (ends : Claim → Bool) (reason : EndReason) : State :=
  let ended := s.claims.filter ends
  ended.foldl (fun t c => t.noticeClaimEnd c reason) { s with claims := s.claims.filter fun c => !ends c }

/-- The unit-access requests of a slot that are outstanding: waiting, or in flight (R38). -/
def State.accessOutstanding (s : State) (k : Slot) : Nat :=
  (s.line.access.filter fun e => e.slot == k).length
    + (match s.line.tx with
       | some { originator := .access e, .. } => if e.slot = k then 1 else 0
       | _ => 0)

end Sys2Proof.Machine
end

