-- ==== Sys2Proof/Machine/LampBank.lean ====
section
/-! DEFINITION. Operations of the Lamp Switch Bank, the Flash Generator and off-state sensing (chapter 6). -/
namespace Sys2Proof.Machine

/-! ### Requested lines and the switch law (R93, R97) -/

/-- The lines requested: the union of the request sets (R93). -/
def requestedBy (k : PerSlot SlotState) : Byte :=
  k.s0.requestSet ||| k.s1.requestSet ||| k.s2.requestSet ||| k.s3.requestSet

/-- A line is requested (R93). -/
def State.requested (s : State) (l : Line) : Bool := inLineSet (requestedBy s.slots) l

/-- The Flash Generator is in its on-phase (R98). -/
def Flash.isOn : Flash → Bool
  | .on _ => true
  | _ => false

/-- The switch law of R97: requested, NORMAL, and for a turn line in the on-phase. -/
def switchLaw (requested : Bool) (trip : TripState) (flash : Flash) (l : Line) : Bool :=
  requested && trip == .normal && (!isTurn l || flash.isOn)

/-- A switch going ON: off-state sensing ends, and the line settles; a turn line is timed from a phase-begin only where
this event begins an on-phase (R97, R99, R114, R115). -/
def LampLine.switchOn (x : LampLine) (l : Line) (now : Nat) (phaseBegin : Bool) : LampLine :=
  { x with
    on := true, agree := none
    timing := if isTurn l then (if phaseBegin then .fullPhase now else .partPhase) else .settling now }

/-- A switch going OFF: measuring ends and the off time starts (R97). -/
def LampLine.switchOff (x : LampLine) (now : Nat) : LampLine :=
  { x with on := false, offSince := now, timing := .idle }

/-- One line's switch brought to what the law wants (R97). -/
def LampLine.follow (x : LampLine) (l : Line) (want : Bool) (now : Nat) (phaseBegin : Bool) : LampLine :=
  if want = x.on then x else if want then x.switchOn l now phaseBegin else x.switchOff now

/-- Every line's switch re-evaluated (R97). -/
def State.resolveSwitches (s : State) (phaseBegin : Bool) : State :=
  { s with lamps := s.lamps.map fun l x =>
      x.follow l (switchLaw (s.requested l) x.trip s.flash l) s.now phaseBegin }

/-! ### Changes of the request sets (R93 to R96, R98, R105, R106) -/

/-- A line after its requested state has gone from `before` to `after`: becoming requested starts the run time (R105),
ceasing to be requested returns it to NORMAL with count 0 (R106). -/
def LampLine.requestChanged (x : LampLine) (before after : Bool) (now : Nat) : LampLine :=
  if before = after then x
  else if after then { x with runSince := some now }
  else { x with trip := .normal, attempts := 0, restartSince := none, runSince := none }

/-- The Flash Generator after a change of the request sets: it starts in ON when a turn line becomes requested and stops
when none remains (R98). -/
def Flash.afterRequests (f : Flash) (turnRequested : Bool) (now : Nat) : Flash :=
  if turnRequested then
    match f with
    | .stopped => .on now
    | _ => f
  else .stopped

/-- The slots' lamp state replaced in one event: the requested state of each line, the trip state, the Flash Generator
and the switches follow (R93). -/
def State.changeRequests (s : State) (k : PerSlot SlotState) : State :=
  let before := requestedBy s.slots
  let after := requestedBy k
  let flash := s.flash.afterRequests (inLineSet after .turnL || inLineSet after .turnR) s.now
  State.resolveSwitches
    { s with
      slots := k
      flash
      lamps := s.lamps.map fun l x => x.requestChanged (inLineSet before l) (inLineSet after l) s.now }
    (s.flash == .stopped && flash != .stopped)

/-- One slot's lamp state replaced (R93). -/
def State.changeSlot (s : State) (k : Slot) (x : SlotState) : State := s.changeRequests (s.slots.set k x)

/-- The lines that stay at the expiry of a refresh window: TAIL-L, TAIL-R and MARKER (R96). -/
def refreshKeeps : Byte := lineBit .tailL ||| lineBit .tailR ||| lineBit .marker

/-! ### Off-state sensing (R100) -/

/-- One off-state sample counted by agreement toward a presence change (R100). -/
def LampLine.countSample (x : LampLine) (sample : Presence) : LampLine :=
  let n := match x.agree with
    | some a => if a.sample = sample then a.count + 1 else 1
    | none => 1
  if Config.agreeingSamples ≤ n then
    { x with agree := none, verdict := { x.verdict with presence := sample } }
  else { x with agree := some ⟨sample, n⟩ }

/-- A line is sampled at a sample instant: OFF, sense enabled, off for 20 ms (R100). -/
def State.samples (s : State) (l : Line) (x : LampLine) : Bool :=
  !x.on && s.senseEnabled l && decide (x.offSince + Config.offSettle ≤ s.now)

/-- What a comparator reading says of a line (R100). -/
def sampleOf (loaded : Byte) (l : Line) : Presence := if inLineSet loaded l then .loaded else .open

/-- The off-state samples of one sample instant (R100). -/
def State.senseLines (s : State) (loaded : Byte) : State :=
  { s with lamps := s.lamps.map fun l x => if s.samples l x then x.countSample (sampleOf loaded l) else x }

/-- The agreement counts of the lines cleared where a test holds (R100). -/
def State.clearAgreement (s : State) (p : Line → Bool) : State :=
  { s with lamps := s.lamps.map fun l x => if p l then { x with agree := none } else x }

/-- One line's record changed. -/
def State.modifyLine (s : State) (l : Line) (f : LampLine → LampLine) : State :=
  { s with lamps := s.lamps.set l (f (s.lamps.get l)) }

end Sys2Proof.Machine
end

