-- ==== Sys2Proof/Machine/LampMonitor.lean ====
section
/-! DEFINITION. Operations of the Lamp Monitor: expected load, classification, the debounce, trips (chapter 7, R103). -/
namespace Sys2Proof.Machine

/-! ### Expected load and classification (R117 to R121) -/

/-- The units whose loads count: those in SERVING (R117). -/
def State.servingUnits (s : State) : List UnitRecord := s.units.filter fun u => u.state == .serving

/-- The sum of one load figure of a line over the SERVING units (R117). -/
def State.sumLoads (s : State) (l : Line) (figure : Load → Nat) : Nat :=
  (s.servingUnits.map fun u => figure (u.loads.get l)).sum

/-- The expected load at a supply: floor(R × u / 2400) + C (R117). -/
def expectedLoad (r c u : Nat) : Nat := r * u / Config.declaredSupply + c

/-- The lower tolerance bound, 0 if that is below 0 (R118). -/
def lowerBound (e tolLow floorMa : Nat) : Nat := e - e * tolLow / 64 - floorMa

/-- The upper tolerance bound (R118). -/
def upperBound (e tolHigh floorMa : Nat) : Nat := e + e * tolHigh / 64 + floorMa

/-- The classification of a measurement with its deficit or residual, for E up to 15 000 (R119). -/
def classify (e m lower upper threshold : Nat) : Verdict × Nat :=
  if e = 0 then
    if m < threshold then (.none, 0) else (.undeclared, m)
  else if m < threshold then (.open, 0)
  else if m < lower then (.low, e - m)
  else if m ≤ upper then (.ok, 0)
  else (.high, m - e)

/-- The estimate of lamps out: deficit × N / E rounded half up, clamped to 1 at the bottom and N at the top (R120). -/
def lampEstimate (deficit n e : Nat) : Nat := Nat.min n (Nat.max 1 ((2 * deficit * n + e) / (2 * e)))

/-- The attributed positions of a LOW line: SERVING units of generation B whose lamp fault set holds it (R121). -/
def State.attribution (s : State) (l : Line) : Byte :=
  (s.servingUnits.filter fun u => u.generation == .b && inLineSet u.lampFaults l).foldl
    (fun set u => set ||| positionBit u.position) 0

/-- What one classified measurement gives (R117 to R121). -/
structure Figures where
  cls : Verdict
  e : Nat
  m : Nat
  u : Nat
  lower : Nat
  upper : Nat
  difference : Nat
  estimate : Nat
  attributed : Byte
  deriving DecidableEq, Repr

/-- A measurement classified (R117 to R121): OVERSUBSCRIBED above the switch rating, without bounds. -/
def State.figures (s : State) (l : Line) (m u : Nat) : Figures :=
  let e := expectedLoad (s.sumLoads l Load.r) (s.sumLoads l Load.c) u
  if Config.switchRating < e then
    { cls := .oversubscribed, e, m, u, lower := 0, upper := 0, difference := 0, estimate := 0, attributed := 0 }
  else
    let lower := lowerBound e (s.setting .toleranceLow) (s.setting .toleranceFloor)
    let upper := upperBound e (s.setting .toleranceHigh) (s.setting .toleranceFloor)
    let c := classify e m lower upper (s.setting .openThreshold)
    let low := c.1 == .low
    { cls := c.1, e, m, u, lower, upper, difference := c.2
      estimate := if low then lampEstimate c.2 (s.sumLoads l Load.n) e else 0
      attributed := if low then s.attribution l else 0 }

/-! ### The verdict (R122 to R124) -/

/-- The VERDICT notice of a line as its record stands (R124, 11.2). -/
def State.noticeVerdict (s : State) (l : Line) : State :=
  let v := (s.lamps.get l).verdict
  s.offerAll .verdict
    ([byteOf (lineNumber l + 8 * verdictCode v.verdict)] ++ bytes16 v.lastE ++ bytes16 v.lastM
      ++ [byteOf v.estimate, v.attributed])

/-- The effects of a verdict change (R124): counted, VERDICT notices, PASSIVE-LOAD recomputed. -/
def State.verdictChanged (s : State) (l : Line) : State :=
  ((s.count .verdictChanges).noticeVerdict l).refreshPassive

/-- The record after a trip (R122). -/
def VerdictRecord.short (v : VerdictRecord) (measured : Option (Nat × Nat)) : VerdictRecord :=
  { v with
    verdict := .short, candidate := none, repeats := 0, difference := 0, estimate := 0, attributed := 0
    lastM := (measured.map Prod.fst).getD v.lastM
    lastU := (measured.map Prod.snd).getD v.lastU }

/-- A trip's verdict: SHORT at once, a verdict change unless it was SHORT already (R122). -/
def State.shortVerdict (s : State) (l : Line) (measured : Option (Nat × Nat)) : State :=
  let v := (s.lamps.get l).verdict
  let t := s.modifyLine l fun x => { x with verdict := v.short measured }
  if v.verdict = .short then t else t.verdictChanged l

/-- The record after a classification: the figures written, the candidate counted, the verdict confirmed or changed
(R123). -/
def VerdictRecord.debounce (v : VerdictRecord) (f : Figures) : VerdictRecord :=
  let n := if v.candidate = some f.cls then Nat.min 2 (v.repeats + 1) else 1
  let t := { v with
    held := false, lastE := f.e, lastM := f.m, lastU := f.u, lower := f.lower, upper := f.upper
    candidate := some f.cls, repeats := n }
  if f.cls = v.verdict ∨ n = 2 then
    { t with verdict := f.cls, difference := f.difference, estimate := f.estimate, attributed := f.attributed }
  else t

/-- A measurement classified and handed to the debounce (R113, R123, R124). -/
def State.classified (s : State) (l : Line) (m u : Nat) : State :=
  let v := (s.lamps.get l).verdict
  let w := v.debounce (s.figures l m u)
  let t := s.modifyLine l fun x => { x with verdict := w }
  if w.verdict = v.verdict then t else t.verdictChanged l

/-! ### Trips (R103, R108) -/

/-- The TRIP notice (R108): line, new trip state, attempt count. -/
def State.noticeTrip (s : State) (l : Line) : State :=
  let x := s.lamps.get l
  s.offerAll .trip [byteOf (lineNumber l), byteOf (tripCode x.trip), byteOf x.attempts]

/-- A line's record at a trip: TRIPPED with the restart delay running while the count is below the setting, else
LATCHED (R103, R109); the run time ends. -/
def LampLine.trip_ (x : LampLine) (attemptsSetting now : Nat) : LampLine :=
  if x.attempts < attemptsSetting then { x with trip := .tripped, restartSince := some now, runSince := none }
  else { x with trip := .latched, restartSince := none, runSince := none }

/-- A line trips (R103): trip state, switch, verdict SHORT, TRIPS, TRIP notice. -/
def State.tripLine (s : State) (l : Line) (measured : Option (Nat × Nat)) : State :=
  let t := (s.modifyLine l fun x => x.trip_ (s.setting .tripAttempts) s.now).resolveSwitches false
  ((t.shortVerdict l measured).count .trips).noticeTrip l

/-! ### Measurements (R113 to R116) -/

/-- A line's presence written (R101). -/
def State.setPresence (s : State) (l : Line) (p : Presence) : State :=
  s.modifyLine l fun x => { x with verdict := { x.verdict with presence := p } }

/-- A measurement without trip clears the attempt count of a line that has run for 1000 ms (R105). -/
def LampLine.ranClear (x : LampLine) (now : Nat) : LampLine :=
  match x.runSince with
  | some t => if t + Config.runClear ≤ now then { x with attempts := 0 } else x
  | none => x

/-- A measurement that has not tripped is skipped (R116). -/
def State.skips (s : State) (u : Nat) : Bool :=
  decide (u < Config.supplyLow) || decide (Config.supplyHigh < u)
    || s.comb.state == .settling || s.comb.state == .building || s.comb.state == .parked
    || s.comb.unsettled

/-- The time at which a line's next measurement instant falls, absent where none falls (R114, R115): the settle time
after the switch-on, then every 100 ms; in a full on-phase the settle time after the phase-begin, if that comes before
the end of the phase. -/
def State.measurementDue (s : State) (l : Line) : Option Nat :=
  match (s.lamps.get l).timing with
  | .settling t => some (t + s.setting (.lampSettle l))
  | .series t => some (t + Config.steadyInterval)
  | .fullPhase t =>
    if s.setting (.lampSettle l) < s.setting .flashOn then some (t + s.setting (.lampSettle l)) else none
  | .idle | .phaseMeasured | .partPhase => none

/-- The timing after a measurement instant (R114, R115). -/
def timingAfter (l : Line) (now : Nat) : Timing := if isTurn l then .phaseMeasured else .series now

/-- The mean of four conversions, floored; a current conversion reads at most the sense ceiling, a supply conversion at
most 3600 (R92, R113). -/
def meanCurrent (c1 c2 c3 c4 : Conversion) : Nat :=
  ([c1, c2, c3, c4].map fun c => Nat.min c.current Config.senseCeiling).sum / 4

def meanSupply (c1 c2 c3 c4 : Conversion) : Nat :=
  ([c1, c2, c3, c4].map fun c => Nat.min c.supply Config.supplyTop).sum / 4

/-- The effects of a measurement with the current `m` and the supply `u`, in the order of R113. -/
def State.measure (s : State) (l : Line) (m u : Nat) : State :=
  if Config.tripCurrent ≤ m then (s.setPresence l .loaded).tripLine l (some (m, u))
  else
    let t := (s.setPresence l (if s.setting .openThreshold ≤ m then .loaded else .open)).modifyLine l fun x =>
      { x.ranClear s.now with timing := timingAfter l s.now }
    if t.skips u then t.modifyLine l fun x => { x with verdict := { x.verdict with held := true } }
    else t.classified l m u

end Sys2Proof.Machine
end

