-- ==== Sys2Proof/Machine/SensorTable.lean ====
section
/-! DEFINITION. Operations of the Sensor Table: values, ages, the poll ring, change notices (chapter 8). -/
namespace Sys2Proof.Machine

/-- The age of a value record: 0 while NOT-YET, else the time since the last poll answered ACCEPT, at most 65 535
(R129, R135). -/
def ValueRecord.age (v : ValueRecord) (now : Nat) : Nat :=
  if v.quality = .notYet then 0 else Nat.min Config.ageTop (now - v.answeredAt)

/-- The staleness threshold of a poll class: three intervals, at most 65 535 (R135). -/
def State.staleAfter (s : State) (p : PollClass) : Nat := Nat.min Config.ageTop (3 * s.pollInterval p)

/-- A Gen-A raw byte scaled into the declared range (R133). -/
def scaleGenA (min max : Int) (raw : Nat) : Int := min + (raw * (max - min)) / 254

/-- What a Gen-A answer writes: the value and quality (R133). -/
def readGenA (e : FunctionEntry) (held : Int) (raw : Nat) (fault : Bool) : Int × Quality :=
  if raw = 255 ∨ fault then (held, .sensorFault) else (scaleGenA e.min e.max raw, .good)

/-- What a Gen-B answer writes: the value and quality (R134). -/
def readGenB (e : FunctionEntry) (held raw : Int) (fault : Bool) : Int × Quality :=
  if fault then (held, .sensorFault)
  else if raw < e.min then (e.min, .clamped)
  else if e.max < raw then (e.max, .clamped)
  else (raw, .good)

/-- The change-notice test of one subscription (R139). -/
def changeTest (b : Subscription) (before after : Quality) (value : Int) : Bool :=
  before != after
    || (if b.delta = 0 then value != b.lastNotified else decide (b.delta ≤ (value - b.lastNotified).natAbs))

/-- One slot's subscription tested: where the test passes and the slot routes SENSE, a notice is offered, and the last
notified value moves only if it is queued (R139). -/
def State.testSubscription (p i : Nat) (before : Quality) (s : State) (k : Slot) : State :=
  match s.entryAt p i with
  | some { value := some v, subs, .. } =>
    match subs.get k with
    | some b =>
      if changeTest b before v.quality v.value && s.noticeFor .sense k then
        let t := s.offerNotice .sense k
          ([byteOf p, byteOf i] ++ bytesSigned v.value ++ [byteOf (qualityCode v.quality)])
        if s.noticeRoom then
          t.modifyEntry p i fun e => { e with subs := e.subs.set k (some { b with lastNotified := v.value }) }
        else t
      else s
    | none => s
  | _ => s

/-- The change-notice tests of an entry, in ascending slot number (R139). -/
def State.testSubscriptions (s : State) (p i : Nat) (before : Quality) : State :=
  allSlots.foldl (State.testSubscription p i before) s

/-- The value record of an entry written (R129). -/
def State.writeValue (s : State) (p i : Nat) (v : ValueRecord) : State :=
  s.modifyEntry p i fun e => { e with value := some v }

/-- The interval of an entry (R131); a SENSOR entry has a poll class. -/
def State.entryInterval (s : State) (e : FunctionEntry) : Nat :=
  match e.poll with
  | some c => s.pollInterval c
  | none => 0

/-- A poll answered ACCEPT: value, quality and age written, the next poll due, the subscriptions tested (R132 to R134,
R139). -/
def State.pollAnswered (s : State) (p i : Nat) (payload : List Byte) (fault : Bool) : State :=
  match s.unitAt p, s.entryAt p i with
  | some u, some e =>
    match e.value with
    | some v =>
      let w := match u.generation with
        | .a => readGenA e v.value (natOfBytes payload) fault
        | .b => readGenB e v.value (signedOf payload) fault
      (s.writeValue p i
        { value := w.1, quality := w.2, answeredAt := s.now, nextDue := some (s.now + s.entryInterval e) }
        ).testSubscriptions p i v.quality
    | none => s
  | _, _ => s

/-- A poll answered UNKNOWN-KIND or nonconformingly: the value record unchanged, the next poll due (R132). -/
def State.pollUnanswered (s : State) (p i : Nat) : State :=
  match s.entryAt p i with
  | some e =>
    match e.value with
    | some v => s.writeValue p i { v with nextDue := some (s.now + s.entryInterval e) }
    | none => s
  | none => s

/-- The sensors of a unit join the poll ring, due at once (R131). -/
def State.joinRing (s : State) (p : Nat) : State :=
  s.modifyUnit p fun u => { u with functions := u.functions.map fun e =>
    { e with value := e.value.map fun v => { v with nextDue := some s.now } } }

/-- A poll that could be started: when it is due, and of which entry (R34). -/
structure DuePoll where
  due : Nat
  position : Nat
  index : Nat
  deriving DecidableEq, Repr

/-- The available polls: the sensor entries of SERVING units due at or before the present time (R34), in ascending
position and index. -/
def State.availablePolls (s : State) : List DuePoll :=
  s.servingUnits.flatMap fun u => u.functions.filterMap fun e =>
    match e.value with
    | some { nextDue := some d, .. } => if d ≤ s.now then some ⟨d, u.position, e.index⟩ else none
    | _ => none

/-- One poll goes before another: earlier due, then lower position, then lower index (R34). -/
def DuePoll.before (a b : DuePoll) : Bool :=
  decide (a.due < b.due)
    || (a.due == b.due && (decide (a.position < b.position)
      || (a.position == b.position && decide (a.index < b.index))))

/-- The poll that goes first (R34). -/
def firstPoll : List DuePoll → Option DuePoll
  | [] => none
  | a :: rest =>
    match firstPoll rest with
    | none => some a
    | some b => if b.before a then some b else some a

/-- A poll is started: the entry's next poll due becomes absent (R132). -/
def State.clearDue (s : State) (p i : Nat) : State :=
  s.modifyEntry p i fun e => { e with value := e.value.map fun v => { v with nextDue := none } }

end Sys2Proof.Machine
end

