-- ==== Sys2Proof/Machine/ChainWalker.lean ====
section
/-! DEFINITION. Operations of the Chain Walker: offers, the walk, listing, admission, unit loss (chapters 3 and 4). -/
namespace Sys2Proof.Machine

/-! ### Offers (R44, R45) -/

/-- The walker's state changed. -/
def State.modifyWalker (s : State) (f : Walker → Walker) : State := { s with walker := f s.walker }

/-- The walker with this step as its next: offered to the Line Scheduler, or behind a LAMP-REPORT that stays offered, which it
does not replace (R45, R59, log entry 27). -/
def Walker.offer (w : Walker) (step : Step) : Walker :=
  match w.offered with
  | some (.lampReport _) => { w with owed := some step }
  | _ => { w with offered := some step }

/-- A step offered to the Line Scheduler (R45). -/
def State.offer (s : State) (step : Step) : State := s.modifyWalker fun w => w.offer step

/-- The position a step's call is addressed to: PROBE and PLACE go to position 0 (R46, R49). -/
def Step.target : Step → Nat
  | .probe | .place _ _ _ _ => 0
  | .listOpen p | .loadRead p _ | .listEntry p _ | .bridge p | .lampReport p => p

/-- A LAMP-REPORT is in flight (R44). -/
def State.reportInFlight (s : State) : Bool :=
  match s.line.tx with
  | some { originator := .bringUp (.lampReport _), .. } => true
  | _ => false

/-- The lowest position of a set (R56). -/
def lowestPosition (set : Byte) : Option Nat := [1, 2, 3, 4, 5, 6].find? fun p => inPositionSet set p

/-- The LAMP-REPORT to the lowest position of the lamp-report set, if any (R56). -/
def Walker.report (w : Walker) : Option Step := (lowestPosition w.lampReports).map .lampReport

/-- What the walker offers in BUILDING and SERVING when it has no walk step to offer, which is so while its walk step is in flight
(R45, R54, R56): the LAMP-REPORT to the lowest position of the set, else in SERVING with the mark set and the walk IDLE an
extension probe. Nothing while a step is offered, and after a LAMP-REPORT the next comes when that one completes (R33; DEDUCED,
log entry 27). -/
def State.offerNext (s : State) : State :=
  if s.walker.offered.isSome || s.reportInFlight then s
  else if s.comb.state = .building ∨ s.comb.state = .serving then
    match s.walker.report with
    | some step => s.offer step
    | none => if s.comb.state = .serving ∧ s.walker.extDue ∧ s.walker.active = false then s.offer .probe else s
  else s

/-! ### The end of the walk (R45, R11) -/

/-- The walk ends: in BUILDING with no unit in bring-up the combination enters SERVING (R11), and in SERVING the
extension timer runs from zero (R54). -/
def State.endWalk (s : State) : State :=
  let t := s.modifyWalker fun w => { w with active := false, extSince := some s.now }
  match s.comb.state with
  | .building =>
    if s.units.any UnitRecord.unsettles then s.modifyWalker fun w => { w with active := false }
    else (t.enter .serving).count .combinationsBuilt
  | .serving => t
  | _ => s.modifyWalker fun w => { w with active := false }

/-- A PROBE unanswered, or treated so, ends the walk and clears IDENTITY-CLASH (R46). -/
def State.probeUnanswered (s : State) : State := (s.setIdentityClash false).endWalk

/-- An identity is held in the Unit Table (R48). -/
def State.holdsIdentity (s : State) (identity : Word32) : Bool := s.units.any fun u => u.identity == identity

/-- A PROBE answered acceptably (R47, R48, R49). -/
def State.probeAnswered (s : State) (identity : Word32) (generation : Generation) (signature : Word16) : State :=
  if s.holdsIdentity identity then
    if s.walker.pointer ≤ Config.maxUnits then (s.setIdentityClash true).endWalk
    else (s.setChainFull true).endWalk
  else if s.walker.pointer ≤ Config.maxUnits then
    (s.setIdentityClash false).offer (.place s.walker.pointer identity generation signature)
  else ((s.setIdentityClash false).setChainFull true).endWalk

/-! ### Placing (R49, R50, R60, R85 to R87) -/

/-- The record of a placed unit, and whether the cache served it: a match is restored, a mismatch is discarded, else the
unit is listed (R50, R85 to R87). -/
def State.placeRecord (s : State) (u : UnitRecord) : State :=
  let listed : State := { s with units := s.units ++ [{ u with state := .listing }] }
  match s.cachedAs u.identity with
  | some r =>
    if r.isMatch u.generation u.signature then
      (State.uncache { s with units := s.units ++ [u.restoreFrom r] } u.identity).count .cacheRestores
    else listed.uncache u.identity
  | none => listed

/-- The remembered flags of a position cleared (R49). -/
def State.forgetPosition (s : State) (p : Nat) : State :=
  s.modifyWalker fun w => { w with lampFaultSeen := writePosition w.lampFaultSeen p false, rearSeen := false }

/-- A PLACE accepted: the record is created at the position carried, unless that is above the walk pointer (R49, R60).
The next step is BRIDGE for a restored unit, LIST-OPEN for one to be listed. -/
def State.placeAccepted (s : State) (p : Nat) (identity : Word32) (generation : Generation) (signature : Word16) :
    State :=
  if s.walker.pointer < p then s.endWalk
  else
    let t := ((s.forgetPosition p).placeRecord (newUnit p identity generation signature)).refreshUnsettled
    let t := t.noticeUnitAt p
    match t.unitAt p with
    | some { state := .bridging, .. } => t.offer (.bridge p)
    | _ => t.offer (.listOpen p)

/-! ### Listing (R65 to R71) -/

/-- The presence list is let go: it is held for the length of a listing (R66). -/
def State.forgetList (s : State) : State := s.modifyWalker fun w => { w with presenceList := 0 }

/-- The unit is refused (R70). -/
def State.refuseUnit (s : State) (p : Nat) (cause : RefusalCause) (named : Nat) : State :=
  let t := s.forgetList.modifyUnit p fun u =>
    { u with functions := [], partialFlag := false, refusal := some (cause, named) }
  (t.setUnitState p .refused).offer (.bridge p)

/-- The listing ends normally (R71). -/
def State.endListing (s : State) (p : Nat) : State := (s.forgetList.setUnitState p .bridging).offer (.bridge p)

/-- The flags set in a presence list. -/
def presentIndices (list : Word32) : List Nat := (List.range 32).filter fun i => list.getLsbD i

/-- The listing goes on with the lowest present index from `i` on, or ends (R68). -/
def State.listFrom (s : State) (p i : Nat) : State :=
  match (presentIndices s.walker.presenceList).find? fun j => i ≤ j with
  | some j => s.offer (.listEntry p j)
  | none => s.endListing p

/-- The presence list an answer carries: bit i for index i (R66). -/
def presenceOf (payload : List Byte) : Word32 := word32Of payload

/-- A LIST-OPEN answered ACCEPT (R66). -/
def State.listOpened (s : State) (p : Nat) (payload : List Byte) : State :=
  let list := presenceOf payload
  let t := s.modifyUnit p fun u => { u with declared := (presentIndices list).length }
  (t.modifyWalker fun w => { w with presenceList := list }).offer (.loadRead p .tailL)

/-- The load record an answer carries (11.3). -/
def loadOf (payload : List Byte) : Load :=
  { r := natOfBytes (payload.take 2), c := natOfBytes ((payload.drop 2).take 2), n := (byteAt payload 4).toNat }

/-- The test of a load record, with the cause of the first failure (R67). -/
def Load.fault (x : Load) (g : Generation) : Option RefusalCause :=
  if g = .a ∧ x.c ≠ 0 then some .genAConstant
  else if Config.maxR < x.r ∨ Config.maxC < x.c ∨ Config.maxN < x.n then some .loadLimit
  else if x.n = 0 ∧ 0 < x.r + x.c then some .loadLimit
  else none

/-- The line after another in line order. -/
def nextLine (l : Line) : Option Line := lineOfNumber (lineNumber l + 1)

/-- A LOAD-READ answered ACCEPT: tested, and written or the unit refused (R67). -/
def State.loadRead (s : State) (p : Nat) (l : Line) (payload : List Byte) : State :=
  match s.unitAt p with
  | none => s
  | some u =>
    match (loadOf payload).fault u.generation with
    | some cause => s.refuseUnit p cause (lineNumber l)
    | none =>
      let t := s.modifyUnit p fun u => { u with loads := u.loads.set l (loadOf payload) }
      match nextLine l with
      | some next => t.offer (.loadRead p next)
      | none => t.listFrom p 0

/-- A function record as the answer of LIST-ENTRY carries it (11.3). -/
structure FunctionRecord where
  code : Word16
  cls : Option FunctionClass
  min : Int
  max : Int
  poll : Option PollClass
  deriving DecidableEq, Repr

def functionRecordOf (payload : List Byte) : FunctionRecord :=
  { code := word16Of (payload.take 2)
    cls := classOf (byteAt payload 2)
    min := signedOf ((payload.drop 3).take 2)
    max := signedOf ((payload.drop 5).take 2)
    poll := pollOf (byteAt payload 7) }

/-- The tests of a function record: its class and, for a SENSOR, its poll class; then its range (R69, R177). -/
def FunctionRecord.fault (r : FunctionRecord) : Option RefusalCause :=
  match r.cls with
  | none => some .functionClass
  | some c =>
    if c = .sensor ∧ r.poll = none then some .functionClass
    else if r.max ≤ r.min then some .functionRange
    else none

/-- The entry a tested record is admitted as; the poll class is kept for a SENSOR alone (R69, R73). -/
def FunctionRecord.toEntry (r : FunctionRecord) (i : Nat) : FunctionEntry :=
  let c := r.cls.getD .sensor
  newEntry i r.code c r.min r.max (if c = .sensor then r.poll else none)

/-- A function record that has passed its tests: admitted when the pool has or can be given a free entry, else the unit
is partial and its listing ends (R73 to R75). -/
def State.admitFunction (s : State) (p i : Nat) (r : FunctionRecord) : State :=
  let t := s.makeRoom
  if 0 < t.poolFree then
    (t.modifyUnit p fun u => { u with functions := u.functions ++ [r.toEntry i] }).listFrom p (i + 1)
  else (t.modifyUnit p fun u => { u with partialFlag := true }).endListing p

/-- A LIST-ENTRY answered ACCEPT: tested before the pool is asked (R69). -/
def State.entryListed (s : State) (p i : Nat) (payload : List Byte) : State :=
  match (functionRecordOf payload).fault with
  | some cause => s.refuseUnit p cause i
  | none => s.admitFunction p i (functionRecordOf payload)

/-- A LIST-ENTRY answered DECLINE: not admitted, the unit is partial, the pass goes on (R69). -/
def State.entryDeclined (s : State) (p i : Nat) : State :=
  (s.modifyUnit p fun u => { u with partialFlag := true }).listFrom p (i + 1)

/-! ### Bridging and reports (R52, R77) -/

/-- A BRIDGE answered at its position, with whatever result: a BRIDGING unit serves and its sensors join the poll ring, a
REFUSED unit stays so; the pointer rises and a PROBE follows (R52, R131). -/
def State.bridged (s : State) (p : Nat) : State :=
  let t := match s.unitAt p with
    | some { state := .bridging, .. } => (s.setUnitState p .serving).joinRing p
    | _ => s
  (t.modifyWalker fun w => { w with pointer := w.pointer + 1, rearSeen := false }).offer .probe

/-- A LAMP-REPORT answered: the lamp fault set replaced, or emptied where the node cannot say (R77). -/
def State.lampReported (s : State) (p : Nat) (faults : Byte) : State :=
  s.modifyUnit p fun u => { u with lampFaults := faults }

/-! ### Unit loss (R57 to R60) -/

/-- The work of the failed transaction answered UNIT-LOST (R37, R39, R40). -/
def Transaction.lostResponses (t : Transaction) : List Response :=
  match t.originator with
  | .urgent e => e.responses .unitLost false
  | .access e => [e.response .unitLost []]
  | _ => []

/-- The urgent part of a transaction's work (R40, step 1). -/
def Transaction.lostUrgent (t : Transaction) : List Response :=
  match t.originator with
  | .urgent _ => t.lostResponses
  | _ => []

/-- The access part of a transaction's work (R40, step 2). -/
def Transaction.lostAccess (t : Transaction) : List Response :=
  match t.originator with
  | .access _ => t.lostResponses
  | _ => []

/-- The queued work addressed to positions `k` and above discarded and answered UNIT-LOST, the failed transaction's
ahead of it (R40). -/
def State.discardWork (s : State) (k : Nat) (failed : Option Transaction) : State :=
  let urgent := s.line.urgent.filter fun e => k ≤ e.position
  let access := s.line.access.filter fun e => k ≤ e.position
  let t := { s with line := { s.line with
    urgent := s.line.urgent.filter fun e => e.position < k
    access := s.line.access.filter fun e => e.position < k } }
  t.deferAll
    ((failed.map Transaction.lostUrgent).getD [] ++ urgent.flatMap (fun e => e.responses .unitLost false)
      ++ (failed.map Transaction.lostAccess).getD [] ++ access.map (fun e => e.response .unitLost []))

/-- A pending step addressed to a removed position is withdrawn (R40), and with it the walk's next step that waits behind it, in
whose place R59 offers the PROBE. -/
def State.withdrawStep (s : State) (k : Nat) : State :=
  match s.walker.offered with
  | some step => if k ≤ step.target then s.modifyWalker fun w => { w with offered := none, owed := none } else s
  | none => s

/-- One lost unit: counted, its UNIT notice with state LOST queued, its record retired (R58, step 3). -/
def State.loseRecord (s : State) (u : UnitRecord) : State :=
  ((s.count .unitsLost).noticeUnit u.position unitLostCode u.identity).retireUnit u

/-- The walker after a loss at `k`: the pointer back at `k`, the marks of the lost positions cleared (R58, R59). -/
def State.walkerAfterLoss (s : State) (k : Nat) : State :=
  s.modifyWalker fun w =>
    { w with
      pointer := k
      lampReports := positionsBelow w.lampReports k
      lampFaultSeen := positionsBelow w.lampFaultSeen k
      rearSeen := false
      presenceList := 0 }

/-- The PROBE that follows a loss (R59). In SERVING with the walk IDLE the extension-due mark is set, and it brings the PROBE in
the order of R45: in this event, or behind the LAMP-REPORTs that are offered or wait (log entry 13). Else the PROBE is the
walk's next step, offered unless a walk step stays offered; behind a LAMP-REPORT that stays offered it takes the place of the step
that waited there. -/
def State.probeAfterLoss (s : State) : State :=
  if s.comb.state = .serving ∧ s.walker.active = false then
    (s.modifyWalker fun w => { w with extDue := true }).offerNext
  else
    match s.walker.offered with
    | none | some (.lampReport _) => s.offer .probe
    | some _ => s

/-- Unit `k` declared lost: the units from `k` on are removed with the queued work and the claims on them (R58), and the
walk is taken up at `k` (R59). -/
def State.loseUnits (s : State) (k : Nat) (failed : Option Transaction) : State :=
  let t := (s.discardWork k failed).withdrawStep k
  let t := t.endClaims (fun c => k ≤ c.position) .unitLost
  let t := (t.unitsFrom k).foldl State.loseRecord t
  (((t.walkerAfterLoss k).setChainFull false).refreshUnsettled).probeAfterLoss

/-! ### The outcome of a bring-up step (R46 to R52, R66 to R69, R77) -/

/-- A bring-up step's transaction completed ANSWERED with this result and payload, or NONCONFORMING (`none`). -/
def State.stepAnswered (s : State) (step : Step) (answer : Option (AnswerResult × List Byte)) : State :=
  match step, answer with
  | .probe, some (.accept, payload) =>
    match generationOf (byteAt payload 4) with
    | some g => s.probeAnswered (word32Of (payload.take 4)) g (word16Of ((payload.drop 5).take 2))
    | none => s.probeUnanswered
  | .probe, _ => s.probeUnanswered
  | .place p identity g signature, some (.accept, _) => s.placeAccepted p identity g signature
  | .place _ _ _ _, _ => s.endWalk
  | .listOpen p, some (.accept, payload) => s.listOpened p payload
  | .listOpen p, _ => s.refuseUnit p .listUnreadable 0
  | .loadRead p l, some (.accept, payload) => s.loadRead p l payload
  | .loadRead p l, _ => s.refuseUnit p .loadUnreadable (lineNumber l)
  | .listEntry p i, some (.accept, payload) => s.entryListed p i payload
  | .listEntry p i, some (.decline, _) => s.entryDeclined p i
  | .listEntry p i, _ => s.refuseUnit p .entryUnreadable i
  | .bridge p, _ => s.bridged p
  | .lampReport p, some (.accept, payload) => s.lampReported p (byteAt payload 0)
  | .lampReport p, _ => s.lampReported p 0

end Sys2Proof.Machine
end

