-- ==== Sys2Proof/Machine/TrailerLine.lean ====
section
/-! DEFINITION. The Trailer Line Controller and its Line Scheduler (chapter 2), and the commands of the trailer line. -/
namespace Sys2Proof.Machine

/-! ### The Line Scheduler (R33, R34) -/

/-- The line is free: no transaction in flight and no resync gap (R33). -/
def State.lineFree (s : State) : Bool := s.line.tx.isNone && s.line.gapSince.isNone

/-- The call of a piece of work: kind, target and payload (11.3). -/
def Originator.call : Originator → CallKind × Nat × List Byte
  | .bringUp .probe => (.probe, 0, [])
  | .bringUp (.place p identity _ _) => (.place, 0, byteOf p :: bytesOfWord32 identity)
  | .bringUp (.listOpen p) => (.listOpen, p, [])
  | .bringUp (.loadRead p l) => (.loadRead, p, [byteOf (lineNumber l)])
  | .bringUp (.listEntry p i) => (.listEntry, p, [byteOf i])
  | .bringUp (.bridge p) => (.bridge, p, [])
  | .bringUp (.lampReport p) => (.lampReport, p, [])
  | .urgent e => (.actuate, e.position, [byteOf e.index, byteOf (commandCode e.command)] ++ bytesSigned e.value)
  | .access { kind := .get, position := p, parameter := n, .. } => (.paramGet, p, [n])
  | .access { kind := .set v, position := p, parameter := n, .. } => (.paramSet, p, n :: bytesOfWord32 v)
  | .poll p i => (.sense, p, [byteOf i])

/-- The transaction as it is started: its first attempt, being called (R29, R30). -/
def Originator.transaction (o : Originator) : Transaction :=
  { kind := o.call.1, target := o.call.2.1, payload := o.call.2.2, originator := o, attempts := 1, phase := .calling }

/-- A piece of work started on the line. -/
def State.start (s : State) (o : Originator) : State := { s with line := { s.line with tx := some o.transaction } }

/-- The walker when its offered step is started: a PROBE out of IDLE begins a walk (R54). A LAMP-REPORT takes its position out of
the set, and the walk's next step that waited behind it is offered (R56, R59). Beside a walk step in flight there is no walk step
to offer, so the LAMP-REPORT to the lowest position of the set is offered, in BUILDING and SERVING alike (R45, R56). -/
def Walker.started (w : Walker) (step : Step) : Walker :=
  match step with
  | .lampReport p => { w with offered := w.owed, owed := none, lampReports := writePosition w.lampReports p false }
  | .probe =>
    if w.active then { w with offered := w.report }
    else { w with offered := w.report, active := true, extDue := false, extSince := none }
  | _ => { w with offered := w.report }

/-- The claim's entry is in flight (R145). -/
def State.claimStarted (s : State) (p i : Nat) : State :=
  match s.claimOn p i with
  | some c => s.putClaim { c with entry := some .inFlight }
  | none => s

/-- The first work available is started when the line is free in BUILDING or SERVING: the Urgent Queue, the offered
step, the Access Queue, a sensor poll (R33). -/
def State.schedule (s : State) : State :=
  if s.lineFree && (s.comb.state == .building || s.comb.state == .serving) then
    match s.line.urgent with
    | e :: rest =>
      (State.claimStarted { s with line := { s.line with urgent := rest } } e.position e.index).start (.urgent e)
    | [] =>
      match s.walker.offered with
      | some step => (s.modifyWalker fun w => w.started step).start (.bringUp step)
      | none =>
        match s.line.access with
        | e :: rest => State.start { s with line := { s.line with access := rest } } (.access e)
        | [] =>
          match firstPoll s.availablePolls with
          | some d => (s.clearDue d.position d.index).start (.poll d.position d.index)
          | none => s
  else s

/-- The walker's next offer and the scheduler's next start, at the end of an event of the line (R33, R45). -/
def State.lineWork (s : State) : State := s.offerNext.schedule

/-! ### Transactions (R28 to R32) -/

/-- An abandonment: the transaction in flight and a running gap end, nothing is handed on (R32). -/
def State.abandon (s : State) : State := { s with line := { s.line with tx := none, gapSince := none } }

/-- The phase of the transaction in flight written. -/
def State.setTx (s : State) (t : Option Transaction) : State := { s with line := { s.line with tx := t } }

/-- The response to an ACTUATE by the outcome of its call (R37). -/
def urgentStatus : Option (AnswerResult × List Byte) → Status
  | some (.accept, _) => .done
  | some (.inhibit, _) => .unitInhibited
  | _ => .unitDeclined

/-- The response to a unit access by the outcome of its call (R39): DONE, with the value for a PARAM-GET. -/
def AccessEntry.answered (e : AccessEntry) (answer : Option (AnswerResult × List Byte)) : Response :=
  match answer, e.kind with
  | some (.accept, payload), .get => e.response .done payload
  | some (.accept, _), .set _ => e.response .done []
  | _, _ => e.response .unitDeclined []

/-- The outcome of an answered or nonconforming transaction handed to its originator (R31, R37, R39, R132, R146). -/
def State.handOutcome (s : State) (t : Transaction) (status : Byte) (answer : Option (AnswerResult × List Byte)) :
    State :=
  match t.originator with
  | .bringUp step => s.stepAnswered step answer
  | .urgent e =>
    let st := urgentStatus answer
    (s.deferAll (e.responses st (e.clamped && st == .done))).claimCompleted e.position e.index
  | .access e => s.deferResponse (e.answered answer)
  | .poll p i =>
    match answer with
    | some (.accept, payload) => s.pollAnswered p i payload (answerSensorFault status)
    | _ => s.pollUnanswered p i

/-- The content of a good answer: its result and payload when the call admits both, else NONCONFORMING (R28). -/
def State.judgeContent (s : State) (t : Transaction) (status : Byte) (payload : List Byte) :
    Option (AnswerResult × List Byte) :=
  let gen := (s.unitAt t.target).map UnitRecord.generation
  if (admittedLengths t.kind (answerResult status) gen).contains payload.length then
    some (answerResult status, payload)
  else none

/-- A transaction completes on a good answer: the line is free, the flags and then the outcome are handed on, and the
next work starts (R31, R33; log entry 8). -/
def State.goodAnswer (s : State) (t : Transaction) (status : Byte) (payload : List Byte) : State :=
  let answer := s.judgeContent t status payload
  ((((s.count .answersGood).setTx none).handFlags t.target status).handOutcome t status answer).lineWork

/-- A transaction completes FAILED (R31): to a placed position it is counted and its unit is lost (R57); a PROBE is
unanswered (R46), a PLACE ends the walk (R49). -/
def State.failedTransaction (s : State) (t : Transaction) : State :=
  let u := s.setTx none
  if 1 ≤ t.target then ((u.count .transactionsFailed).loseUnits t.target (some t)).offerNext
  else
    match t.originator with
    | .bringUp .probe => u.probeUnanswered.offerNext
    | _ => u.endWalk.offerNext

/-- An attempt judged failed: counted, the resync gap starts, and the transaction goes to its retry or completes FAILED
(R24, R25, R30). -/
def State.attemptFailed (s : State) (t : Transaction) (counter : Option Counter) : State :=
  let u := match counter with
    | some c => s.count c
    | none => s
  let u := { u with line := { u.line with gapSince := some u.now } }
  if t.attempts < 1 + s.setting .retryLimit then u.setTx (some { t with phase := .resync })
  else u.failedTransaction t

/-- The counter of a NO-ANSWER: none for a PROBE (R24). -/
def noAnswerCounter (t : Transaction) : Option Counter := if t.kind = .probe then none else some .noAnswers

/-! ### Bytes of an answer (R23) -/

/-- A complete answer frame judged: a matching check is a good answer, another a CHECK-ERROR (R22, R23). -/
def State.judgeFrame (s : State) (t : Transaction) (frame : List Byte) : State :=
  if crc8 frame.dropLast = frame.getLastD 0 then
    s.goodAnswer t (byteAt frame 0) ((frame.drop 2).dropLast)
  else s.attemptFailed t (some .checkErrors)

/-- A byte received: part of the awaited answer, judged at a length byte above 8 and at the check byte (R23); while no
answer is awaited it is discarded and restarts a running resync gap (R25). -/
def State.receiveByte (s : State) (b : Byte) : State :=
  match s.line.tx with
  | some t =>
    match t.phase with
    | .awaiting _ received =>
      let frame := received ++ [b]
      if frame.length = 2 ∧ 8 < b.toNat then s.attemptFailed t (some .checkErrors)
      else if 3 ≤ frame.length ∧ frame.length = (byteAt frame 1).toNat + 3 then s.judgeFrame t frame
      else s.setTx (some { t with phase := .awaiting s.now frame })
    | .calling => s
    | .resync => { s with line := { s.line with gapSince := s.line.gapSince.map fun _ => s.now } }
  | none => { s with line := { s.line with gapSince := s.line.gapSince.map fun _ => s.now } }

/-- Bytes received one after another. -/
def State.receiveBytes (s : State) (bs : List Byte) : State := bs.foldl State.receiveByte s

/-! ### The commands of the trailer line -/

/-- CALL_SENT (R21, R22): the check byte of the call is out; CALLS-SENT is counted and the answer window opens. -/
def execCallSent (s : State) : Result :=
  powered (fun s =>
    match s.line.tx with
    | some t =>
      if t.phase = .calling then
        let u := (s.count .callsSent).setTx (some { t with phase := .awaiting s.now [] })
        { u with line := { u.line with tdataOut := callFrame t } }
      else s
    | none => s) s

/-- ANSWER_WINDOW_EXPIRY (R23, R24): no start bit within the window judges the attempt NO-ANSWER. -/
def execAnswerWindowExpiry (s : State) : Result :=
  event (fun s =>
    match s.line.tx with
    | some t =>
      match t.phase with
      | .awaiting since [] => (s.reach (since + Config.answerWindow)).attemptFailed t (noAnswerCounter t)
      | _ => s
    | none => s) s

/-- BYTE_GAP_TIMEOUT (R23, R24): a byte gap above 2 ms inside an answer judges the attempt SHORT-ANSWER. -/
def execByteGapTimeout (s : State) : Result :=
  event (fun s =>
    match s.line.tx with
    | some t =>
      match t.phase with
      | .awaiting since (_ :: _) => (s.reach (since + Config.byteGap)).attemptFailed t (some .shortAnswers)
      | _ => s
    | none => s) s

/-- LENGTH_BYTE_ERROR (R23): the bytes up to and including a length byte above 8 judge the attempt CHECK-ERROR. -/
def execLengthByteError (bytes : List Byte) (s : State) : Result :=
  event (fun s => s.receiveBytes bytes) s

/-- ANSWER_FRAME_COMPLETE (R23): the bytes that complete the frame arrive; it is checked and judged. -/
def execAnswerFrameComplete (bytes : List Byte) (s : State) : Result :=
  event (fun s => s.receiveBytes bytes) s

/-- ANSWER_BYTE_RECEIVED (R23): a byte of the awaited answer; the byte gap is timed from it. -/
def execAnswerByteReceived (byte : Byte) (s : State) : Result :=
  event (fun s => s.receiveByte byte) s

/-- DISCARDED_BYTE (R25): a byte while no answer is awaited restarts a running resync gap. -/
def execDiscardedByte (byte : Byte) (s : State) : Result :=
  event (fun s => s.receiveByte byte) s

/-- RESYNC_GAP_END (R25, R30): the retry of the transaction is called, or the line is free and the next work starts. -/
def execResyncGapEnd (s : State) : Result :=
  powered (fun s =>
    match s.line.gapSince with
    | some since =>
      let u := s.reach (since + Config.resyncGap)
      let u := { u with line := { u.line with gapSince := none } }
      match u.line.tx with
      | some t => u.setTx (some { t with phase := .calling, attempts := t.attempts + 1 })
      | none => u.lineWork
    | none => s) s

/-- POLL_DUE (R34, R131): a sensor entry of a SERVING unit falls due and its poll is available to the scheduler. -/
def execPollDue (position index : Nat) (s : State) : Result :=
  powered (fun s =>
    if s.servingAt position then
      match s.entryAt position index with
      | some { value := some { nextDue := some d, .. }, .. } => (s.reach d).lineWork
      | _ => s
    else s) s

/-- EXTENSION_TIMER_EXPIRY (R54): the extension-due mark is set, the timer stops, and an extension probe is offered when
nothing else is. -/
def execExtensionTimerExpiry (s : State) : Result :=
  powered (fun s =>
    match s.walker.extSince with
    | some since =>
      let u := s.reach (since + s.setting .extensionInterval)
      (u.modifyWalker fun w => { w with extDue := true, extSince := none }).lineWork
    | none => s) s

end Sys2Proof.Machine
end

