-- ==== Sys2Proof/Machine/Claims.lean ====
section
/-! DEFINITION. The commands of the Claim Table: ACTUATE, the hold time, RELEASE, FORCE-RELEASE (chapter 9). -/
namespace Sys2Proof.Machine

/-- The commands a class admits (R142). -/
def FunctionClass.admits : FunctionClass → Command → Bool
  | .momentary, .run | .momentary, .stop => true
  | .latched, .on | .latched, .off => true
  | .setpoint, .set => true
  | _, _ => false

/-- An integer brought between two bounds (R142). -/
def clampInt (lo hi v : Int) : Int := max lo (min hi v)

/-- The value a command carries and its clamped mark (R142): for SET the operand clamped to the entry's bounds, else 0. -/
def carriedValue (f : FunctionEntry) (c : Command) (v : Int) : Int × Bool :=
  match c with
  | .set => (clampInt f.min f.max v, clampInt f.min f.max v != v)
  | .run | .stop | .on | .off => (0, false)

/-- The sender of an ACTUATE as its requester, when its answer is wanted (R145): byte 7, bit 0. -/
def IntakeEntry.requester (e : IntakeEntry) : Option Requester :=
  if (byteAt e.data 7).getLsbD 0 then some ⟨e.slot, e.sequence⟩ else none

/-- The ACTUATE value operand: bytes 5 and 6, signed (11.2). -/
def IntakeEntry.actuateValue (e : IntakeEntry) : Int := signedOf (e.operands 5 2)

/-- A claim at its creation (R145). -/
def newClaim (p i : Nat) (holder : Slot) (cls : FunctionClass) : Claim :=
  { position := p, index := i, holder, cls, state := .held, lastRun := none, entry := none, stopMark := false }

/-- A command that proceeds on a claim (R145, R147, R148): a STOP puts the claim in ENDING, a RUN restarts the hold time. -/
def State.proceed (s : State) (c : Claim) (f : FunctionEntry) (cmd : Command) (e : IntakeEntry) : State :=
  match cmd with
  | .stop => s.stopClaim c e.requester true
  | .run | .on | .off | .set =>
    let v := carriedValue f cmd e.actuateValue
    s.handCommand { c with lastRun := if cmd = .run then some s.now else c.lastRun }
      { position := c.position, index := c.index, command := cmd, value := v.1, clamped := v.2, requester := e.requester }

/-- The body function that a request names, on a SERVING unit (R144, checks three and four). -/
def State.bodyFunctionAt (s : State) (p i : Nat) : Option FunctionEntry :=
  if s.servingAt p then (s.entryAt p i).filter fun f => decide (f.cls ≠ .sensor) else none

/-- The decision of an ACTUATE that has passed the checks of R144 (R145). -/
def State.decideActuate (s : State) (e : IntakeEntry) (f : FunctionEntry) (cmd : Command) (p i : Nat) : State :=
  match s.claimOn p i with
  | none =>
    if s.claims.length < Config.maxClaims then
      let c := newClaim p i e.slot f.cls
      (State.proceed { s with claims := insertClaim c s.claims } c f cmd e).lineWork
    else (s.count .requestsBusy).answer e .busy
  | some c =>
    match c.state with
    | .ending _ => s.answer e .refusedState
    | .held =>
      if c.holder = e.slot then (s.proceed c f cmd e).lineWork
      else s.answer e .held [byteOf (slotNumber c.holder)]

/-- ACTUATE (R144, R145). -/
def execActuate (s : State) : Result :=
  event (fun s =>
    s.taking (isRequest codeActuate) fun e s =>
      let p := e.operand 2
      let i := e.operand 3
      match commandOf (byteAt e.data 4) with
      | none => s.answer e .refusedRange
      | some cmd =>
        if !validPosition p || !validIndex i then s.answer e .refusedRange
        else if !s.hasRight e.slot .bodyClaim then s.answer e .refusedRights
        else
          match s.bodyFunctionAt p i with
          | none => s.answer e .refusedState
          | some f => if f.cls.admits cmd then s.decideActuate e f cmd p i else s.answer e .refusedRange) s

/-- HOLD_TIME_EXPIRY (R147): a HELD MOMENTARY claim goes to ENDING, its STOP is queued and CLAIM-END EXPIRED offered. -/
def execHoldTimeExpiry (position index : Nat) (s : State) : Result :=
  event (fun s =>
    match s.claimOn position index with
    | some c =>
      match c.cls, c.state, c.lastRun with
      | .momentary, .held, some since =>
        let t := s.reach (since + s.setting .momentaryHold)
        ((t.stopClaim c none false).noticeClaimEnd c .expired).lineWork
      | _, _, _ => s
    | none => s) s

/-- A HELD claim ended by RELEASE or FORCE-RELEASE (R150, R151): a MOMENTARY one goes to ENDING with a STOP, another is
removed at once. -/
def State.relinquish (s : State) (c : Claim) (announce : Bool) : State :=
  match c.cls with
  | .momentary => s.stopClaim c none announce
  | .latched | .setpoint | .sensor => s.endClaim c

/-- RELEASE (R150). -/
def execRelease (s : State) : Result :=
  event (fun s =>
    s.taking (isRequest codeRelease) fun e s =>
      if !validPosition (e.operand 2) || !validIndex (e.operand 3) then s.answer e .refusedRange
      else
        match s.claimOn (e.operand 2) (e.operand 3) with
        | none => s.answer e .refusedState
        | some c =>
          match c.state with
          | .ending _ => s.answer e .refusedState
          | .held =>
            if c.holder = e.slot then ((s.answer e .done).relinquish c true).lineWork
            else s.answer e .held [byteOf (slotNumber c.holder)]) s

/-- FORCE_RELEASE (R151): DONE, CLAIM-END FORCED for the holder, and the claim ends. -/
def execForceRelease (s : State) : Result :=
  event (fun s =>
    s.taking (isRequest codeForceRelease) fun e s =>
      if !validPosition (e.operand 2) || !validIndex (e.operand 3) then s.answer e .refusedRange
      else if !s.hasRight e.slot .resets then s.answer e .refusedRights
      else
        match s.claimOn (e.operand 2) (e.operand 3) with
        | none => s.answer e .refusedState
        | some c =>
          match c.state with
          | .ending _ => s.answer e .refusedState
          | .held => (((s.answer e .done).noticeClaimEnd c .forced).relinquish c false).lineWork) s

end Sys2Proof.Machine
end

