-- ==== Sys2Proof/Machine/Combination.lean ====
section
/-! DEFINITION. The Combination Controller's operations and the commands of chapter 1. -/
namespace Sys2Proof.Machine

/-! ### The drop (R12) and what COMBINATION-RESET shares with it (R18) -/

/-- Every claim ends, each with its CLAIM-END of this reason (R12 step 2, R18 step 2). -/
def State.endAllClaims (s : State) (reason : EndReason) : State := s.endClaims (fun _ => true) reason

/-- The queues of the trailer line emptied, and the work of the abandoned transaction and of the queues answered
UNIT-LOST, the transaction's first (R12 steps 3 and 4, R18 step 3). -/
def State.discardAllWork (s : State) (abandoned : Option Transaction) : State := s.discardWork 0 abandoned

/-- The candidate and repeat count of every verdict record cleared (R12 step 7). -/
def State.clearCandidates (s : State) : State :=
  { s with lamps := s.lamps.map fun _ x => { x with verdict := { x.verdict with candidate := none, repeats := 0 } } }

/-- UNSETTLED, CHAIN-FULL and IDENTITY-CLASH clear (R12 step 8). -/
def State.clearWalkFlags (s : State) : State :=
  { s with comb := { s.comb with unsettled := false, chainFull := false, identityClash := false } }

/-- The unit feed switched (R9). -/
def State.setFeed (s : State) (b : Bool) : State := { s with comb := { s.comb with feed := b } }

/-- The detach drop, ending in `next`: DETACHED, or PARKED at the entry to it (R12, R15). The feed start wait ends
unexpired (R10). -/
def State.drop (s : State) (next : CombState) : State :=
  let tx := s.line.tx
  let t := (s.abandon.endAllClaims .unitLost).discardAllWork tx
  let t := (t.unitsFrom 0).foldl State.retireUnit t
  let t := { t.setFeed false with walker := .idle }
  let t := t.clearCandidates.clearWalkFlags
  State.enter { t with comb := { t.comb with feedStartSince := none } } next

/-! ### Entries (R10, R15, R17) -/

/-- Entry to SETTLING: the feed ON and the feed start wait running (R10). -/
def State.enterSettling (s : State) : State :=
  let t := s.enter .settling
  { t with comb := { t.comb with feed := true, feedStartSince := some s.now, entryWaiting := false } }

/-- Entry to PARKED (R15): the attach value and the samples recorded, the drop, sampling and the two timers stopped. -/
def State.enterParked (s : State) : State :=
  let recorded := s.attached
  let t := (s.drop .parked).clearAgreement fun _ => true
  { t with
    comb := { t.comb with recordedAttach := recorded, parkSince := none, entryWaiting := false }
    sense := { t.sense with
      nextSample := none, nextSelfWake := some (s.now + Config.selfWakePeriod)
      parkedPlug := s.sense.plugClosed
      parkedLines := s.lamps.map fun _ x => x.verdict.presence } }

/-- A wake (R17): the first cause taken is recorded and starts the start wait; a further one changes nothing. -/
def State.wake (s : State) (cause : WakeCause) : State :=
  match s.comb.startWaitSince with
  | some _ => s
  | none => { s with comb := { s.comb with wakeCause := cause, startWaitSince := some s.now } }

/-- The parked attach value (R16). -/
def SenseFrontEnd.parkedAttach (f : SenseFrontEnd) : Bool :=
  f.parkedPlug || allLines.any fun l => f.parkedLines.get l == .loaded

/-! ### Debounced levels (R6) -/

/-- One sample of a debounced input: the level changes at the third sample in a row that differs from it; a sample that
agrees restarts the count. -/
def debounceSample (level : Bool) (count : Nat) (sample : Bool) : Bool × Nat :=
  if sample = level then (level, 0)
  else if Config.agreeingSamples ≤ count + 1 then (sample, 0)
  else (level, count + 1)

/-- The plug and ignition samples of one sample instant (R6). -/
def State.sampleInputs (s : State) (plug ignition : Bool) : State :=
  let p := debounceSample s.sense.plugClosed s.sense.plugCount plug
  let g := debounceSample s.sense.ignitionHigh s.sense.ignitionCount ignition
  { s with sense := { s.sense with plugClosed := p.1, plugCount := p.2, ignitionHigh := g.1, ignitionCount := g.2 } }

/-! ### The reset (R20) -/

/-- The part after power-on, by a cause; the waiting commands stay, since they are the surroundings' (R20). -/
def State.powerOn (s : State) (cause : ResetCause) : State :=
  let t := State.resetAt s.now
  { t with comb := { t.comb with resetCause := cause }, pending := s.pending }

/-! ### The commands -/

/-- POWER_ON_RESET (R20). -/
def execPowerOnReset (s : State) : Result := .next (s.powerOn .powerOn)

/-- LOW_SUPPLY_RESET (R20): every block at its reset values, and the part held in the reset. -/
def execLowSupplyReset (s : State) : Result :=
  let t := s.powerOn .lowSupply
  .next { t with comb := { t.comb with heldInReset := true } }

/-- LOW_SUPPLY_RELEASE (R20): the part starts as after power-on, with cause LOW-SUPPLY. -/
def execLowSupplyRelease (s : State) : Result :=
  .next (if s.comb.heldInReset then s.powerOn .lowSupply else s)

/-- SAMPLE_INSTANT (R6, R100): plug, ignition and off-state comparators sampled; outside PARKED. -/
def execSampleInstant (plugClosed ignitionHigh : Bool) (loaded : Byte) (s : State) : Result :=
  event (fun s =>
    match s.sense.nextSample with
    | some due =>
      let t := s.reach due
      let t := (t.sampleInputs plugClosed ignitionHigh).senseLines loaded
      { t with sense := { t.sense with nextSample := some (due + Config.samplePeriod) } }
    | none => s) s

/-- ATTACH_DEBOUNCE_EXPIRY (R8): from DETACHED to SETTLING, unless the feed-off time of R19 still runs; else the detach
drop (R12). -/
def execAttachDebounceExpiry (s : State) : Result :=
  event (fun s =>
    match s.comb.attachSince with
    | some since =>
      let t := s.reach (since + s.setting .attachDebounce)
      match s.comb.state with
      | .detached =>
        match s.comb.feedOffSince with
        | some _ => { t with comb := { t.comb with entryWaiting := true } }
        | none => t.enterSettling
      | .settling | .building | .serving => t.drop .detached
      | .parked => s
    | none => s) s

/-- FEED_START_WAIT_EXPIRY (R10): BUILDING, the pointer at 1, the walk started with a PROBE. -/
def execFeedStartWaitExpiry (s : State) : Result :=
  event (fun s =>
    match s.comb.state, s.comb.feedStartSince with
    | .settling, some since =>
      let t := (s.reach (since + s.setting .feedStartWait)).enter .building
      let t : State := { t with
        comb := { t.comb with feedStartSince := none }
        walker := { t.walker with pointer := 1, active := true, offered := some .probe } }
      t.lineWork
    | _, _ => s) s

/-- PARK_DELAY_EXPIRY (R14, R15): the entry to PARKED. -/
def execParkDelayExpiry (s : State) : Result :=
  event (fun s =>
    match s.comb.parkSince with
    | some since => if s.mayPark then (s.reach (since + s.parkDelayMs)).enterParked else s
    | none => s) s

/-- SELF_WAKE (R16): one sample of the plug and of each enabled line replaces the parked samples; a parked attach value
that differs from the recorded one wakes the part. -/
def execSelfWake (plugClosed : Bool) (loaded : Byte) (s : State) : Result :=
  event (fun s =>
    match s.comb.state, s.sense.nextSelfWake with
    | .parked, some due =>
      let t := s.reach due
      let t := { t with sense := { t.sense with
        nextSelfWake := some (due + Config.selfWakePeriod)
        parkedPlug := plugClosed
        parkedLines := t.sense.parkedLines.map fun l p => if s.senseEnabled l then sampleOf loaded l else p } }
      if t.sense.parkedAttach = t.comb.recordedAttach then t else t.wake .attachChange
    | _, _ => s) s

/-- IGNITION_WAKE (R16): the debounced ignition level becomes HIGH; in the start wait a further cause changes nothing
(R17). -/
def execIgnitionWake (s : State) : Result :=
  event (fun s =>
    match s.comb.state, s.comb.startWaitSince with
    | .parked, none =>
      State.wake { s with sense := { s.sense with ignitionHigh := true, ignitionCount := 0 } } .ignition
    | _, _ => s) s

/-- START_WAIT_EXPIRY (R17): plug and presences from the parked samples, sampling resumed, and SETTLING or DETACHED. -/
def execStartWaitExpiry (s : State) : Result :=
  event (fun s =>
    match s.comb.startWaitSince with
    | some since =>
      let t := s.reach (since + Config.startWait)
      let t : State := { t with
        sense := { t.sense with
          plugClosed := t.sense.parkedPlug, plugCount := 0, ignitionCount := 0
          nextSample := some t.now, nextSelfWake := none }
        lamps := t.lamps.map fun l x =>
          if s.senseEnabled l then
            { x with agree := none, verdict := { x.verdict with presence := t.sense.parkedLines.get l } }
          else { x with agree := none }
        comb := { t.comb with startWaitSince := none } }
      if t.attached then
        match t.comb.feedOffSince with
        | some _ =>
          let u := t.enter .detached
          { u with comb := { u.comb with entryWaiting := true } }
        | none => t.enterSettling
      else t.enter .detached
    | none => s) s

/-- FEED_OFF_TIME_EXPIRY (R19): a waiting entry to SETTLING is taken if the attach condition still holds. -/
def execFeedOffTimeExpiry (s : State) : Result :=
  event (fun s =>
    match s.comb.feedOffSince with
    | some since =>
      let t := s.reach (since + Config.feedOffTime)
      let t := { t with comb := { t.comb with feedOffSince := none } }
      if t.comb.entryWaiting && t.attached && t.comb.state == .detached then t.enterSettling else t
    | none => s) s

/-- COMBINATION_READ (R2): DONE with state, unit count, flags and walk pointer. -/
def execCombinationRead (s : State) : Result :=
  powered (fun s =>
    s.taking (isRequest codeCombinationRead) fun e s =>
      s.answer e .done
        [byteOf (combStateCode s.comb.state), byteOf s.units.length, s.combFlags, byteOf s.walker.pointer]) s

/-- The effects of COMBINATION-RESET in the order of R18, after its DONE. -/
def State.combinationReset (s : State) : State :=
  let tx := s.line.tx
  let t := (s.abandon.endAllClaims .forced).discardAllWork tx
  let t := { t with units := [], cache := [], walker := .idle }
  let t : State := { t with
    lamps := t.lamps.map fun _ x => { x with verdict := .cleared x.verdict.presence } }
  let t := State.enter
    { t with comb := { t.comb with
        feed := false, feedOffSince := some t.now, feedStartSince := none, entryWaiting := false
        unsettled := false, chainFull := false, identityClash := false, passiveLoad := false } } .detached
  t

/-- COMBINATION_RESET (R18): REFUSED-RIGHTS without RESETS (R161); else DONE, the effects, the two timers of chapter 1
and one COMBINATION notice. -/
def execCombinationReset (s : State) : Result :=
  powered (fun s =>
    s.taking (isRequest codeCombinationReset) fun e s =>
      if s.hasRight e.slot .resets then
        (((s.answer e .done).combinationReset).retimeAttach.retimePark).noticeCombination
      else s.answer e .refusedRights) s

end Sys2Proof.Machine
end

