-- ==== Sys2Proof/Machine/Lamps.lean ====
section
/-! DEFINITION. The commands of the lamp lines: refresh, flash, trips, LINE-RESET, measurements, VERDICT-READ (chapters 6, 7). -/
namespace Sys2Proof.Machine

/-! ### Refresh windows and the Flash Generator (R96, R99, R115) -/

/-- REFRESH_WINDOW_EXPIRY (R96): the mark is set and the slot's set loses every line but TAIL-L, TAIL-R and MARKER; not
taken for a window of 0 or with the mark set. -/
def execRefreshWindowExpiry (slot : Slot) (s : State) : Result :=
  event (fun s =>
    let x := s.slots.get slot
    if s.refreshWindow slot = 0 ∨ x.refreshExpired then s
    else
      (s.reach (x.refreshSince + s.refreshWindow slot)).changeSlot slot
        { x with requestSet := x.requestSet &&& refreshKeeps, refreshExpired := true }) s

/-- A turn line at the end of an on-phase: a full on-phase that gave no measurement instant sets the held flag (R115). -/
def LampLine.endOnPhase (x : LampLine) (l : Line) : LampLine :=
  match x.timing with
  | .fullPhase _ => if isTurn l then { x with verdict := { x.verdict with held := true } } else x
  | _ => x

/-- The held flags at the end of an on-phase (R115). -/
def State.endOnPhase (s : State) : State := { s with lamps := s.lamps.map fun l x => x.endOnPhase l }

/-- FLASH_PHASE_END (R99): the Flash Generator enters its other phase with its timer at zero, and the turn lines follow;
the start of an on-phase is a phase-begin for the lines switched on in it. -/
def execFlashPhaseEnd (s : State) : Result :=
  event (fun s =>
    match s.flash with
    | .stopped => s
    | .on since =>
      let t := (s.reach (since + s.setting .flashOn)).endOnPhase
      State.resolveSwitches { t with flash := .off t.now } false
    | .off since =>
      let t := s.reach (since + s.setting .flashOff)
      State.resolveSwitches { t with flash := .on t.now } true) s

/-! ### Trips (R103 to R107) -/

/-- SWITCH_FAULT_INDICATION (R103): a line that is ON and NORMAL trips; the indication of any other is not taken. -/
def execSwitchFaultIndication (line : Line) (s : State) : Result :=
  event (fun s =>
    if (s.lamps.get line).on ∧ (s.lamps.get line).trip = .normal then s.tripLine line none else s) s

/-- A line's record at its restart (R104). -/
def LampLine.restarted (x : LampLine) (now : Nat) : LampLine :=
  { x with trip := .normal, attempts := x.attempts + 1, runSince := some now, restartSince := none }

/-- RESTART_DELAY_EXPIRY (R104): a TRIPPED line restarts. -/
def execRestartDelayExpiry (line : Line) (s : State) : Result :=
  event (fun s =>
    match (s.lamps.get line).trip, (s.lamps.get line).restartSince with
    | .tripped, some since =>
      let t := s.reach (since + s.setting .restartDelay)
      (t.modifyLine line fun x => x.restarted t.now).resolveSwitches false
    | _, _ => s) s

/-- A line's record when LINE-RESET clears LATCHED (R107). -/
def LampLine.unlatched (x : LampLine) (now : Nat) : LampLine :=
  { x with trip := .normal, attempts := 0, runSince := some now }

/-- LINE_RESET (R107). A turn line reset while the Flash Generator is ON is switched on at once, as R97 and R115 have it, and not
at the next ON phase, as R107 says in passing (DEDUCED, log entry 29). -/
def execLineReset (s : State) : Result :=
  event (fun s =>
    s.taking (isRequest codeLineReset) fun e s =>
      match lineOfNumber (e.operand 2) with
      | none => s.answer e .refusedRange
      | some l =>
        if !s.hasRight e.slot .lineReset then s.answer e .refusedRights
        else if (s.lamps.get l).trip ≠ .latched then s.answer e .refusedState
        else ((s.modifyLine l fun x => x.unlatched s.now).resolveSwitches false).answer e .done) s

/-! ### Measurements and verdicts (R113, R126) -/

/-- MEASUREMENT_INSTANT (R113 to R124): a measurement of a line for which an instant falls; conversions of any other are
discarded. -/
def execMeasurementInstant (line : Line) (c1 c2 c3 c4 : Conversion) (s : State) : Result :=
  event (fun s =>
    match (s.lamps.get line).on, s.measurementDue line with
    | true, some due => (s.reach due).measure line (meanCurrent c1 c2 c3 c4) (meanSupply c1 c2 c3 c4)
    | _, _ => s) s

/-- The data of a VERDICT-READ item (R126, 11.2); an item above 4 has none. -/
def VerdictRecord.item (v : VerdictRecord) (item : Nat) : Option (List Byte) :=
  match item with
  | 0 => some
    [byteOf (verdictCode v.verdict), flagByte v.held ||| byteOf (2 * presenceCode v.presence),
     byteOf (candidateCode v.candidate), byteOf v.repeats]
  | 1 => some (bytes16 v.lastE ++ bytes16 v.lastM)
  | 2 => some (bytes16 v.lastU ++ bytes16 v.lower)
  | 3 => some (bytes16 v.upper ++ bytes16 v.difference)
  | 4 => some [byteOf v.estimate, v.attributed]
  | _ => none

/-- VERDICT_READ (R126). -/
def execVerdictRead (s : State) : Result :=
  powered (fun s =>
    s.taking (isRequest codeVerdictRead) fun e s =>
      match lineOfNumber (e.operand 2) with
      | none => s.answer e .refusedRange
      | some l =>
        match (s.lamps.get l).verdict.item (e.operand 3) with
        | none => s.answer e .refusedRange
        | some data => s.answer e .done data) s

end Sys2Proof.Machine
end

