-- ==== Sys2Proof/Machine/Port.lean ====
section
/-! DEFINITION. The Vehicle Port, the intake and the Report Queue: the commands of 10.1, 10.3, 10.5 and 10.6. -/
namespace Sys2Proof.Machine

/-! ### Arrival of a frame (R156, R157, R94) -/

/-- The lamp effect of a LAMP-SET from a slot (R94): the granted set replaces the slot's set, the refresh age starts and
its mark clears; the answer, where it is wanted, carries the granted and the ignored set. -/
def State.lampSet (s : State) (k : Slot) (sequence lines wanted : Byte) : State :=
  let granted := lines &&& coveredLines (s.settings.slotWord.get k)
  let t := s.changeSlot k
    { s.slots.get k with requestSet := granted, refreshSince := s.now, refreshExpired := false }
  if wanted.getLsbD 0 then
    t.deferResponse
      { slot := k, code := codeLampSet, sequence, status := .done, clamped := false
        data := [granted, lines &&& ~~~granted] }
  else t

/-- The entries of a slot in the intake (R157). -/
def State.intakeHeld (s : State) (k : Slot) : Nat := (s.port.intake.filter fun e => e.slot == k).length

/-- A request that finds no place is answered BUSY where a frame is free, else the missed flag is set (R157, R171). -/
def State.refuseBusy (s : State) (e : IntakeEntry) : State :=
  let t := s.count .requestsBusy
  if t.port.deferred.isEmpty && decide (0 < t.freeFrames) then t.answer e .busy else t.setMissed e.slot true

/-- A request offered to the Intake Queue (R157). -/
def State.offerIntake (s : State) (e : IntakeEntry) : State :=
  if Config.intakeEntries ≤ s.port.intake.length ∨ s.quota e.slot ≤ s.intakeHeld e.slot then s.refuseBusy e
  else { s with port := { s.port with intake := s.port.intake ++ [e] } }

/-- The part's block in an extended data frame: the frames the port takes notice of (R16, R156). -/
def State.addressed (s : State) (f : BusFrame) : Bool :=
  f.extended && !f.remote && identBlock f.ident == s.block

/-- An accepted request frame outside PARKED: from an unknown tag it is dropped and counted, a LAMP-SET of 8 bytes goes
to the lamps, every other frame to the intake (R156). -/
def State.acceptRequest (s : State) (f : BusFrame) : State :=
  match s.slotOfTag (identTag f.ident) with
  | none => s.count .framesUnknownSender
  | some k =>
    if 8 ≤ (frameData f).length ∧ byteAt (frameData f) 0 = codeLampSet then
      s.lampSet k (byteAt (frameData f) 1) (byteAt (frameData f) 2) (byteAt (frameData f) 3)
    else s.offerIntake ⟨k, frameData f⟩

/-- A frame heard by the port (R156): none while bus-off; in PARKED one of the part's block, of any kind, wakes the part
and is discarded (R16, R17); else a request of the part's block is accepted. -/
def State.hearFrame (s : State) (f : BusFrame) : State :=
  if s.port.busOff || !s.addressed f then s
  else if s.comb.state = .parked then s.wake .busFrame
  else if identKind f.ident = kindRequest then s.acceptRequest f
  else s

/-- REQUEST_FRAME (R156, R157). -/
def execRequestFrame (frame : BusFrame) (s : State) : Result :=
  event (fun s => s.hearFrame frame) s

/-- LAMP_SET (R94): the frame of a LAMP-SET arrives. -/
def execLampSet (ident : Ident) (sequence lines wanted : Byte) (s : State) : Result :=
  event (fun s => s.hearFrame
    { extended := true, remote := false, ident, lengthCode := 8
      bytes := [codeLampSet, sequence, lines, wanted, 0, 0, 0, 0] }) s

/-- BUS_FRAME_WAKE (R16): a frame received in PARKED. -/
def execBusFrameWake (frame : BusFrame) (s : State) : Result :=
  event (fun s => if s.comb.state = .parked then s.hearFrame frame else s) s

/-! ### Entries that are no request (R161) -/

/-- REFUSED_FORMAT (R161, step 1): an entry of fewer than 8 data bytes. -/
def execRefusedFormat (s : State) : Result :=
  powered (fun s =>
    s.taking (fun e => decide (e.data.length < 8)) fun e s => s.answer e .refusedFormat) s

/-- REFUSED_UNKNOWN (R161, step 2): an entry of 8 data bytes whose code is not a request code, or is LAMP-SET. -/
def execRefusedUnknown (s : State) : Result :=
  powered (fun s =>
    s.taking (fun e => decide (8 ≤ e.data.length) && !takenCodes.contains e.code) fun e s =>
      s.answer e .refusedUnknown) s

/-! ### The Report Queue (R170, R172) -/

/-- FRAME_TRANSMITTED (R170): the head frame leaves, and the oldest deferred response takes the freed frame (R162).
While bus-off nothing is transmitted (R172). The DONE of a FULL-RESET is told by its place (R174). -/
def execFrameTransmitted (s : State) : Result :=
  powered (fun s =>
    if s.port.busOff then s
    else
      match s.port.report with
      | [] => s
      | f :: rest =>
        State.serveDeferred
          { s with port := { s.port with
              report := rest, canOut := some f
              fullReset := s.port.fullReset.map fun w => { w with ahead := w.ahead - 1 } } }) s

/-- BUS_OFF_ENTRY (R172). -/
def execBusOffEntry (s : State) : Result :=
  powered (fun s =>
    if s.port.busOff then s
    else State.count { s with port := { s.port with busOff := true } } .busOffEvents) s

/-- BUS_OFF_EXIT (R172). -/
def execBusOffExit (s : State) : Result :=
  powered (fun s => { s with port := { s.port with busOff := false } }) s

/-! ### Counters (R42, R43) -/

/-- The counter of a dump by its number. -/
def dumpCounter (b : Counters) (n : Nat) : Nat := b.toList.getD n 0

/-- The six frames of a dump of these counters (R42): the missed flag rides on the first. -/
def State.queueDump (s : State) (e : IntakeEntry) (b : Counters) : State :=
  let t := s.answer e .part (bytes16 (dumpCounter b 0) ++ bytes16 (dumpCounter b 1))
  let more (t : State) (n : Nat) : State :=
    t.queueFrame kindResponse e.slot
      (continuationBytes e.sequence [dumpCounter b n, dumpCounter b (n + 1), dumpCounter b (n + 2)])
  let t := more (more (more (more t 2) 5) 8) 11
  t.answer e .done (bytes16 (dumpCounter b 14) ++ bytes16 (dumpCounter b 15))

/-- COUNTERS_DUMP (R42): the copy is taken before REQUESTS-TAKEN is counted. -/
def execCountersDump (s : State) : Result :=
  powered (fun s =>
    match s.takeHead (isRequest codeCountersDump) with
    | none => s
    | some (e, t) => (t.count .requestsTaken).queueDump e s.counters) s

/-- COUNTERS_DUMP_RESET (R43): REFUSED-RIGHTS without RESETS; else the copy, the clearing and the six frames, with
REQUESTS-TAKEN counted after the clearing. -/
def execCountersDumpReset (s : State) : Result :=
  powered (fun s =>
    match s.takeHead (isRequest codeCountersDumpReset) with
    | none => s
    | some (e, t) =>
      if s.hasRight e.slot .resets then
        (State.count { t with counters := .zero } .requestsTaken).queueDump e s.counters
      else (t.count .requestsTaken).answer e .refusedRights) s

/-! ### Part status (R173) -/

/-- The byte of an absent value (11.2). -/
def noneByte : Byte := 0xFF

/-- The trip state and attempt count of a line in one byte (11.2). -/
def tripByte (x : LampLine) : Byte := byteOf (tripCode x.trip + 16 * x.attempts)

/-- The call kind of a bring-up step (11.3). -/
def Step.kind (step : Step) : CallKind := (Originator.bringUp step).call.1

/-- The data of a part-status item (R173, 11.2); an item above 10 has none. -/
def State.partStatus (s : State) (item : Nat) : Option (List Byte) :=
  match item with
  | 0 => some
    [byteOf (resetCauseCode s.comb.resetCause), byteOf (wakeCauseCode s.comb.wakeCause), flagByte s.setup.open_,
     match s.setup.holder with
     | some k => byteOf (slotNumber k)
     | none => noneByte]
  | 1 => some
    [flagByte s.sense.plugClosed, flagByte s.sense.ignitionHigh, flagByte s.comb.feed, flagByte s.port.busOff]
  | 2 => some <| match s.line.tx with
    | some t => [byteOf (callKindCode t.kind), byteOf t.target, byteOf (txPhaseCode t.phase), byteOf t.attempts]
    | none => [noneByte, noneByte, 0, 0]
  | 3 => some <|
    [flagByte s.walker.active]
      ++ (match s.walker.offered with
          | some step => [byteOf (callKindCode step.kind), byteOf step.target]
          | none => [noneByte, noneByte])
      ++ [s.walker.lampReports]
  | 4 => some [byteOf s.poolFree, byteOf s.cache.length, byteOf s.claims.length, byteOf s.line.urgent.length]
  | 5 => some
    [byteOf s.line.access.length, byteOf s.port.intake.length, byteOf s.freeFrames, byteOf s.port.deferred.length]
  | 6 => some (allSlots.map fun k => (s.slots.get k).requestSet)
  | 7 => some
    [slotSetOf (fun k => (s.slots.get k).refreshExpired) ||| (slotSetOf (fun k => s.missed k) <<< 4),
     byteOf (flashCode s.flash)]
  | 8 =>
    let p (l : Line) : Nat := presenceCode (s.lamps.get l).verdict.presence
    some
      [lineSetOf fun l => (s.lamps.get l).on,
       byteOf (p .tailL + 4 * p .tailR + 16 * p .stop + 64 * p .turnL),
       byteOf (p .turnR + 4 * p .reverse + 16 * p .fog + 64 * p .marker)]
  | 9 => some ([Line.tailL, .tailR, .stop, .turnL].map fun l => tripByte (s.lamps.get l))
  | 10 => some ([Line.turnR, .reverse, .fog, .marker].map fun l => tripByte (s.lamps.get l))
  | _ => none

/-- PART_STATUS_READ (R173). -/
def execPartStatusRead (s : State) : Result :=
  powered (fun s =>
    s.taking (isRequest codePartStatusRead) fun e s =>
      match s.partStatus (e.operand 2) with
      | some data => s.answer e .done data
      | none => s.answer e .refusedRange) s

/-! ### FULL-RESET (R174) -/

/-- FULL_RESET (R174): REFUSED-RIGHTS without RESETS; else DONE, and the transmit wait runs until that frame has been
transmitted or 50 ms have passed. -/
def execFullReset (s : State) : Result :=
  powered (fun s =>
    s.taking (isRequest codeFullReset) fun e s =>
      if s.hasRight e.slot .resets then
        let t := s.answer e .done
        { t with port := { t.port with fullReset := some { since := t.now, ahead := t.port.report.length } } }
      else s.answer e .refusedRights) s

/-- FULL_RESET_WAIT_END (R174): the wait ends, at the transmission of its DONE or 50 ms after the taking, and the part
performs the power-on reset with cause REQUESTED. -/
def execFullResetWaitEnd (s : State) : Result :=
  powered (fun s =>
    match s.port.fullReset with
    | some w => (if w.ahead = 0 then s else s.reach (w.since + Config.fullResetWait)).powerOn .requested
    | none => s) s

end Sys2Proof.Machine
end

