-- ==== Sys2Proof/Machine/Sensors.lean ====
section
/-! DEFINITION. The commands of the Sensor Table: staleness, subscriptions, SENSE-READ (chapter 8). -/
namespace Sys2Proof.Machine

/-- A quality that the staleness threshold turns STALE (R135). -/
def Quality.ages : Quality → Bool
  | .good | .clamped | .sensorFault => true
  | .notYet | .stale => false

/-- STALENESS_THRESHOLD (R135): the age of an entry in the poll ring reaches the threshold; the quality becomes STALE and
the change-notice test is made. -/
def execStalenessThreshold (position index : Nat) (s : State) : Result :=
  event (fun s =>
    if s.servingAt position then
      match s.entryAt position index with
      | some { value := some v, poll := some c, .. } =>
        if v.quality.ages then
          ((s.reach (v.answeredAt + s.staleAfter c)).writeValue position index { v with quality := .stale }
            ).testSubscriptions position index v.quality
        else s
      | _ => s
    else s) s

/-- The value record of the SENSOR entry that a request names, on a unit in a state that the rule admits: the state checks of
R137, R138 and R140. -/
def State.sensorAt (s : State) (admits : UnitState → Bool) (p i : Nat) : Option (FunctionEntry × ValueRecord) :=
  match s.unitAt p with
  | none => none
  | some u =>
    if admits u.state then
      match u.entry i with
      | some e => if e.cls = .sensor then e.value.map fun v => (e, v) else none
      | none => none
    else none

/-- SERVING alone admits a subscription (R137). -/
def servingOnly (u : UnitState) : Bool := u == .serving

/-- A slot's subscription on an entry written (R137, R138). -/
def State.setSubscription (s : State) (p i : Nat) (k : Slot) (b : Option Subscription) : State :=
  s.modifyEntry p i fun e => { e with subs := e.subs.set k b }

/-- The delta operand (R137): bytes 4 and 5. -/
def IntakeEntry.delta (e : IntakeEntry) : Nat := natOfBytes (e.operands 4 2)

/-- SENSE_SUBSCRIBE (R137): the slot's subscription is created or replaced at the present value. -/
def execSenseSubscribe (s : State) : Result :=
  powered (fun s =>
    s.taking (isRequest codeSenseSubscribe) fun e s =>
      if !validPosition (e.operand 2) || !validIndex (e.operand 3) || decide (Config.maxDelta < e.delta) then
        s.answer e .refusedRange
      else
        match s.sensorAt servingOnly (e.operand 2) (e.operand 3) with
        | none => s.answer e .refusedState
        | some (_, v) =>
          (s.setSubscription (e.operand 2) (e.operand 3) e.slot (some ⟨e.delta, v.value⟩)).answer e .done
            (bytesSigned v.value ++ [byteOf (qualityCode v.quality)])) s

/-- SENSE_UNSUBSCRIBE (R138): the slot's own subscription is removed, and the answer says whether there was one. -/
def execSenseUnsubscribe (s : State) : Result :=
  powered (fun s =>
    s.taking (isRequest codeSenseUnsubscribe) fun e s =>
      if !validPosition (e.operand 2) || !validIndex (e.operand 3) then s.answer e .refusedRange
      else
        match s.sensorAt servingOnly (e.operand 2) (e.operand 3) with
        | none => s.answer e .refusedState
        | some (f, _) =>
          (s.setSubscription (e.operand 2) (e.operand 3) e.slot none).answer e .done
            [flagByte (f.subs.get e.slot).isSome]) s

/-- The data of a SENSE-READ item (R140, 11.2); an item above 1 has none. -/
def senseItem (f : FunctionEntry) (v : ValueRecord) (now item : Nat) : Option (List Byte) :=
  match item with
  | 0 => some (bytesSigned v.value ++ [byteOf (qualityCode v.quality)])
  | 1 => some (bytes16 (v.age now) ++ [byteOf (pollCode f.poll)])
  | _ => none

/-- SENSE_READ (R140): of a record in any state. -/
def execSenseRead (s : State) : Result :=
  powered (fun s =>
    s.taking (isRequest codeSenseRead) fun e s =>
      if !validPosition (e.operand 2) || !validIndex (e.operand 3) || decide (1 < e.operand 4) then
        s.answer e .refusedRange
      else
        match s.sensorAt (fun _ => true) (e.operand 2) (e.operand 3) with
        | none => s.answer e .refusedState
        | some (f, v) => s.answer e .done ((senseItem f v s.now (e.operand 4)).getD [])) s

end Sys2Proof.Machine
end

