-- ==== Sys2Proof/Machine/SetupStore.lean ====
section
/-! DEFINITION. Unit access, settings, the setup window and NOTICE-ROUTE (10.3, 10.4, R178). -/
namespace Sys2Proof.Machine

/-! ### Unit access (R163) -/

/-- A record in state SERVING or REFUSED is held at the position (R163). -/
def State.accessibleAt (s : State) (p : Nat) : Bool :=
  match s.unitAt p with
  | some u => u.state == .serving || u.state == .refused
  | none => false

/-- The decision of a unit-access request: refused by the first check that fails, else put at the tail of the Access Queue
without an answer (R163, R38). -/
def State.requestAccess (s : State) (e : IntakeEntry) (kind : AccessKind) : State :=
  if !validPosition (e.operand 2) then s.answer e .refusedRange
  else if !s.hasRight e.slot .unitAccess then s.answer e .refusedRights
  else if !s.accessibleAt (e.operand 2) then s.answer e .refusedState
  else if Config.accessPerSlot ≤ s.accessOutstanding e.slot then (s.count .requestsBusy).answer e .busy
  else
    let a : AccessEntry :=
      { slot := e.slot, sequence := e.sequence, position := e.operand 2, parameter := byteAt e.data 3, kind }
    State.lineWork { s with line := { s.line with access := s.line.access ++ [a] } }

/-- UNIT_PARAM_READ (R163). -/
def execUnitParamRead (s : State) : Result :=
  event (fun s => s.taking (isRequest codeUnitParamRead) fun e s => s.requestAccess e .get) s

/-- UNIT_PARAM_WRITE (R163): the value in bytes 4 to 7. -/
def execUnitParamWrite (s : State) : Result :=
  event (fun s =>
    s.taking (isRequest codeUnitParamWrite) fun e s => s.requestAccess e (.set (word32Of (e.operands 4 4)))) s

/-! ### Settings (R164, R166 to R168, R178) -/

/-- SETTING_READ (10.4). -/
def execSettingRead (s : State) : Result :=
  powered (fun s =>
    s.taking (isRequest codeSettingRead) fun e s =>
      match settingOfNumber (e.operand 2) with
      | none => s.answer e .refusedRange
      | some n => s.answer e .done (bytesOfWord32 (s.settings.get n))) s

/-- A word is the slot's own refresh window or notice routing (R166). -/
def ownWord (k : Slot) : Setting → Bool
  | .refreshWindow j | .noticeRouting j => j == k
  | _ => false

/-- A slot is referenced (R160): by a claim, an outstanding unit access, the holdership of an open window, or as the sender of
the write. -/
def State.referenced (s : State) (k sender : Slot) : Bool :=
  s.claims.any (fun c => c.holder == k) || decide (0 < s.accessOutstanding k)
    || (s.setup.open_ && s.setup.holder == some k) || k == sender

/-- Another slot holds a tag (R160). -/
def State.tagTaken (s : State) (k : Slot) (tag : Byte) : Bool :=
  allSlots.any fun j => j != k && s.tag j == tag

/-- The check of a new word (R168, R160, R178): the refusal, or the word to store. The quota is clamped before it is compared
with the entries held (log entry 11). -/
def State.checkWord (s : State) (sender : Slot) (n : Setting) (w : Word32) : Except Status Word32 :=
  if w &&& ~~~(settingFieldBits n) ≠ 0 then .error .refusedRange
  else
    match n with
    | .slotWord k =>
      if wordTag w = emptyTag then
        if s.referenced k sender then .error .refusedRange else .ok w
      else if s.tagTaken k (wordTag w) then .error .refusedRange
      else .ok w
    | .intakeQuota k =>
      if (clampedWord n w).toNat < (s.port.intake.filter fun e => e.slot == k).length then .error .refusedState
      else .ok (clampedWord n w)
    | _ => .ok (clampedWord n w)

/-- The subscriptions of a slot removed on every entry (R138). -/
def State.dropSubscriptions (s : State) (k : Slot) : State :=
  { s with units := s.units.map fun u =>
      { u with functions := u.functions.map fun e => { e with subs := e.subs.set k none } } }

/-- What emptying a slot does (R160): subscriptions, intake entries and waiting responses go, and the missed flag stays as it
stands (log entry 28); the request set goes with its rights (`reduceSet`). -/
def State.emptySlot (s : State) (k : Slot) : State :=
  let t := s.dropSubscriptions k
  { t with port := { t.port with
      intake := t.port.intake.filter fun e => e.slot ≠ k
      deferred := t.port.deferred.filter fun r => r.slot ≠ k } }

/-- The lines a slot's set may hold under a slot word (R95): none for an empty slot. -/
def allowedLines (w : Word32) : Byte := if wordTag w = emptyTag then 0 else coveredLines w

/-- A slot's request set reduced to what the new slot word allows (R95). -/
def State.reduceSet (s : State) (k : Slot) (w : Word32) : State :=
  s.changeSlot k { s.slots.get k with requestSet := (s.slots.get k).requestSet &&& allowedLines w }

/-- A setting word replaced. -/
def State.storeWord (s : State) (n : Setting) (w : Word32) : State := { s with settings := s.settings.set n w }

/-- A setup-class write decided DONE makes its sender the holder where there is none (R165). -/
def State.takeHolder (s : State) (n : Setting) (k : Slot) : State :=
  if settingClass n = .setup then { s with setup := { s.setup with holder := some (s.setup.holder.getD k) } } else s

/-- The effects of a word that takes effect in the event of its taking (R95, R100, R160): everything but these reads the word
when it needs it. -/
def State.writeWord (s : State) (n : Setting) (w : Word32) : State :=
  let t := s.storeWord n w
  match n with
  | .slotWord k =>
    let t := if wordTag w = emptyTag then t.emptySlot k else t
    t.reduceSet k w
  | .senseEnables => t.clearAgreement fun l => !t.senseEnabled l
  | _ => t

/-- The setup window's checks of a SETUP word (R166): CLOSED, or held by another slot. -/
def State.setupRefusal (s : State) (k : Slot) (n : Setting) : Option (Status × List Byte) :=
  if settingClass n ≠ .setup then none
  else if !s.setup.open_ then some (.setupClosed, [])
  else
    match s.setup.holder with
    | some h => if h = k then none else some (.held, [byteOf (slotNumber h)])
    | none => none

/-- A write of a word decided at its taking (R166). -/
def State.decideWrite (s : State) (e : IntakeEntry) (n : Setting) (w : Word32) : State :=
  if settingClass n = .fixed then s.answer e .refusedRights
  else if !(s.hasRight e.slot .settings || ownWord e.slot n) then s.answer e .refusedRights
  else
    match s.setupRefusal e.slot n with
    | some (status, data) => s.answer e status data
    | none =>
      match s.checkWord e.slot n w with
      | .error status => s.answer e status
      | .ok stored =>
        ((s.writeWord n stored).takeHolder n e.slot).answer e .done (bytesOfWord32 stored) (stored != w)

/-- SETTING_WRITE (R166): the word in bytes 3 to 6. -/
def execSettingWrite (s : State) : Result :=
  event (fun s =>
    s.taking (isRequest codeSettingWrite) fun e s =>
      match settingOfNumber (e.operand 2) with
      | none => s.answer e .refusedRange
      | some n => s.decideWrite e n (word32Of (e.operands 3 4))) s

/-- `size` ones in the low bits. -/
def lowMask (size : Nat) : Word32 := (1#32 <<< size) - 1

/-- The word with the bits from `start` to `start + size - 1` replaced by a value (R167). -/
def replaceField (w : Word32) (start size value : Nat) : Word32 :=
  (w &&& ~~~(lowMask size <<< start)) ||| ((BitVec.ofNat 32 value &&& lowMask size) <<< start)

/-- The operand checks of a field write (R167). -/
def fieldOperandsOk (start size value : Nat) : Bool :=
  decide (1 ≤ size) && decide (size ≤ 24) && decide (start + size ≤ 32) && decide (value < 2 ^ size)

/-- SETTING_FIELD_WRITE (R167): the operands first, then as a SETTING-WRITE of the new word. -/
def execSettingFieldWrite (s : State) : Result :=
  event (fun s =>
    s.taking (isRequest codeSettingFieldWrite) fun e s =>
      let start := e.operand 3
      let size := e.operand 4
      let value := natOfBytes (e.operands 5 3)
      if !fieldOperandsOk start size value then s.answer e .refusedRange
      else
        match settingOfNumber (e.operand 2) with
        | none => s.answer e .refusedRange
        | some n => s.decideWrite e n (replaceField (s.settings.get n) start size value)) s

/-! ### The setup window (R165) -/

/-- The window closes (R165): CLOSED, no holder, the deadline stopped, and a SETUP notice of the cause. -/
def State.closeWindow (s : State) (cause : SetupCause) : State :=
  State.offerAll { s with setup := { open_ := false, holder := none, deadlineSince := none } } .setup
    [byteOf (setupCauseCode cause)]

/-- SETUP_CLOSE (R165): the DONE is queued before the notice. -/
def execSetupClose (s : State) : Result :=
  powered (fun s =>
    s.taking (isRequest codeSetupClose) fun e s =>
      if !s.setup.open_ then s.answer e .setupClosed
      else
        match s.setup.holder with
        | some h =>
          if h = e.slot then (s.answer e .done).closeWindow .requested
          else s.answer e .held [byteOf (slotNumber h)]
        | none => (s.answer e .done).closeWindow .requested) s

/-- SETUP_DEADLINE_EXPIRY (R165). -/
def execSetupDeadlineExpiry (s : State) : Result :=
  powered (fun s =>
    match s.setup.deadlineSince with
    | some since => (s.reach (since + Config.setupDeadline)).closeWindow .deadline
    | none => s) s

/-! ### NOTICE-ROUTE (R169) -/

/-- NOTICE_ROUTE (R169, R175): a set with bit 7 is refused; else the slot's own routing is replaced. -/
def execNoticeRoute (s : State) : Result :=
  powered (fun s =>
    s.taking (isRequest codeNoticeRoute) fun e s =>
      let set := byteAt e.data 2
      if set.getLsbD 7 then s.answer e .refusedRange
      else (s.storeWord (.noticeRouting e.slot) (set.setWidth 32)).answer e .done [set]) s

end Sys2Proof.Machine
end

