-- ==== Sys2Proof/Machine/UnitReads.lean ====
section
/-! DEFINITION. UNIT-READ and FUNCTION-READ (R79 to R81). -/
namespace Sys2Proof.Machine

/-- The items UNIT-READ defines (R80). -/
def unitItemDefined (item : Nat) : Bool := decide (item ≤ 4) || (decide (8 ≤ item) && decide (item ≤ 15))

/-- The admitted-index flags: bit i for index i (R80, 11.2). -/
def UnitRecord.indexFlags (u : UnitRecord) : Word32 :=
  u.functions.foldl (fun w e => w ||| (1#32 <<< e.index)) 0

/-- A load record as one 32-bit number: r in bits 16-27, c in bits 4-14, n in bits 0-3 (11.2). -/
def Load.word (x : Load) : Word32 := BitVec.ofNat 32 (65536 * x.r + 16 * x.c + x.n)

/-- The data of a UNIT-READ item (R80, 11.2). -/
def UnitRecord.item (u : UnitRecord) (item : Nat) : List Byte :=
  match item with
  | 0 => bytesOfWord32 u.identity
  | 1 =>
    [byteOf (unitStateCode u.state),
     byteOf (generationCode u.generation) ||| (flagByte u.partialFlag <<< 4) ||| (flagByte u.restored <<< 5)]
      ++ bytesOfWord16 u.signature
  | 2 => [byteOf u.declared, byteOf u.functions.length, u.lampFaults]
  | 3 =>
    match u.refusal with
    | some (cause, named) => [byteOf (refusalCode cause), byteOf named]
    | none => [0, 0]
  | 4 => bytesOfWord32 u.indexFlags
  | n =>
    match lineOfNumber (n - 8) with
    | some l => bytesOfWord32 (u.loads.get l).word
    | none => []

/-- UNIT_READ (R80). -/
def execUnitRead (s : State) : Result :=
  powered (fun s =>
    s.taking (isRequest codeUnitRead) fun e s =>
      if !validPosition (e.operand 2) || !unitItemDefined (e.operand 3) then s.answer e .refusedRange
      else
        match s.unitAt (e.operand 2) with
        | none => s.answer e .refusedState
        | some u => s.answer e .done (u.item (e.operand 3))) s

/-- The data of a FUNCTION-READ item (R81, 11.2). -/
def FunctionEntry.item (f : FunctionEntry) (item : Nat) : List Byte :=
  match item with
  | 0 => bytesOfWord16 f.code ++ [byteOf (classCode f.cls), byteOf (pollCode f.poll)]
  | _ => bytesSigned f.min ++ bytesSigned f.max

/-- FUNCTION_READ (R81). -/
def execFunctionRead (s : State) : Result :=
  powered (fun s =>
    s.taking (isRequest codeFunctionRead) fun e s =>
      if !validPosition (e.operand 2) || !validIndex (e.operand 3) || decide (1 < e.operand 4) then
        s.answer e .refusedRange
      else
        match s.entryAt (e.operand 2) (e.operand 3) with
        | none => s.answer e .refusedState
        | some f => s.answer e .done (f.item (e.operand 4))) s

end Sys2Proof.Machine
end

