-- ==== Sys2Proof/Machine/Dispatch.lean ====
section
/-! DEFINITION. The one match over the commands: each arm is one direct call of its meaning. -/
namespace Sys2Proof.Machine

def exec (i : Instr) (s : State) : Host.Outcome State Fault Refusal :=
  match i with
  | .powerOnReset => Sys2Proof.Machine.execPowerOnReset s
  | .lowSupplyReset => Sys2Proof.Machine.execLowSupplyReset s
  | .lowSupplyRelease => Sys2Proof.Machine.execLowSupplyRelease s
  | .sampleInstant plugClosed ignitionHigh loaded => Sys2Proof.Machine.execSampleInstant plugClosed ignitionHigh loaded s
  | .attachDebounceExpiry => Sys2Proof.Machine.execAttachDebounceExpiry s
  | .feedStartWaitExpiry => Sys2Proof.Machine.execFeedStartWaitExpiry s
  | .parkDelayExpiry => Sys2Proof.Machine.execParkDelayExpiry s
  | .selfWake plugClosed loaded => Sys2Proof.Machine.execSelfWake plugClosed loaded s
  | .ignitionWake => Sys2Proof.Machine.execIgnitionWake s
  | .busFrameWake frame => Sys2Proof.Machine.execBusFrameWake frame s
  | .startWaitExpiry => Sys2Proof.Machine.execStartWaitExpiry s
  | .feedOffTimeExpiry => Sys2Proof.Machine.execFeedOffTimeExpiry s
  | .combinationRead => Sys2Proof.Machine.execCombinationRead s
  | .combinationReset => Sys2Proof.Machine.execCombinationReset s
  | .callSent => Sys2Proof.Machine.execCallSent s
  | .answerWindowExpiry => Sys2Proof.Machine.execAnswerWindowExpiry s
  | .byteGapTimeout => Sys2Proof.Machine.execByteGapTimeout s
  | .lengthByteError bytes => Sys2Proof.Machine.execLengthByteError bytes s
  | .answerFrameComplete bytes => Sys2Proof.Machine.execAnswerFrameComplete bytes s
  | .discardedByte byte => Sys2Proof.Machine.execDiscardedByte byte s
  | .resyncGapEnd => Sys2Proof.Machine.execResyncGapEnd s
  | .pollDue position index => Sys2Proof.Machine.execPollDue position index s
  | .countersDump => Sys2Proof.Machine.execCountersDump s
  | .countersDumpReset => Sys2Proof.Machine.execCountersDumpReset s
  | .extensionTimerExpiry => Sys2Proof.Machine.execExtensionTimerExpiry s
  | .unitRead => Sys2Proof.Machine.execUnitRead s
  | .functionRead => Sys2Proof.Machine.execFunctionRead s
  | .lampSet ident sequence lines wanted => Sys2Proof.Machine.execLampSet ident sequence lines wanted s
  | .refreshWindowExpiry slot => Sys2Proof.Machine.execRefreshWindowExpiry slot s
  | .flashPhaseEnd => Sys2Proof.Machine.execFlashPhaseEnd s
  | .switchFaultIndication line => Sys2Proof.Machine.execSwitchFaultIndication line s
  | .restartDelayExpiry line => Sys2Proof.Machine.execRestartDelayExpiry line s
  | .lineReset => Sys2Proof.Machine.execLineReset s
  | .measurementInstant line c1 c2 c3 c4 => Sys2Proof.Machine.execMeasurementInstant line c1 c2 c3 c4 s
  | .verdictRead => Sys2Proof.Machine.execVerdictRead s
  | .stalenessThreshold position index => Sys2Proof.Machine.execStalenessThreshold position index s
  | .senseSubscribe => Sys2Proof.Machine.execSenseSubscribe s
  | .senseUnsubscribe => Sys2Proof.Machine.execSenseUnsubscribe s
  | .senseRead => Sys2Proof.Machine.execSenseRead s
  | .actuate => Sys2Proof.Machine.execActuate s
  | .holdTimeExpiry position index => Sys2Proof.Machine.execHoldTimeExpiry position index s
  | .release => Sys2Proof.Machine.execRelease s
  | .forceRelease => Sys2Proof.Machine.execForceRelease s
  | .requestFrame frame => Sys2Proof.Machine.execRequestFrame frame s
  | .refusedFormat => Sys2Proof.Machine.execRefusedFormat s
  | .refusedUnknown => Sys2Proof.Machine.execRefusedUnknown s
  | .unitParamRead => Sys2Proof.Machine.execUnitParamRead s
  | .unitParamWrite => Sys2Proof.Machine.execUnitParamWrite s
  | .settingRead => Sys2Proof.Machine.execSettingRead s
  | .settingWrite => Sys2Proof.Machine.execSettingWrite s
  | .settingFieldWrite => Sys2Proof.Machine.execSettingFieldWrite s
  | .setupClose => Sys2Proof.Machine.execSetupClose s
  | .setupDeadlineExpiry => Sys2Proof.Machine.execSetupDeadlineExpiry s
  | .noticeRoute => Sys2Proof.Machine.execNoticeRoute s
  | .frameTransmitted => Sys2Proof.Machine.execFrameTransmitted s
  | .busOffEntry => Sys2Proof.Machine.execBusOffEntry s
  | .busOffExit => Sys2Proof.Machine.execBusOffExit s
  | .partStatusRead => Sys2Proof.Machine.execPartStatusRead s
  | .fullReset => Sys2Proof.Machine.execFullReset s
  | .fullResetWaitEnd => Sys2Proof.Machine.execFullResetWaitEnd s
  | .answerByteReceived byte => Sys2Proof.Machine.execAnswerByteReceived byte s

end Sys2Proof.Machine
end

