-- ==== Sys2Proof/Machine/Step.lean ====
section
/-! DEFINITION. The step of the part: the command at the front of the queue, or one millisecond of an idle part. -/
namespace Sys2Proof.Machine

/-- The clock passes one millisecond (DESIGN CHOICE, log entry 1): ages and timers run, and no expiry is taken by itself. -/
def State.tick (s : State) : State := { s with now := s.now + 1 }

/-- One step: the command at the front of the queue acts on the state with the queue's rest; with none waiting, one millisecond
passes (log entry 1). -/
def step (s : State) : Host.Outcome State Fault Refusal :=
  match s.pending with
  | c :: rest => exec c { s with pending := rest }
  | [] => .next s.tick

/-- The state with the command that a table word spells put at the front of its queue; unchanged where it spells none. -/
def State.withFetchWord (s : State) (nbits w : Nat) : State :=
  match decodeTableWord nbits w with
  | some c => { s with pending := c :: s.pending }
  | none => s

end Sys2Proof.Machine
end

