-- ==== Sys2Proof/Safety.lean ====
section
/-! DEFINITION. The terms the claims speak in: when a request can be taken, what an answered request leaves, frames, and the
laws that a safe run keeps. -/
namespace Sys2Proof.Machine

/-! ### Frames -/

/-- The parts of State that a frame names. -/
inductive Part where
  | now | sense | line | walker | units | cache | lamps | flash | claims | settings | setup | counters | pending
  /-- The combination record but for the two timers of chapter 1 and the waiting entry that goes with them. -/
  | comb
  /-- What the slots hold but for the missed flags. -/
  | slots
  /-- The missed flags. -/
  | missed
  /-- The port but for the Report Queue and the deferred responses. -/
  | portIn
  /-- The Report Queue and the deferred responses. -/
  | portOut
  deriving DecidableEq, Repr

/-- A part is the same in two states. -/
def Part.same (p : Part) (s t : State) : Prop :=
  match p with
  | .now => t.now = s.now
  | .sense => t.sense = s.sense
  | .line => t.line = s.line
  | .walker => t.walker = s.walker
  | .units => t.units = s.units
  | .cache => t.cache = s.cache
  | .lamps => t.lamps = s.lamps
  | .flash => t.flash = s.flash
  | .claims => t.claims = s.claims
  | .settings => t.settings = s.settings
  | .setup => t.setup = s.setup
  | .counters => t.counters = s.counters
  | .pending => t.pending = s.pending
  | .comb =>
    t.comb = { s.comb with
      attachSince := t.comb.attachSince, parkSince := t.comb.parkSince, entryWaiting := t.comb.entryWaiting }
  | .slots => ∀ k, { t.slots.get k with missed := false } = { s.slots.get k with missed := false }
  | .missed => ∀ k, t.missed k = s.missed k
  | .portIn =>
    t.port.busOff = s.port.busOff ∧ t.port.intake = s.port.intake ∧ t.port.fullReset = s.port.fullReset
      ∧ t.port.canOut = s.port.canOut
  | .portOut => t.port.report = s.port.report ∧ t.port.deferred = s.port.deferred

/-- The frame of an event: each of these parts is the same after it. -/
def Keeps (parts : List Part) (s t : State) : Prop := ∀ p ∈ parts, p.same s t

/-! ### Requests (R161, R162, R170) -/

/-- The Request Engine takes this head of the intake, whose response needs at most `frames` frames (R161, R162). -/
structure Heads (s : State) (e : IntakeEntry) (rest : List IntakeEntry) (frames : Nat) : Prop where
  running : s.comb.heldInReset = false
  awake : s.comb.state ≠ .parked
  noWait : s.port.fullReset = none
  noDeferred : s.port.deferred = []
  head : s.port.intake = e :: rest
  room : s.port.report.length + frames ≤ Config.reportFrames

/-- The head of the intake is a whole request with this code, and it is taken (R161). -/
structure Takes (s : State) (code : Byte) (e : IntakeEntry) (rest : List IntakeEntry) (frames : Nat) : Prop
    extends Heads s e rest frames where
  whole : 8 ≤ e.data.length
  carries : e.code = code

/-- The frame of a response to a slot, byte by byte (11.2, R171). -/
def frameTo (s : State) (k : Slot) (code sequence : Byte) (status : Status) (clamped : Bool) (d0 d1 d2 d3 : Byte) : Frame :=
  { ident := identOf s.block 0x02 (s.tag k)
    data := [code, sequence, byteOf (statusCode status),
      (if s.missed k then 1 else 0) ||| (if clamped then 2 else 0), d0, d1, d2, d3] }

/-- The frame of a response to an intake entry: code and sequence tag echoed. -/
def responseFrame (s : State) (e : IntakeEntry) (status : Status) (clamped : Bool) (d0 d1 d2 d3 : Byte) : Frame :=
  frameTo s e.slot (byteAt e.data 0) (byteAt e.data 1) status clamped d0 d1 d2 d3

/-- What a taken and answered request leaves when it does nothing else: the entry gone, REQUESTS-TAKEN counted, the response
frame at the tail of the Report Queue, the slot's missed flag clear. -/
def answered (s : State) (e : IntakeEntry) (rest : List IntakeEntry) (frames : List Frame) : State :=
  { s with
    port := { s.port with intake := rest, report := s.port.report ++ frames }
    slots := s.slots.set e.slot { s.slots.get e.slot with missed := false }
    counters := { s.counters with requestsTaken := bumped s.counters.requestsTaken } }

/-- A request answered with this status and no data, and nothing else done. -/
def refusedWith (s : State) (e : IntakeEntry) (rest : List IntakeEntry) (status : Status) : State :=
  answered s e rest [responseFrame s e status false 0 0 0 0]

/-- A request answered DONE with these four data bytes, and nothing else done. -/
def doneWith (s : State) (e : IntakeEntry) (rest : List IntakeEntry) (d0 d1 d2 d3 : Byte) : State :=
  answered s e rest [responseFrame s e .done false d0 d1 d2 d3]

/-- The high and low byte of a 16-bit number (11). -/
def hi (n : Nat) : Byte := byteOf (n / 256)
def lo (n : Nat) : Byte := byteOf n

/-- The high and low byte of a signed 16-bit number in two's complement (11). -/
def hiSigned (i : Int) : Byte := hi (BitVec.ofInt 16 i).toNat
def loSigned (i : Int) : Byte := lo (BitVec.ofInt 16 i).toNat

/-- A continuation frame of a counter dump: sequence tag, PART, three counters (11.2). -/
def dumpFrame (s : State) (e : IntakeEntry) (a b c : Nat) : Frame :=
  { ident := identOf s.block 0x02 (s.tag e.slot), data := [byteAt e.data 1, 0x01, hi a, lo a, hi b, lo b, hi c, lo c] }

/-- The six frames of a counter dump (R42): the missed flag rides on the first alone. -/
def dumpFrames (s : State) (e : IntakeEntry) : List Frame :=
  let b := s.counters
  [responseFrame s e .part false (hi b.callsSent) (lo b.callsSent) (hi b.answersGood) (lo b.answersGood),
   dumpFrame s e b.checkErrors b.shortAnswers b.noAnswers,
   dumpFrame s e b.transactionsFailed b.unitsLost b.requestsTaken,
   dumpFrame s e b.requestsBusy b.framesUnknownSender b.noticesDropped,
   dumpFrame s e b.busOffEvents b.trips b.verdictChanges,
   { ident := identOf s.block 0x02 (s.tag e.slot)
     data := [byteAt e.data 0, byteAt e.data 1, 0x00, 0x00, hi b.combinationsBuilt, lo b.combinationsBuilt,
       hi b.cacheRestores, lo b.cacheRestores] }]

/-! ### What an event sends (R158, R162, R170, R171) -/

/-- What the part owes its masters: the Report Queue, the responses that wait, the missed flags and NOTICES-DROPPED. -/
structure Outbox where
  report : List Frame
  deferred : List Response
  missed : PerSlot Bool
  dropped : Nat
  deriving DecidableEq, Repr

/-- What a state owes. -/
def State.outbox (s : State) : Outbox :=
  { report := s.port.report, deferred := s.port.deferred, missed := s.slots.map fun _ x => x.missed
    dropped := s.counters.noticesDropped }

/-- A frame to a slot at the tail of the Report Queue: the slot's missed flag rides on it and clears (R170, R171). -/
def Outbox.send (o : Outbox) (s : State) (kind : Byte) (k : Slot) (data : Bool → List Byte) : Outbox :=
  { o with
    report := o.report ++ [⟨identOf s.block kind (s.tag k), data (o.missed.get k)⟩]
    missed := o.missed.set k false }

/-- A notice offered for a slot: nothing where it is not routed; queued while the free frames exceed the reserve and no
response waits; else dropped, counted and the missed flag set (R162, R171). -/
def Outbox.offer (o : Outbox) (s : State) (kind : NoticeKind) (k : Slot) (content : List Byte) : Outbox :=
  if s.tag k = 0xFF ∨ (s.settings.noticeRouting.get k).getLsbD (noticeKindCode kind - 1) = false then o
  else if o.deferred = [] ∧ s.settings.noticeReserve.toNat < 24 - o.report.length then
    o.send s 0x03 k fun m =>
      byteOf (noticeKindCode kind + if m then 128 else 0) :: (content ++ List.replicate (7 - content.length) 0)
  else { o with missed := o.missed.set k true, dropped := bumped o.dropped }

/-- The CLAIM-END notices of these claims, in their order (R153): position, index, reason. -/
def Outbox.endClaims (o : Outbox) (s : State) (reason : Byte) (cs : List Claim) : Outbox :=
  cs.foldl (fun o c => o.offer s .claimEnd c.holder [byteOf c.position, byteOf c.index, reason]) o

/-- A notice offered to every slot, in ascending order (log entry 6). -/
def Outbox.offerAll (o : Outbox) (s : State) (kind : NoticeKind) (content : List Byte) : Outbox :=
  allSlots.foldl (fun o k => o.offer s kind k content) o

/-- A UNIT notice to every slot: position, state code, identity (R53). -/
def Outbox.unitNotice (o : Outbox) (s : State) (p : Nat) (code : Byte) (identity : Word32) : Outbox :=
  o.offerAll s .unit [byteOf p, code, identity.extractLsb' 24 8, identity.extractLsb' 16 8, identity.extractLsb' 8 8,
    identity.extractLsb' 0 8]

/-- A VERDICT notice to every slot: line and verdict, E, m, estimate, attributed positions (R124, 11.2). -/
def Outbox.verdictNotice (o : Outbox) (s : State) (l : Line) (v : VerdictRecord) : Outbox :=
  o.offerAll s .verdict [byteOf (lineNumber l + 8 * verdictCode v.verdict), byteOf (v.lastE / 256), byteOf v.lastE,
    byteOf (v.lastM / 256), byteOf v.lastM, byteOf v.estimate, v.attributed]

/-- A TRIP notice to every slot: line, trip state, attempt count (R108). -/
def Outbox.tripNotice (o : Outbox) (s : State) (l : Line) (x : LampLine) : Outbox :=
  o.offerAll s .trip [byteOf (lineNumber l), byteOf (tripCode x.trip), byteOf x.attempts]

/-- A response of no LAMP-SET produced in an event that guarantees no frame: discarded for an empty slot (R160), queued while a
frame is free and none waits, else it waits (R162). -/
def Outbox.respond (o : Outbox) (s : State) (r : Response) : Outbox :=
  if s.tag r.slot = 0xFF then o
  else if o.deferred = [] ∧ o.report.length < 24 then
    o.send s 0x02 r.slot fun m =>
      [r.code, r.sequence, byteOf (statusCode r.status), (if m then 1 else 0) ||| (if r.clamped then 2 else 0),
        byteAt r.data 0, byteAt r.data 1, byteAt r.data 2, byteAt r.data 3]
  else { o with deferred := o.deferred ++ [r] }

/-- Responses of no LAMP-SET, oldest first. -/
def Outbox.respondAll (o : Outbox) (s : State) (rs : List Response) : Outbox := rs.foldl (fun o r => o.respond s r) o

/-- UNIT-LOST to the sender of an ACTUATE whose answer is wanted (R40). -/
def commandLost (e : UrgentEntry) : List Response :=
  match e.requester with
  | some q => [⟨q.slot, 0x40, q.sequence, .unitLost, false, []⟩]
  | none => []

/-- UNIT-LOST to the sender of a unit access (R40). -/
def accessLost (a : AccessEntry) : Response :=
  ⟨a.slot, match a.kind with
    | .get => 0x50
    | .set _ => 0x51, a.sequence, .unitLost, false, []⟩

/-- The UNIT-LOST responses for the work addressed to positions `k` and above and the work of a transaction: the urgent ones,
then the accesses, the transaction's first of its kind (R40; at the drop and at COMBINATION-RESET, log entry 9). -/
def State.workLost (s : State) (k : Nat) (t : Option Transaction) : List Response :=
  (match t.map Transaction.originator with
    | some (.urgent e) => commandLost e
    | _ => [])
  ++ (s.line.urgent.filter fun e => decide (k ≤ e.position)).flatMap commandLost
  ++ (match t.map Transaction.originator with
    | some (.access a) => [accessLost a]
    | _ => [])
  ++ (s.line.access.filter fun a => decide (k ≤ a.position)).map accessLost

/-- SUPERSEDED to the requester of the command that waits for the claim, where one does (R36). -/
def State.superseded (s : State) (c : Claim) : List Response :=
  if c.entry = some .waiting then
    (s.line.urgent.filter fun x => decide (x.position = c.position ∧ x.index = c.index)).flatMap fun x =>
      match x.requester with
      | some q => [⟨q.slot, 0x40, q.sequence, .superseded, false, []⟩]
      | none => []
  else []

/-- The Urgent Queue with this command as that of the claim: in the place of the command that waits for it, or at the tail (R36,
R145). -/
def State.withCommand (s : State) (c : Claim) (e : UrgentEntry) : List UrgentEntry :=
  if c.entry = some .waiting then
    s.line.urgent.map fun x => if x.position = c.position ∧ x.index = c.index then e else x
  else s.line.urgent ++ [e]

/-- A STOP to a claim's function without a requester (R147, R150). -/
def stopOf (p i : Nat) : UrgentEntry :=
  { position := p, index := i, command := .stop, value := 0, clamped := false, requester := none }

/-- A subscription's change-notice test (R139). -/
def Passes (b : Subscription) (before after : Quality) (value : Int) : Bool :=
  decide (before ≠ after) || (if b.delta = 0 then decide (value ≠ b.lastNotified)
    else decide ((b.delta : Int) ≤ |value - b.lastNotified|))

/-- The slots that a change of an entry's value record is offered to, in ascending order (R139): their subscription passes the
test and they route SENSE. -/
def State.toNotify (s : State) (f : FunctionEntry) (before after : Quality) (value : Int) : List Slot :=
  allSlots.filter fun k =>
    (match f.subs.get k with
      | some b => Passes b before after value
      | none => false)
    && decide (s.tag k ≠ 0xFF) && (s.settings.noticeRouting.get k).getLsbD 5

/-- The change notices of an entry whose value record was written (R139): each is offered in turn, and the last notified value
moves for those that are queued. -/
structure ChangeNotices (s u : State) (p i : Nat) (f g : FunctionEntry) (before after : Quality) (value : Int) : Prop where
  sent : u.outbox = (s.toNotify f before after value).foldl (fun o k => o.offer s .sense k
    [byteOf p, byteOf i, hi (BitVec.ofInt 16 value).toNat, lo (BitVec.ofInt 16 value).toNat,
      byteOf (qualityCode after)]) s.outbox
  moved : ∀ k, g.subs.get k =
    if k ∈ (s.toNotify f before after value).take
        (if s.port.deferred = [] then 24 - s.port.report.length - s.settings.noticeReserve.toNat else 0) then
      (f.subs.get k).map fun b => { b with lastNotified := value }
    else f.subs.get k

/-! ### Lamp lines (chapters 6, 7) -/

/-- What a classification means (R118, R119), with the expected load, the measured current, the bounds and the open
threshold. -/
def IsClass (e m lower upper threshold : Nat) : Verdict → Prop
  | .oversubscribed => 15000 < e
  | .none => e = 0 ∧ m < threshold
  | .undeclared => e = 0 ∧ threshold ≤ m
  | .open => 0 < e ∧ e ≤ 15000 ∧ m < threshold
  | .low => 0 < e ∧ e ≤ 15000 ∧ threshold ≤ m ∧ m < lower
  | .ok => 0 < e ∧ e ≤ 15000 ∧ threshold ≤ m ∧ lower ≤ m ∧ m ≤ upper
  | .high => 0 < e ∧ e ≤ 15000 ∧ threshold ≤ m ∧ lower ≤ m ∧ upper < m
  | .pending | .short => False

/-- A measurement instant of a line that is ON falls at `due` (R114, R115). -/
structure MeasuredAt (s : State) (l : Line) (due : Nat) : Prop where
  running : s.comb.heldInReset = false
  on : (s.lamps.get l).on = true
  instant : (∃ t, (s.lamps.get l).timing = .settling t ∧ due = t + (s.settings.lampSettle.get l).toNat)
    ∨ (∃ t, (s.lamps.get l).timing = .series t ∧ due = t + 100)
    ∨ (∃ t, (s.lamps.get l).timing = .fullPhase t ∧ (s.settings.lampSettle.get l).toNat < s.settings.flashOn.toNat
        ∧ due = t + (s.settings.lampSettle.get l).toNat)

/-- The measured current in mA: the floored mean of four conversions of at most 20 000 (R113). -/
def meanOf (top a b c d : Nat) : Nat := (min a top + min b top + min c top + min d top) / 4

/-- The presence that a measured current shows (R101). -/
def presenceAt (s : State) (m : Nat) : Presence := if s.settings.openThreshold.toNat ≤ m then .loaded else .open

/-- The combination record after an event of the lamp lines: PASSIVE-LOAD as given, and the two timers of chapter 1 follow. -/
def PassiveIs (s u : State) (b : Bool) : Prop :=
  u.comb = { s.comb with
    passiveLoad := b
    attachSince := u.comb.attachSince, parkSince := u.comb.parkSince, entryWaiting := u.comb.entryWaiting }

/-- A verdict shows load that no unit declares (R5). -/
def State.showsPassive (s : State) : Bool :=
  allLines.any fun l => decide ((s.lamps.get l).verdict.verdict = .undeclared ∨ (s.lamps.get l).verdict.verdict = .high)

/-- The state after an event of the lamp lines: the COMBINATION notice follows a change of PASSIVE-LOAD (R1, R124). -/
def State.verified (u s : State) : State := if u.comb.passiveLoad = s.comb.passiveLoad then u else u.noticeCombination

/-- A line's attempt count after a measurement that does not trip (R105). -/
def attemptsAfter (x : LampLine) (now : Nat) : Nat :=
  match x.runSince with
  | some t => if t + 1000 ≤ now then 0 else x.attempts
  | none => x.attempts

/-- What a line's switch hands on in an event that turns its record `x` into `y` (R97, R114, R115). Switched ON, a steady line
begins to settle, a turn line is timed only where the event begins an on-phase, and off-state sensing ends; switched OFF, the
measuring ends and the off time starts; a switch that stays restarts nothing. -/
structure Switched (x y : LampLine) (l : Line) (now : Nat) (phaseBegin : Bool) : Prop where
  stays : y.on = x.on → y.timing = x.timing ∧ y.agree = x.agree ∧ y.offSince = x.offSince
  steadyOn : x.on = false → y.on = true → isTurn l = false → y.timing = .settling now
  turnOn : x.on = false → y.on = true → isTurn l = true → y.timing = if phaseBegin then .fullPhase now else .partPhase
  senseEnds : x.on = false → y.on = true → y.agree = none ∧ y.offSince = x.offSince
  off : x.on = true → y.on = false → y.timing = .idle ∧ y.offSince = now ∧ y.agree = x.agree

/-! ### Settings (10.4) -/

/-- A word written and answered DONE with the word as stored and the clamped mark where it differs from the one sent (R166). -/
def settingDone (s : State) (e : IntakeEntry) (rest : List IntakeEntry) (n : Setting) (sent stored : Word32) : State :=
  { answered s e rest [responseFrame s e .done (decide (stored ≠ sent)) (stored.extractLsb' 24 8) (stored.extractLsb' 16 8)
      (stored.extractLsb' 8 8) (stored.extractLsb' 0 8)] with
    settings := s.settings.set n stored }

/-- A slot may write this word (R166): it holds SETTINGS, or the word is its own refresh window or notice routing. -/
def MayWrite (s : State) (k : Slot) (n : Setting) : Prop :=
  s.hasRight k .settings = true ∨ n = .refreshWindow k ∨ n = .noticeRouting k

/-- The setup window lets this slot write (R165, R166). -/
def WindowLets (s : State) (k : Slot) : Prop := s.setup.open_ = true ∧ (s.setup.holder = none ∨ s.setup.holder = some k)

/-! ### Values after a reset (R20) -/

/-- Every setting word's default by its number, as 11.4 and R158 list them. -/
def defaultWords : List (Nat × Nat) :=
  [(0x00, 7), (0x01, 1), (0x02, 0x0A6D), (0x03, 3), (0x04, 3),
   (0x10, 0x00050050), (0x11, 0x00020151), (0x12, 0x00080252), (0x13, 0x00740353),
   (0x14, 4), (0x15, 4), (0x16, 4), (0x17, 4), (0x18, 0x0D), (0x19, 0x01), (0x1A, 0x11), (0x1B, 0x7F),
   (0x1C, 0), (0x1D, 0), (0x1E, 0), (0x1F, 0), (0x20, 300), (0x21, 150), (0x22, 1000), (0x23, 200), (0x24, 1000),
   (0x25, 5000), (0x26, 250), (0x27, 340), (0x28, 330), (0x29, 500), (0x2A, 30), (0x2B, 60), (0x2C, 10), (0x2D, 10),
   (0x2E, 60), (0x2F, 6), (0x30, 120), (0x31, 120), (0x32, 120), (0x33, 120), (0x34, 120), (0x35, 120), (0x36, 120),
   (0x37, 120), (0x38, 0xFF)]

/-- The walker after a reset, the detach drop, the entry to PARKED and COMBINATION-RESET (R44). -/
def WalkerAtRest : Walker :=
  { pointer := 1, active := false, extSince := none, extDue := false, offered := none, lampReports := 0
    lampFaultSeen := 0, rearSeen := false, presenceList := 0, owed := none }

/-- A verdict record without a classification (R112). -/
def pendingVerdict (presence : Presence) : VerdictRecord :=
  { verdict := .pending, held := false, lastE := 0, lastM := 0, lastU := 0, lower := 0, upper := 0, difference := 0
    estimate := 0, attributed := 0, candidate := none, repeats := 0, presence }

/-- What power-on reset, the low-supply reset and FULL-RESET leave, chapter by chapter. -/
structure PowerOnValues (t : State) (cause : ResetCause) : Prop where
  state : t.comb.state = .detached
  flags : t.comb.unsettled = false ∧ t.comb.chainFull = false ∧ t.comb.identityClash = false ∧ t.comb.passiveLoad = false
  feed : t.comb.feed = false
  causes : t.comb.resetCause = cause ∧ t.comb.wakeCause = .none
  recorded : t.comb.recordedAttach = false
  timers : t.comb.attachSince = none ∧ t.comb.parkSince = some t.now
  inputs : t.sense.plugClosed = false ∧ t.sense.ignitionHigh = false
  sampling : t.sense.nextSample = some t.now ∧ t.sense.plugCount = 0 ∧ t.sense.ignitionCount = 0
  records : t.units = [] ∧ t.cache = [] ∧ t.poolFree = 128
  walk : t.walker = WalkerAtRest
  line : t.line.tx = none ∧ t.line.gapSince = none ∧ t.line.urgent = [] ∧ t.line.access = []
  lamps : ∀ l, (t.lamps.get l).on = false ∧ (t.lamps.get l).trip = .normal ∧ (t.lamps.get l).attempts = 0
    ∧ (t.lamps.get l).restartSince = none ∧ (t.lamps.get l).verdict = pendingVerdict .unknown
  flash : t.flash = .stopped
  claims : t.claims = []
  slots : ∀ k, (t.slots.get k).requestSet = 0 ∧ (t.slots.get k).refreshExpired = true ∧ t.missed k = false
  settings : ∀ w ∈ defaultWords, (settingOfNumber w.1).map t.setting = some w.2
  window : t.setup.open_ = true ∧ t.setup.holder = none ∧ t.setup.deadlineSince = some t.now
  port : t.port.busOff = false ∧ t.port.intake = [] ∧ t.port.deferred = [] ∧ t.port.report = []
    ∧ t.port.fullReset = none
  counters : t.counters.toList = List.replicate 16 0

/-! ### Answers on the trailer line (R21, R22) -/

/-- The bytes of an answer frame: status, length, payload, check. -/
def answerBytes (status : Byte) (payload : List Byte) : List Byte :=
  (status :: byteOf payload.length :: payload) ++ [crc8 (status :: byteOf payload.length :: payload)]

/-- The first attempt of a PROBE to position 0 as it is called (R46). -/
def probeCall : Transaction :=
  { kind := .probe, target := 0, payload := [], originator := .bringUp .probe, attempts := 1, phase := .calling }

/-- The transaction in flight awaits its answer, of which the bytes `received` have come (R23, R29). -/
structure Receives (s : State) (t : Transaction) (since : Nat) (received : List Byte) : Prop where
  running : s.comb.heldInReset = false
  inFlight : s.line.tx = some t
  waiting : t.phase = .awaiting since received

/-- The attempt of the transaction fails at this command, with the clock (log entry 1) and the counters that it leaves (R23, R24):
no start bit within the answer window, a byte gap, a length byte above 8, a wrong check. -/
inductive AttemptFails (s : State) (t : Transaction) : Instr → Nat → Counters → Prop where
  /-- NO-ANSWER, counted unless the call is a PROBE. -/
  | noAnswer (since : Nat) : t.phase = .awaiting since [] →
      AttemptFails s t .answerWindowExpiry (max s.now (since + 6)) { s.counters with
        noAnswers := if t.kind = .probe then s.counters.noAnswers else bumped s.counters.noAnswers }
  /-- SHORT-ANSWER. -/
  | byteGap (since : Nat) (received : List Byte) : t.phase = .awaiting since received → received ≠ [] →
      AttemptFails s t .byteGapTimeout (max s.now (since + 2)) { s.counters with
        shortAnswers := bumped s.counters.shortAnswers }
  /-- CHECK-ERROR at the length byte. -/
  | lengthByte (since : Nat) (received bytes : List Byte) (status len : Byte) : t.phase = .awaiting since received →
      bytes ≠ [] → received ++ bytes = [status, len] → 8 < len.toNat →
      AttemptFails s t (.lengthByteError bytes) s.now { s.counters with checkErrors := bumped s.counters.checkErrors }
  /-- CHECK-ERROR at the check byte. -/
  | check (since : Nat) (received bytes payload : List Byte) (status check : Byte) : t.phase = .awaiting since received →
      bytes ≠ [] → payload.length ≤ 8 → received ++ bytes = (status :: byteOf payload.length :: payload) ++ [check] →
      check ≠ crc8 (status :: byteOf payload.length :: payload) →
      AttemptFails s t (.answerFrameComplete bytes) s.now { s.counters with checkErrors := bumped s.counters.checkErrors }

/-- A failed attempt with retries left: the resync gap runs from `now`, the transaction waits for its retry, and the attempt is
counted (R24, R25, R30). -/
def retried (s : State) (t : Transaction) (now : Nat) (counters : Counters) : State :=
  { s with now, counters, line := { s.line with tx := some { t with phase := .resync }, gapSince := some now } }

/-- The end of an event of the trailer line: the next work is started (R33), and the two timers of chapter 1 follow. -/
def State.resumed (s : State) : State := s.lineWork.retimeAttach.retimePark

/-- The line may be given new work (R33). -/
structure LineReady (s : State) : Prop where
  free : s.line.tx = none
  gap : s.line.gapSince = none
  working : s.comb.state = .building ∨ s.comb.state = .serving

/-- The walker has nothing of its own to offer in an IDLE walk (R44, R54, R56). -/
structure NothingOffered (s : State) : Prop where
  offered : s.walker.offered = none
  idle : s.walker.active = false
  reports : s.walker.lampReports = 0
  extension : s.walker.extDue = false

/-- The lowest position of the lamp-report set (R56). -/
def LowestReport (w : Walker) (p : Nat) : Prop :=
  p ≤ 6 ∧ inPositionSet w.lampReports p = true ∧ ∀ q, q < p → inPositionSet w.lampReports q = false

/-- No position waits for a LAMP-REPORT (R56). -/
def NoReport (w : Walker) : Prop := ∀ p, p ≤ 6 → inPositionSet w.lampReports p = false

/-- The walker with no walk step to offer offers the LAMP-REPORT to the lowest position of the set, in BUILDING and SERVING alike
(R45, R56; beside its walk step in flight, log entry 27). -/
structure ReportOffered (w : Walker) : Prop where
  lowest : ∀ p, LowestReport w p → w.offered = some (.lampReport p)
  none : NoReport w → w.offered = none

/-- What the walker has offered at the end of an event in SERVING that leaves the walk IDLE and no LAMP-REPORT in flight (R45, R54,
R56): a step that was offered stays; else the LAMP-REPORT to the lowest position, and without one the extension probe that the mark
asks for. -/
structure IdleOffers (w v : Walker) : Prop where
  stays : w.offered ≠ none → v.offered = w.offered
  report : w.offered = none → ∀ p, LowestReport w p → v.offered = some (.lampReport p)
  probe : w.offered = none → NoReport w → v.offered = if w.extDue then some .probe else none

/-- The walk goes on with this step after an event that frees the line with no urgent work waiting (R33, R45, R56, R59): it is
called at once and a LAMP-REPORT is offered beside it; or the LAMP-REPORT that stands offered is called, and the step is offered
(log entry 27). -/
structure WalkGoesOn (s u : State) (step : Step) : Prop where
  called : s.walker.offered = none →
    u.line = { s.line with tx := some (Originator.bringUp step).transaction }
    ∧ u.walker.lampReports = s.walker.lampReports ∧ u.walker.owed = s.walker.owed ∧ ReportOffered u.walker
  behind : ∀ p, s.walker.offered = some (.lampReport p) →
    u.line = { s.line with tx := some (Originator.bringUp (.lampReport p)).transaction }
    ∧ u.walker.offered = some step ∧ u.walker.owed = none
    ∧ ∀ q, inPositionSet u.walker.lampReports q = (inPositionSet s.walker.lampReports q && decide (q ≠ p))

/-- The walker offers no step or a LAMP-REPORT, as it does while a walk step is in flight (R44, R45). -/
def ReportAtMost (w : Walker) : Prop := w.offered = none ∨ ∃ p, w.offered = some (.lampReport p)

/-- A sensor poll is available: an entry of a SERVING unit with its next poll due at or before the present time (R34). -/
def Available (s : State) (p i due : Nat) : Prop :=
  ∃ u ∈ s.units, u.state = .serving ∧ u.position = p ∧ due ≤ s.now
    ∧ ∃ f ∈ u.functions, f.index = i ∧ ∃ v, f.value = some v ∧ v.nextDue = some due

/-- The poll that goes first: the earliest due, then the lower position, then the lower index (R34). -/
def GoesFirst (s : State) (p i due : Nat) : Prop :=
  Available s p i due ∧ ∀ q j d, Available s q j d →
    due < d ∨ (due = d ∧ (p < q ∨ (p = q ∧ i ≤ j)))

/-- The SENSE call of a poll (R34). -/
def senseCall (p i : Nat) : Transaction :=
  { kind := .sense, target := p, payload := [byteOf i], originator := .poll p i, attempts := 1, phase := .calling }

/-- A bring-up call to a placed unit without payload (11.3). -/
def stepCall (kind : CallKind) (p : Nat) (step : Step) : Transaction :=
  { kind, target := p, payload := [], originator := .bringUp step, attempts := 1, phase := .calling }

/-- The walk ends (R45): the phase is IDLE and the extension timer runs from zero (R54), and out of BUILDING the combination is
SERVING (R11); IDENTITY-CLASH and CHAIN-FULL are left with these values. -/
structure WalkEnds (s u : State) (clash full : Bool) : Prop where
  walker : u.walker = { s.walker with active := false, extSince := some u.now }
  builds : s.comb.state = .building →
    u.comb = { s.comb with state := .serving, attachSince := none, identityClash := clash, chainFull := full }
    ∧ u.counters.combinationsBuilt = bumped s.counters.combinationsBuilt
  serves : s.comb.state = .serving → u.comb = { s.comb with identityClash := clash, chainFull := full }
    ∧ u.counters.combinationsBuilt = s.counters.combinationsBuilt

/-- The state after an event of the trailer line that ends the walk: the next work is started and the COMBINATION notice follows
a change of the state or of a flag (R1). -/
def State.walkEnded (u s : State) : State :=
  if s.comb.state = .building ∨ u.comb.identityClash ≠ s.comb.identityClash ∨ u.comb.chainFull ≠ s.comb.chainFull then
    u.resumed.noticeCombination
  else u.resumed

/-! ### Listing (R65 to R75) -/

/-- The answer to a listing call to the unit in bring-up is awaited, with no urgent work waiting. -/
structure Lists (s : State) (t : Transaction) (since : Nat) (step : Step) (v : UnitRecord) : Prop where
  receives : Receives s t since []
  call : t = { (Originator.bringUp step).transaction with attempts := t.attempts, phase := t.phase }
  gap : s.line.gapSince = none
  urgent : s.line.urgent = []
  active : s.walker.active = true
  offered : ReportAtMost s.walker
  walking : s.comb.state = .building ∨ s.comb.state = .serving
  unit : s.unitAt step.target = some v
  listing : v.state = .listing

/-- The walk goes on with `next`; the record at `p` is `w`, and the presence list held is `list`. -/
structure GoesOn (s u : State) (p : Nat) (w : UnitRecord) (next : Step) (list : Word32) : Prop where
  unit : u.unitAt p = some w
  others : ∀ q, q ≠ p → u.unitAt q = s.unitAt q
  goesOn : WalkGoesOn s u next
  walker : u.walker.pointer = s.walker.pointer ∧ u.walker.active = true ∧ u.walker.presenceList = list
  comb : u.comb = { s.comb with
    unsettled := u.comb.unsettled
    attachSince := u.comb.attachSince, parkSince := u.comb.parkSince, entryWaiting := u.comb.entryWaiting }
  good : u.counters.answersGood = bumped s.counters.answersGood
  rest : Keeps [.now, .sense, .lamps, .flash, .claims, .slots, .settings, .setup, .portIn, .pending] s u

/-- The unit's state stands: nothing is sent. -/
structure Continues (s u : State) (p : Nat) (w : UnitRecord) (next : Step) (list : Word32) : Prop
    extends GoesOn s u p w next list where
  silent : u.outbox = s.outbox
  settled : u.comb.unsettled = s.comb.unsettled

/-- The unit's state changes to that of `w`: its UNIT notice is offered and UNSETTLED re-evaluated (R3, R53), and BRIDGE follows. -/
structure Bridges (s u : State) (p : Nat) (w : UnitRecord) : Prop extends GoesOn s u p w (.bridge p) 0 where
  notice : u.outbox = s.outbox.unitNotice s p (byteOf (unitStateCode w.state)) w.identity
  settled : u.comb.unsettled = u.units.any UnitRecord.unsettles

/-- The unit is refused (R70): the functions given back, the cause recorded. -/
def Refuses (s u : State) (p : Nat) (v : UnitRecord) (cause : RefusalCause) (named : Nat) : Prop :=
  Bridges s u p { v with functions := [], partialFlag := false, refusal := some (cause, named), state := .refused }

/-- The lowest index from `i` on that the presence list holds, if any (R68). -/
def NextPresent (list : Word32) (i : Nat) : Option Nat → Prop
  | some j => i ≤ j ∧ j < 32 ∧ list.getLsbD j = true ∧ ∀ h, i ≤ h → h < j → list.getLsbD h = false
  | none => ∀ h, i ≤ h → h < 32 → list.getLsbD h = false

/-- The third pass goes on at the next present index, or the listing ends normally (R68, R71). -/
def PassesOn (s u : State) (p : Nat) (w : UnitRecord) : Option Nat → Prop
  | some j => Continues s u p w (.listEntry p j) s.walker.presenceList
  | none => Bridges s u p { w with state := .bridging }

/-- The state after a listing answer: the COMBINATION notice follows a change of UNSETTLED (R1). -/
def State.listed (u s : State) : State := if u.comb.unsettled = s.comb.unsettled then u else u.noticeCombination

/-- The function entries in use with the `m` most recent cache records kept (R72, R74). -/
def State.usedWith (s : State) (m : Nat) : Nat :=
  (s.units.map fun u => u.functions.length).sum + ((s.cache.take m).map fun r => r.functions.length).sum

/-- Room is made for one entry (R74, R90): the oldest cache records are given up one at a time until an entry is free or the cache
is empty, which keeps the `m` most recent. -/
def MakesRoom (s : State) (m : Nat) : Prop :=
  m ≤ s.cache.length ∧ (∀ j, m < j → j ≤ s.cache.length → 128 ≤ s.usedWith j) ∧ (0 < m → s.usedWith m < 128)

/-! ### Flags of an answer (R55, R56) -/

/-- What a good answer's flags leave of the walker (R31, R55, R56): of a unit of generation A nothing; the lamp-fault flag of a
SERVING unit puts its position in the lamp-report set when it differs from the remembered one, and the rear-activity flag of the
last unit is remembered and at its rise hastens an extension probe in SERVING, the walk IDLE and no flag of the walk set. -/
structure FlagsHanded (s u : State) (v : UnitRecord) (status : Byte) : Prop where
  genA : v.generation = .a → u.walker = s.walker
  others : u.walker = { s.walker with
    lampReports := u.walker.lampReports, lampFaultSeen := u.walker.lampFaultSeen
    rearSeen := u.walker.rearSeen, extDue := u.walker.extDue }
  reports : v.generation = .b → ∀ q, inPositionSet u.walker.lampReports q = (inPositionSet s.walker.lampReports q
    || decide (q = v.position ∧ v.state = .serving
        ∧ inPositionSet s.walker.lampFaultSeen v.position ≠ status.getLsbD 5))
  remembered : v.generation = .b → ∀ q, inPositionSet u.walker.lampFaultSeen q =
    if q = v.position ∧ v.state = .serving then status.getLsbD 5 else inPositionSet s.walker.lampFaultSeen q
  rear : v.generation = .b → (∀ w ∈ s.units, w.position ≤ v.position) → u.walker.rearSeen = status.getLsbD 4
    ∧ u.walker.extDue = (s.walker.extDue || decide (status.getLsbD 4 = true ∧ s.walker.rearSeen = false
        ∧ s.comb.state = .serving ∧ s.walker.active = false ∧ s.comb.chainFull = false ∧ s.comb.identityClash = false))
  front : (∃ w ∈ s.units, v.position < w.position) → u.walker.rearSeen = s.walker.rearSeen
    ∧ u.walker.extDue = s.walker.extDue

/-! ### Laws that every step keeps -/

/-- The stores hold what the manual lets them hold: the Report Queue (R170), the Intake Queue with each slot's quota (R157), the
Access Queue with each slot's two outstanding requests (R38), the cache (R83), the Claim Table (R143) and the counters (R41) are
within their bounds; every ranged setting is in its range but for the hold value of a refresh window, no word has a bit outside
its fields, and the FIXED words stand (R164, R168, R178); no two slots share a tag but FFh (R158). -/
structure StoresLawful (s : State) : Prop where
  report : s.port.report.length ≤ Config.reportFrames
  intake : s.port.intake.length ≤ Config.intakeEntries
  quotas : ∀ k, (s.port.intake.filter fun e => e.slot == k).length ≤ s.quota k
  accesses : s.line.access.length ≤ 8 ∧ ∀ k, s.accessOutstanding k ≤ Config.accessPerSlot
  cache : s.cache.length ≤ Config.cacheRecords
  claims : s.claims.length ≤ Config.maxClaims
  counters : ∀ n ∈ s.counters.toList, n ≤ 65535
  ranges : ∀ n lo hi, settingRange n = some (lo, hi) →
    (lo ≤ s.setting n ∧ s.setting n ≤ hi) ∨ ((∃ k, n = .refreshWindow k) ∧ s.setting n = 0)
  fields : ∀ n, s.settings.get n &&& ~~~(settingFieldBits n) = 0
  fixed : s.settings.partCode = 7 ∧ s.settings.behaviourRevision = 1
  tags : ∀ j k, j ≠ k → s.tag j = s.tag k → s.tag j = 0xFF

/-- The switch law of R97 for every line, and R106: a line that no slot asks for is NORMAL with attempt count 0. -/
def SwitchesFollow (s : State) : Prop :=
  ∀ l, (s.lamps.get l).on = switchLaw (s.requested l) (s.lamps.get l).trip s.flash l
    ∧ (s.requested l = false → (s.lamps.get l).trip = .normal ∧ (s.lamps.get l).attempts = 0)

/-- The attach debounce and the park delay run exactly under their conditions (R8, R14). -/
structure TimersFollow (s : State) : Prop where
  attach : s.comb.attachSince.isSome = s.attachDiffers
  waiting : s.comb.entryWaiting = true → s.attached = true ∧ s.comb.state = .detached
  park : s.comb.parkSince.isSome = s.mayPark

/-- UNSETTLED and PASSIVE-LOAD say what R3 and R5 define them to say. -/
structure FlagsFollow (s : State) : Prop where
  unsettled : s.comb.unsettled = s.units.any UnitRecord.unsettles
  passive : s.comb.passiveLoad = allLines.any fun l => (s.lamps.get l).verdict.verdict.isPassive

/-- What the combination state rules out: outside BUILDING and SERVING no unit, no claim and no work on the trailer line (R10, R12,
R15); the feed is ON exactly in SETTLING, BUILDING and SERVING (R9); the feed start wait runs exactly in SETTLING (R10), the
start wait in PARKED alone (R17). -/
structure StatesFollow (s : State) : Prop where
  quiet : s.comb.state ≠ .building → s.comb.state ≠ .serving →
    s.units = [] ∧ s.claims = [] ∧ s.line.tx = none ∧ s.line.urgent = [] ∧ s.line.access = []
  feed : s.comb.feed = decide (s.comb.state = .settling ∨ s.comb.state = .building ∨ s.comb.state = .serving)
  feedStart : s.comb.feedStartSince.isSome = decide (s.comb.state = .settling)
  startWait : s.comb.startWaitSince.isSome = true → s.comb.state = .parked

/-- The bring-up steps that are offered, in flight (R44), or wait behind an offered LAMP-REPORT (log entry 27). -/
def State.steps (s : State) : List Step :=
  s.walker.offered.toList ++ s.walker.owed.toList ++ (match s.line.tx.map Transaction.originator with
    | some (.bringUp step) => [step]
    | _ => [])

/-- A LAMP-REPORT, which is no step of the walk (R45, R56). -/
def Step.isReport : Step → Bool
  | .lampReport _ => true
  | .probe | .place _ _ _ _ | .listOpen _ | .loadRead _ _ | .listEntry _ _ | .bridge _ => false

/-- A step that serves the unit in bring-up (R44): a listing call or BRIDGE. -/
def Step.bringsUp : Step → Bool
  | .listOpen _ | .loadRead _ _ | .listEntry _ _ | .bridge _ => true
  | .probe | .place _ _ _ _ | .lampReport _ => false

/-- The unit in bring-up is the last, the walk pointer stands at its position, and the units before it are SERVING or REFUSED (R44,
R52). -/
structure InBringUp (s : State) (p : Nat) (u : UnitRecord) : Prop where
  pointer : s.walker.pointer = p
  last : s.units.length = p
  unit : s.unitAt p = some u
  before : ∀ w ∈ s.units, w.position < p → w.unsettles = false

/-- What a step asks of the Unit Table (R44, R48, R49, R52, R56, R65, R68). -/
def StepLawful (s : State) : Step → Prop
  | .probe => True
  | .place p identity _ _ => s.walker.pointer ≤ p ∧ p ≤ 6 ∧ ∀ u ∈ s.units, u.identity ≠ identity
  | .listOpen p | .loadRead p _ => ∃ u, InBringUp s p u ∧ u.state = .listing ∧ u.functions = []
  | .listEntry p i => ∃ u, InBringUp s p u ∧ u.state = .listing ∧ i ≤ 31 ∧ ∀ f ∈ u.functions, f.index < i
  | .bridge p => ∃ u, InBringUp s p u ∧ (u.state = .bridging ∨ u.state = .refused)
  | .lampReport p => 1 ≤ p ∧ p ≤ s.units.length

/-- The Unit Table and the walk agree. At most six records at positions 1 to n (R49); no identity twice in the Unit Table and the
cache (R84); at most one step of the walk, which it has exactly while it is ACTIVE, as it is in BUILDING, but for the extension
probe that an IDLE walk offers, and at most one LAMP-REPORT (R44, R45); the step that waits does so behind an offered LAMP-REPORT
(R59); outside BUILDING and SERVING the walker is at rest (R44); with no unit in bring-up the walk pointer is n + 1 and every unit
SERVING or REFUSED (R44, R52); the transaction in flight is the call of its work, and the queued work, the claims and the
lamp-report set name units that are there (R29, R40, R58, R152). -/
structure WalkLawful (s : State) : Prop where
  positions : s.units.map UnitRecord.position = List.range' 1 s.units.length
  six : s.units.length ≤ Config.maxUnits
  identities : (s.units.map UnitRecord.identity ++ s.cache.map CacheRecord.identity).Nodup
  outside : s.comb.state ≠ .building → s.comb.state ≠ .serving → s.walker = WalkerAtRest
  one : (s.steps.filter fun step => !step.isReport).length ≤ 1 ∧ (s.steps.filter Step.isReport).length ≤ 1
  active : s.walker.active = true → ∃ step ∈ s.steps, step.isReport = false
  idle : s.walker.active = false → s.comb.state ≠ .building ∧ s.steps.length ≤ 1
    ∧ ∀ step ∈ s.steps, step.isReport = true ∨ s.walker.offered = some .probe
  lawful : ∀ step ∈ s.steps, StepLawful s step
  settled : (∀ step ∈ s.steps, step.bringsUp = false) →
    s.walker.pointer = s.units.length + 1 ∧ ∀ u ∈ s.units, u.unsettles = false
  owed : ∀ step, s.walker.owed = some step → step.isReport = false ∧ ∃ p, s.walker.offered = some (.lampReport p)
  call : ∀ t, s.line.tx = some t → t = { t.originator.transaction with attempts := t.attempts, phase := t.phase }
    ∧ t.target ≤ s.units.length
    ∧ (t.target = 0 → ∃ step, t.originator = .bringUp step ∧ step.target = 0)
  urgent : ∀ e ∈ s.line.urgent, 1 ≤ e.position ∧ e.position ≤ s.units.length
  access : ∀ a ∈ s.line.access, 1 ≤ a.position ∧ a.position ≤ s.units.length
  claims : ∀ c ∈ s.claims, 1 ≤ c.position ∧ c.position ≤ s.units.length
  reports : ∀ p, p ≤ 6 → inPositionSet s.walker.lampReports p = true → p ≤ s.units.length

/-- A function list is in ascending index (R63), and each entry's bounds rise (R69) and hold its value (R129). -/
structure FunctionsLawful (fs : List FunctionEntry) : Prop where
  rising : fs.Pairwise fun f g => f.index < g.index
  indices : ∀ f ∈ fs, f.index ≤ 31
  bounds : ∀ f ∈ fs, f.min < f.max
  values : ∀ f ∈ fs, ∀ v, f.value = some v → f.min ≤ v.value ∧ v.value ≤ f.max

/-- The Function Pool: at most 128 entries in use (R72), each lawful, in the Unit Table and in the cache. -/
structure PoolLawful (s : State) : Prop where
  used : s.poolUsed ≤ Config.poolEntries
  units : ∀ u ∈ s.units, FunctionsLawful u.functions
  cache : ∀ r ∈ s.cache, FunctionsLawful r.functions

/-- The Claim Table and the Urgent Queue: at most 8 claims, at most one for a function, in ascending position and index, in which
order an event ends them (R12, R152), each on a body function of a SERVING unit (R143); the waiting entries are those of the claims
whose entry is WAITING, one for each, so at most 8 (R35, R143). -/
structure ClaimsLawful (s : State) : Prop where
  count : s.claims.length ≤ Config.maxClaims
  rising : s.claims.Pairwise fun c d => c.position < d.position ∨ (c.position = d.position ∧ c.index < d.index)
  serving : ∀ c ∈ s.claims, s.servingAt c.position = true
    ∧ ∃ f, s.entryAt c.position c.index = some f ∧ f.cls = c.cls ∧ f.cls ≠ .sensor
  queue : s.line.urgent.length ≤ 8
  entries : s.line.urgent.Pairwise fun d e => d.position ≠ e.position ∨ d.index ≠ e.index
  waiting : ∀ c ∈ s.claims, c.entry = some .waiting ↔ ∃ e ∈ s.line.urgent, e.position = c.position ∧ e.index = c.index
  owned : ∀ e ∈ s.line.urgent, ∃ c ∈ s.claims, c.position = e.position ∧ c.index = e.index

end Sys2Proof.Machine
end

