-- ==== Sys2Proof/Certificates/Slice0/Obligations.lean ====
section
/-! DEFINITION. The statements for the provers. Where a statement gives the clock after an event (`now = max s.now …`, the clock
of `AttemptFails`), that clause is the model's choice (log entry 1), as is `exec c s = .next s` for a command whose event cannot
happen (log entry 2). -/
open Sys2Proof Sys2Proof.Machine

/-! ### The step and the resets -/

/-- The command at the front of the queue acts on the state with the queue's rest. -/
def Obligations.StepRunsFrontCommand : Prop :=
  ∀ (c : Instr) (s : State) (rest : List Instr),
    step { s with pending := c :: rest } = exec c { s with pending := rest }

/-- R20 and the reset sentence of every chapter: the three resets and the end of the FULL-RESET wait (R174) leave the power-on
values, each with its cause; the low-supply reset holds the part until its release, and held, it does nothing but be released or
reset (log entry 2).
The model's choices in it are the waiting commands, the end of the FULL-RESET wait and the presence list: log entries 16, 22, 26. -/
def Obligations.ResetsGivePowerOnValues : Prop :=
  (∀ s : State,
      (∃ t, exec .powerOnReset s = .next t ∧ PowerOnValues t .powerOn ∧ t.comb.heldInReset = false ∧ Keeps [.now, .pending] s t)
      ∧ (∃ t, exec .lowSupplyReset s = .next t ∧ PowerOnValues t .lowSupply ∧ t.comb.heldInReset = true
          ∧ Keeps [.now, .pending] s t)
      ∧ (s.comb.heldInReset = true → ∃ t, exec .lowSupplyRelease s = .next t ∧ PowerOnValues t .lowSupply
          ∧ t.comb.heldInReset = false ∧ Keeps [.now, .pending] s t)
      ∧ (∀ w, s.comb.heldInReset = false → s.port.fullReset = some w → ∃ t, exec .fullResetWaitEnd s = .next t
          ∧ PowerOnValues t .requested ∧ t.comb.heldInReset = false
          ∧ t.now = (if w.ahead = 0 then s.now else max s.now (w.since + 50)) ∧ Keeps [.pending] s t))
  ∧ (∀ (c : Instr) (s : State), s.comb.heldInReset = true →
      c ≠ .powerOnReset → c ≠ .lowSupplyReset → c ≠ .lowSupplyRelease → exec c s = .next s)


/-! ### The combination (chapter 1, 6.4) -/

/-- R6 and R100: a sample instant moves the debounced plug and ignition levels at the third sample in a row that differs, and
the presence of a line that is off, enabled and 20 ms off at the third sample in a row of one value. -/
def Obligations.SampleInstantDebounces : Prop :=
  ∀ (s : State) (plug ign : Bool) (loaded : Byte) (due : Nat),
    s.comb.heldInReset = false → s.sense.nextSample = some due →
    ∃ t, exec (.sampleInstant plug ign loaded) s = .next t
      ∧ t.now = max s.now due
      ∧ t.sense.plugClosed = (if plug ≠ s.sense.plugClosed ∧ 2 ≤ s.sense.plugCount then plug else s.sense.plugClosed)
      ∧ t.sense.plugCount = (if plug = s.sense.plugClosed ∨ 2 ≤ s.sense.plugCount then 0 else s.sense.plugCount + 1)
      ∧ t.sense.ignitionHigh = (if ign ≠ s.sense.ignitionHigh ∧ 2 ≤ s.sense.ignitionCount then ign else s.sense.ignitionHigh)
      ∧ t.sense.ignitionCount = (if ign = s.sense.ignitionHigh ∨ 2 ≤ s.sense.ignitionCount then 0 else s.sense.ignitionCount + 1)
      ∧ t.sense.nextSample = some (due + 50)
      ∧ (∀ l, let x := s.lamps.get l
          let sample : Presence := if loaded.getLsbD (lineNumber l) then .loaded else .open
          if x.on = false ∧ s.settings.senseEnables.getLsbD (lineNumber l) = true ∧ x.offSince + 20 ≤ max s.now due then
            t.lamps.get l =
              match x.agree with
              | some a =>
                if a.sample = sample then
                  if 2 ≤ a.count then { x with agree := none, verdict := { x.verdict with presence := sample } }
                  else { x with agree := some ⟨sample, a.count + 1⟩ }
                else { x with agree := some ⟨sample, 1⟩ }
              | none => { x with agree := some ⟨sample, 1⟩ }
          else t.lamps.get l = x)
      ∧ Keeps [.comb, .line, .walker, .units, .cache, .flash, .claims, .slots, .missed, .settings, .setup, .portIn, .portOut,
          .counters, .pending] s t

/-- R8, R10 and R19: in DETACHED with the attach condition the debounce leads to SETTLING with the feed ON and a COMBINATION
notice, or while the feed-off time runs to a waiting entry, which the end of that time takes if the condition still holds. The
feed start wait leads on to BUILDING with the pointer at 1 and a PROBE to position 0 on the line. -/
def Obligations.AttachLeadsToSettlingAndBuilding : Prop :=
  ((∀ (s : State) (since : Nat), s.comb.heldInReset = false → s.comb.state = .detached →
        s.comb.attachSince = some since → s.attached = true →
        (s.comb.feedOffSince = none → ∃ u, exec .attachDebounceExpiry s = .next u.noticeCombination
          ∧ u.now = max s.now (since + s.settings.attachDebounce.toNat)
          ∧ u.comb.state = .settling ∧ u.comb.feed = true ∧ u.comb.feedStartSince = some u.now ∧ u.comb.attachSince = none
          ∧ Keeps [.sense, .line, .walker, .units, .cache, .lamps, .flash, .claims, .slots, .missed, .settings, .setup, .portIn,
              .portOut, .counters, .pending] s u)
        ∧ (∀ f, s.comb.feedOffSince = some f → ∃ t, exec .attachDebounceExpiry s = .next t
          ∧ t.comb.entryWaiting = true ∧ t.comb.attachSince = some since
          ∧ Keeps [.comb, .sense, .line, .walker, .units, .cache, .lamps, .flash, .claims, .slots, .missed, .settings, .setup,
              .portIn, .portOut, .counters, .pending] s t))
    ∧ (∀ (s : State) (since : Nat), s.comb.heldInReset = false → s.comb.feedOffSince = some since → s.comb.state = .detached →
        (s.comb.entryWaiting = true → s.attached = true → ∃ u, exec .feedOffTimeExpiry s = .next u.noticeCombination
          ∧ u.now = max s.now (since + 200) ∧ u.comb.state = .settling ∧ u.comb.feed = true ∧ u.comb.feedOffSince = none
          ∧ u.comb.feedStartSince = some u.now
          ∧ Keeps [.sense, .line, .walker, .units, .cache, .lamps, .flash, .claims, .slots, .missed, .settings, .setup, .portIn,
              .portOut, .counters, .pending] s u)
        ∧ (s.comb.entryWaiting = false ∨ s.attached = false → ∃ t, exec .feedOffTimeExpiry s = .next t
          ∧ t.comb.state = .detached ∧ t.comb.feed = s.comb.feed ∧ t.comb.feedOffSince = none
          ∧ Keeps [.sense, .line, .walker, .units, .cache, .lamps, .flash, .claims, .slots, .missed, .settings, .setup, .portIn,
              .portOut, .counters, .pending] s t)))
  ∧ (∀ (s : State) (since : Nat), s.comb.heldInReset = false → s.comb.state = .settling →
      s.comb.feedStartSince = some since → s.line.tx = none → s.line.gapSince = none → s.line.urgent = [] →
      s.walker = WalkerAtRest →
      ∃ u, exec .feedStartWaitExpiry s = .next u.noticeCombination
        ∧ u.now = max s.now (since + s.settings.feedStartWait.toNat)
        ∧ u.comb.state = .building ∧ u.comb.feedStartSince = none ∧ u.comb.feed = s.comb.feed
        ∧ u.walker = { WalkerAtRest with active := true } ∧ u.line = { s.line with tx := some probeCall }
        ∧ Keeps [.sense, .units, .cache, .lamps, .flash, .claims, .slots, .missed, .settings, .setup, .portIn, .portOut,
            .counters, .pending] s u)

/-- R12, R88 and R89: the attach debounce in SETTLING, BUILDING or SERVING takes the detach drop: the line and its queues empty,
no claim, the complete units in the cache with position 1 most recent, the feed OFF, the flags of the walk clear, the lamps
switched as they were with their candidates cleared; CLAIM-END UNIT-LOST is offered for every claim and UNIT-LOST answers every
piece of work that is discarded, ahead of the COMBINATION notice; no unit is counted as lost, no transaction as failed.
The model's choices in it are the order of its frames, the end of the presence list, and the missed flag at a response discarded
for an empty slot: log entries 7, 9, 22, 28. -/
def Obligations.DetachDrop : Prop :=
  ∀ (s : State) (since : Nat), s.comb.heldInReset = false →
    (s.comb.state = .settling ∨ s.comb.state = .building ∨ s.comb.state = .serving) →
    s.comb.attachSince = some since → s.cache.length ≤ 4 →
    ∃ u, exec .attachDebounceExpiry s = .next u.noticeCombination
      ∧ u.now = max s.now (since + s.settings.attachDebounce.toNat)
      ∧ u.comb.state = .detached ∧ u.comb.feed = false ∧ u.comb.feedStartSince = none
      ∧ u.comb.unsettled = false ∧ u.comb.chainFull = false ∧ u.comb.identityClash = false
      ∧ u.comb.passiveLoad = s.comb.passiveLoad
      ∧ u.units = [] ∧ u.claims = []
      ∧ u.outbox = (s.outbox.endClaims s 3 s.claims).respondAll s (s.workLost 0 s.line.tx)
      ∧ u.cache = (((s.units.filter UnitRecord.complete).map UnitRecord.toCache) ++ s.cache).take 4
      ∧ u.line = { s.line with tx := none, gapSince := none, urgent := [], access := [] }
      ∧ u.walker = WalkerAtRest ∧ u.counters = { s.counters with noticesDropped := u.counters.noticesDropped }
      ∧ (∀ l, u.lamps.get l = { s.lamps.get l with
          verdict := { (s.lamps.get l).verdict with candidate := none, repeats := 0 } })
      ∧ Keeps [.sense, .flash, .slots, .settings, .setup, .portIn, .pending] s u

/-- R12, R14, R15, R88 and R89: the park delay leads to PARKED with the attach value and the samples recorded, the sampling and
the two timers stopped, and the drop made: the line and its queues empty, a resync gap and a feed start wait ended, the complete
units in the cache with position 1 most recent, the feed OFF, the flags of the walk clear, the lamps switched as they were with
their candidates cleared, and UNIT-LOST to the requester of every command that is discarded, ahead of the COMBINATION notice; a
feed-off time goes on, no unit is counted as lost, no transaction as failed.
The model's choices in it are the order of its frames, the end of the presence list, and the missed flag at a response discarded
for an empty slot: log entries 7, 9, 22, 28. -/
def Obligations.ParkDelayParks : Prop :=
  ∀ (s : State) (since : Nat), s.comb.heldInReset = false → s.comb.parkSince = some since →
    s.comb.state ≠ .parked → s.sense.ignitionHigh = false → (∀ k, (s.slots.get k).requestSet = 0) →
    s.claims = [] → s.line.access = [] → s.accessInFlight = false → s.cache.length ≤ 4 →
    ∃ u, exec .parkDelayExpiry s = .next u.noticeCombination
      ∧ u.now = max s.now (since + 1000 * s.settings.parkDelay.toNat)
      ∧ u.comb = { s.comb with
          state := .parked, recordedAttach := s.attached, feed := false, feedStartSince := none
          unsettled := false, chainFull := false, identityClash := false
          attachSince := none, parkSince := none, entryWaiting := false }
      ∧ u.sense = { s.sense with
          parkedPlug := s.sense.plugClosed, parkedLines := u.sense.parkedLines
          nextSample := none, nextSelfWake := some (u.now + 250) }
      ∧ (∀ l, u.sense.parkedLines.get l = (s.lamps.get l).verdict.presence)
      ∧ u.units = []
      ∧ u.outbox = s.outbox.respondAll s (s.workLost 0 s.line.tx)
      ∧ u.cache = (((s.units.filter UnitRecord.complete).map UnitRecord.toCache) ++ s.cache).take 4
      ∧ u.line = { s.line with tx := none, gapSince := none, urgent := [], access := [] }
      ∧ u.walker = WalkerAtRest ∧ u.counters = { s.counters with noticesDropped := u.counters.noticesDropped }
      ∧ (∀ l, u.lamps.get l = { s.lamps.get l with
          agree := none, verdict := { (s.lamps.get l).verdict with candidate := none, repeats := 0 } })
      ∧ Keeps [.flash, .claims, .slots, .settings, .setup, .portIn, .pending] s u

/-- R16 and R17: the three wake causes start the start wait and record the cause; a self-wake that finds the recorded attach
value only replaces the parked samples.
The model's choices in it are remote frames: log entry 14. -/
def Obligations.WakesStartTheStartWait : Prop :=
  ∀ s : State, s.comb.heldInReset = false → s.comb.state = .parked → s.comb.startWaitSince = none →
    (∃ t, exec .ignitionWake s = .next t ∧ t.comb.startWaitSince = some s.now ∧ t.comb.wakeCause = .ignition
      ∧ t.sense.ignitionHigh = true ∧ t.comb.state = .parked
      ∧ Keeps [.now, .line, .walker, .units, .cache, .lamps, .flash, .claims, .slots, .missed, .settings, .setup, .portIn,
          .portOut, .counters, .pending] s t)
    ∧ (∀ f : BusFrame, s.port.busOff = false → f.extended = true → f.remote = false →
      identBlock f.ident = s.settings.identifierBlock.extractLsb' 0 13 →
      ∃ t, exec (.busFrameWake f) s = .next t ∧ t.comb.startWaitSince = some s.now ∧ t.comb.wakeCause = .busFrame
        ∧ t.comb.state = .parked
        ∧ Keeps [.now, .sense, .line, .walker, .units, .cache, .lamps, .flash, .claims, .slots, .missed, .settings, .setup,
            .portIn, .portOut, .counters, .pending] s t)
    ∧ (∀ (plug : Bool) (loaded : Byte) (due : Nat), s.sense.nextSelfWake = some due →
      ∃ t, exec (.selfWake plug loaded) s = .next t ∧ t.now = max s.now due
        ∧ t.sense.parkedPlug = plug ∧ t.sense.nextSelfWake = some (due + 250)
        ∧ (∀ l, t.sense.parkedLines.get l =
            if s.settings.senseEnables.getLsbD (lineNumber l) then
              (if loaded.getLsbD (lineNumber l) then .loaded else .open)
            else s.sense.parkedLines.get l)
        ∧ t.comb.state = .parked
        ∧ ((plug || allLines.any fun l => t.sense.parkedLines.get l == .loaded) = s.comb.recordedAttach →
            t.comb.startWaitSince = none ∧ t.comb.wakeCause = s.comb.wakeCause)
        ∧ ((plug || allLines.any fun l => t.sense.parkedLines.get l == .loaded) ≠ s.comb.recordedAttach →
            t.comb.startWaitSince = some t.now ∧ t.comb.wakeCause = .attachChange)
        ∧ Keeps [.line, .walker, .units, .cache, .lamps, .flash, .claims, .slots, .missed, .settings, .setup, .portIn,
            .portOut, .counters, .pending] s t)

/-- R17: the end of the start wait takes the plug and the presences from the parked samples and leads to SETTLING at once, or to
DETACHED where the attach condition fails or the feed-off time still runs, with one COMBINATION notice; the attach debounce and the
park delay restart from zero, each where its condition holds. -/
def Obligations.StartWaitEnds : Prop :=
  ∀ (s : State) (since : Nat), s.comb.heldInReset = false → s.comb.state = .parked →
    s.comb.startWaitSince = some since →
    ∃ u, exec .startWaitExpiry s = .next u.noticeCombination
      ∧ u.now = max s.now (since + 20) ∧ u.comb.startWaitSince = none
      ∧ u.sense.plugClosed = s.sense.parkedPlug ∧ u.sense.nextSample = some u.now ∧ u.sense.nextSelfWake = none
      ∧ (∀ l, (u.lamps.get l).verdict.presence =
          if s.settings.senseEnables.getLsbD (lineNumber l) then s.sense.parkedLines.get l
          else (s.lamps.get l).verdict.presence)
      ∧ (∀ l, (u.lamps.get l).on = (s.lamps.get l).on ∧ (u.lamps.get l).agree = none)
      ∧ (u.attached = true → s.comb.feedOffSince = none → u.comb.state = .settling ∧ u.comb.feed = true
          ∧ u.comb.feedStartSince = some u.now)
      ∧ (u.attached = true → s.comb.feedOffSince ≠ none → u.comb.state = .detached ∧ u.comb.entryWaiting = true)
      ∧ (u.attached = false → u.comb.state = .detached)
      ∧ u.comb.attachSince = (if u.attached = true ∧ s.comb.feedOffSince ≠ none then some u.now else none)
      ∧ (TimersFollow s → u.comb.parkSince = if u.mayPark then some u.now else none)
      ∧ u.comb.wakeCause = s.comb.wakeCause
      ∧ Keeps [.line, .walker, .units, .cache, .flash, .claims, .slots, .missed, .settings, .setup, .portIn, .portOut,
          .counters, .pending] s u

/-- R2: COMBINATION-READ is answered DONE with the state, the unit count, the flags and the walk pointer as they stand at the
taking, whichever slot sends it; while PARKED no request is taken. -/
def Obligations.CombinationReadAnswers : Prop :=
  (∀ (s : State) (e : IntakeEntry) (rest : List IntakeEntry), Takes s 0x21 e rest 1 →
    exec .combinationRead s = .next (answered s e rest [responseFrame s e .done false
      (byteOf (combStateCode s.comb.state)) (byteOf s.units.length)
      (byteOf (s.comb.unsettled.toNat + 2 * s.comb.chainFull.toNat + 4 * s.comb.identityClash.toNat
        + 8 * s.comb.passiveLoad.toNat))
      (byteOf s.walker.pointer)]))
  ∧ (∀ s : State, s.comb.state = .parked → exec .combinationRead s = .next s)

/-- R18 and R40: COMBINATION-RESET with the RESETS right empties the combination without caching it, keeps settings, request
sets, switches, presences and the recorded causes, and queues its DONE, the CLAIM-END FORCED of every claim, the UNIT-LOST of
every piece of work that is discarded, and one COMBINATION notice; the attach debounce restarts from zero; without the right it is
refused.
The model's choices in it are the order of its frames, the end of the presence list, and the missed flag at a response discarded
for an empty slot: log entries 7, 9, 22, 28. -/
def Obligations.CombinationResetDiscards : Prop :=
  ∀ (s : State) (e : IntakeEntry) (rest : List IntakeEntry), Takes s 0x7E e rest 1 →
    (s.hasRight e.slot .resets = true → ∃ u, exec .combinationReset s = .next u.noticeCombination
      ∧ u.comb.state = .detached ∧ u.comb.feed = false ∧ u.comb.feedOffSince = some s.now ∧ u.comb.feedStartSince = none
      ∧ u.comb.unsettled = false ∧ u.comb.chainFull = false ∧ u.comb.identityClash = false ∧ u.comb.passiveLoad = false
      ∧ u.comb.wakeCause = s.comb.wakeCause ∧ u.comb.resetCause = s.comb.resetCause
      ∧ u.units = [] ∧ u.cache = [] ∧ u.claims = []
      ∧ u.outbox = ((doneWith s e rest 0 0 0 0).outbox.endClaims s 4 s.claims).respondAll s (s.workLost 0 s.line.tx)
      ∧ u.line = { s.line with tx := none, gapSince := none, urgent := [], access := [] }
      ∧ u.walker = WalkerAtRest
      ∧ (∀ l, u.lamps.get l = { s.lamps.get l with verdict := pendingVerdict (s.lamps.get l).verdict.presence })
      ∧ u.comb.attachSince = (if s.attached then some s.now else none) ∧ u.comb.entryWaiting = false
      ∧ u.counters = { s.counters with
          requestsTaken := bumped s.counters.requestsTaken, noticesDropped := u.counters.noticesDropped }
      ∧ Keeps [.portIn] (doneWith s e rest 0 0 0 0) u ∧ Keeps [.now, .sense, .flash, .slots, .settings, .setup, .pending] s u)
    ∧ (s.hasRight e.slot .resets = false → exec .combinationReset s = .next (refusedWith s e rest .refusedRights))


/-! ### The trailer line (chapter 2) -/

/-- R22: of two frames of one length that differ in one byte, the check differs; a frame with its check appended gives 00h. -/
def Obligations.CheckTellsOneByteApart : Prop :=
  (∀ (before after : List Byte) (a b : Byte),
    crc8 (before ++ a :: after) = crc8 (before ++ b :: after) ↔ a = b)
  ∧ ∀ bytes : List Byte, crc8 (bytes ++ [crc8 bytes]) = 0

/-- R21, R22, R23, R25 and R29: when the call has been sent, header, length, payload and check are out, CALLS-SENT is counted,
and the answer window opens; a byte of an awaited answer that does not complete it is kept and the byte gap is timed from it; a
byte while no answer is awaited is discarded and restarts a running resync gap.
The model's choices in it are the bytes kept and the record of TDATA: log entries 4, 21. -/
def Obligations.CallSentAndBytesReceived : Prop :=
  (∀ (s : State) (t : Transaction), s.comb.heldInReset = false → s.line.tx = some t → t.phase = .calling →
    exec .callSent s = .next { s with
      line := { s.line with
        tx := some { t with phase := .awaiting s.now [] }
        tdataOut := (BitVec.ofNat 8 (8 * callKindCode t.kind + t.target) :: byteOf t.payload.length :: t.payload)
          ++ [crc8 (BitVec.ofNat 8 (8 * callKindCode t.kind + t.target) :: byteOf t.payload.length :: t.payload)] }
      counters := { s.counters with callsSent := bumped s.counters.callsSent } })
  ∧ (∀ (s : State) (t : Transaction) (since : Nat) (received : List Byte) (b : Byte), Receives s t since received →
    TimersFollow s → (received.length = 1 → b.toNat ≤ 8) →
    (∀ status len more, received ++ [b] = status :: len :: more → more.length < len.toNat + 1) →
    exec (.answerByteReceived b) s = .next { s with
      line := { s.line with tx := some { t with phase := .awaiting s.now (received ++ [b]) } } })
  ∧ (∀ (s : State) (b : Byte), s.comb.heldInReset = false → TimersFollow s →
    (s.line.tx = none ∨ ∃ t, s.line.tx = some t ∧ t.phase = .resync) →
    exec (.discardedByte b) s = .next { s with
      line := { s.line with gapSince := s.line.gapSince.map fun _ => s.now } })
  ∧ (∀ (s : State) (b : Byte) (t : Transaction), s.comb.heldInReset = false → TimersFollow s → s.line.tx = some t →
    t.phase = .calling → exec (.discardedByte b) s = .next s)

/-- R23, R24, R25 and R30: with retries left, no start bit within 6 ms, a byte gap above 2 ms, a length byte above 8 and a wrong
check each judge the attempt failed, count it, and leave the transaction in RESYNC with the resync gap running. -/
def Obligations.FailedAttemptGoesToResync : Prop :=
  ∀ (s : State) (t : Transaction) (c : Instr) (now : Nat) (counters : Counters), s.comb.heldInReset = false →
    s.line.tx = some t → AttemptFails s t c now counters → TimersFollow s → t.attempts < 1 + s.settings.retryLimit.toNat →
    exec c s = .next (retried s t now counters)

/-- R23, R30, R31, R40, R45, R56 to R59: the last attempt of a call to a placed unit, failed in whatever way, loses the units from
its position on. Their work is answered UNIT-LOST, CLAIM-END UNIT-LOST and a UNIT notice LOST are offered for each claim and each
unit, the highest position first, and the complete ones stand in the cache with the nearest most recent. The pointer is back at
the position; a step to a lost position is withdrawn, and the PROBE follows: in an ACTIVE walk as its next step, behind a
LAMP-REPORT that stays offered; else with the mark set, behind the LAMP-REPORTs that wait.
The model's choices in it are the order of the slots, the order of the frames, the place of that PROBE, the end of the presence
list, and the missed flag at a response discarded for an empty slot: log entries 6, 7, 9, 13, 22, 27, 28. -/
def Obligations.LastFailureLosesUnits : Prop :=
  ∀ (s : State) (t : Transaction) (c : Instr) (now : Nat) (counters : Counters), s.comb.heldInReset = false →
    s.line.tx = some t → AttemptFails s t c now counters → 1 ≤ t.target → s.settings.retryLimit.toNat < t.attempts →
    (s.comb.state = .building ∨ s.comb.state = .serving) → s.cache.length ≤ 4 →
    (s.walker.owed ≠ none → ∃ p, s.walker.offered = some (.lampReport p)) →
    ∃ u, exec c s
        = .next (if s.comb.chainFull = false ∧ u.comb.unsettled = s.comb.unsettled then u else u.noticeCombination)
      ∧ u.now = now
      ∧ u.units = s.units.filter (fun v => decide (v.position < t.target))
      ∧ u.cache = (((s.units.filter fun v => decide (t.target ≤ v.position) && v.complete).map UnitRecord.toCache)
          ++ s.cache).take 4
      ∧ u.claims = s.claims.filter (fun c => decide (c.position < t.target))
      ∧ u.outbox = (s.units.filter fun v => decide (t.target ≤ v.position)).reverse.foldl
          (fun o v => o.unitNotice s v.position 5 v.identity)
          ((s.outbox.respondAll s (s.workLost t.target (some t))).endClaims s 3
            (s.claims.filter fun c => decide (t.target ≤ c.position)))
      ∧ u.line = { s.line with
          tx := none, gapSince := some u.now
          urgent := s.line.urgent.filter fun e => decide (e.position < t.target)
          access := s.line.access.filter fun e => decide (e.position < t.target) }
      ∧ u.comb = { s.comb with
          chainFull := false
          unsettled := (s.units.filter fun v => decide (v.position < t.target)).any UnitRecord.unsettles
          attachSince := u.comb.attachSince, parkSince := u.comb.parkSince, entryWaiting := u.comb.entryWaiting }
      ∧ u.walker.pointer = t.target ∧ u.walker.active = s.walker.active ∧ u.walker.extSince = s.walker.extSince
      ∧ u.walker.rearSeen = false ∧ u.walker.presenceList = 0
      ∧ (∀ q, inPositionSet u.walker.lampReports q = (inPositionSet s.walker.lampReports q && decide (q < t.target))
          ∧ inPositionSet u.walker.lampFaultSeen q = (inPositionSet s.walker.lampFaultSeen q && decide (q < t.target)))
      ∧ (∀ step, s.walker.offered = some step → step.target < t.target → u.walker.offered = some step
          ∧ u.walker.owed = (if s.walker.active = false ∧ s.comb.state = .serving then s.walker.owed
              else if step.isReport then some .probe else none))
      ∧ ((∀ step, s.walker.offered = some step → t.target ≤ step.target) → u.walker.owed = none)
      ∧ (s.walker.active = true ∨ s.comb.state = .building → u.walker.extDue = s.walker.extDue
          ∧ ((∀ step, s.walker.offered = some step → t.target ≤ step.target) → u.walker.offered = some .probe))
      ∧ (s.walker.active = false → s.comb.state = .serving → u.walker.extDue = true
          ∧ ((∀ step, s.walker.offered = some step → t.target ≤ step.target) →
            (NoReport u.walker → u.walker.offered = some .probe)
            ∧ ∀ p, LowestReport u.walker p → u.walker.offered = some (.lampReport p)))
      ∧ u.counters = { counters with
          transactionsFailed := bumped s.counters.transactionsFailed
          unitsLost := (bumped^[(s.units.filter fun v => decide (t.target ≤ v.position)).length]) s.counters.unitsLost
          noticesDropped := u.counters.noticesDropped }
      ∧ Keeps [.sense, .lamps, .flash, .slots, .settings, .setup, .portIn, .pending] s u

/-- R11, R23, R24, R30, R45 to R49, R54 and R56: a PROBE whose last attempt has failed, in whatever way, clears IDENTITY-CLASH and
ends the walk, in BUILDING into SERVING, and the extension timer runs; its silence is counted nowhere. One answered otherwise than
ACCEPT with seven bytes and a generation A or B is treated so. An acceptable answer with an identity that the Unit Table holds
sets IDENTITY-CLASH and ends the walk; with a new one and six units placed it sets CHAIN-FULL and ends the walk; with a new one
and room it offers a PLACE at the pointer.
The model's choices in it are a held identity at pointer 7 and a LAMP-REPORT offered beside the PROBE: log entries 12, 27. -/
def Obligations.ProbeOutcomesDecideWalk : Prop :=
  (∀ (s : State) (t : Transaction) (c : Instr) (now : Nat) (counters : Counters), s.comb.heldInReset = false →
      s.line.tx = some t → AttemptFails s t c now counters → t.originator = .bringUp .probe → t.target = 0 → t.kind = .probe →
      s.settings.retryLimit.toNat < t.attempts →
      (s.comb.state = .serving ∨ (s.comb.state = .building ∧ s.units.any UnitRecord.unsettles = false)) →
      ∃ u, exec c s = .next (if s.comb.state = .building ∨ s.comb.identityClash = true then u.noticeCombination else u)
        ∧ u.now = now
        ∧ u.comb = { s.comb with
            state := .serving, identityClash := false
            attachSince := u.comb.attachSince, parkSince := u.comb.parkSince, entryWaiting := u.comb.entryWaiting }
        ∧ u.walker = { s.walker with active := false, extSince := some u.now, offered := u.walker.offered }
        ∧ IdleOffers s.walker u.walker
        ∧ u.line = { s.line with tx := none, gapSince := some u.now }
        ∧ u.counters = { counters with combinationsBuilt :=
            if s.comb.state = .building then bumped s.counters.combinationsBuilt else s.counters.combinationsBuilt }
        ∧ Keeps [.sense, .units, .cache, .lamps, .flash, .claims, .slots, .missed, .settings, .setup, .portIn, .portOut,
            .pending] s u)
  ∧ (∀ (s : State) (t : Transaction) (since : Nat) (status : Byte) (payload : List Byte), Receives s t since [] →
      t.originator = .bringUp .probe → t.target = 0 → t.kind = .probe → s.unitAt 0 = none → payload.length ≤ 8 →
      (s.comb.state = .serving ∨ (s.comb.state = .building ∧ s.units.any UnitRecord.unsettles = false)) →
      ∃ u, u.counters.answersGood = bumped s.counters.answersGood
        ∧ Keeps [.now, .sense, .units, .cache, .lamps, .flash, .claims, .slots, .missed, .settings, .setup, .portIn, .portOut,
            .pending] s u
        ∧ (¬ (answerResult status = .accept ∧ payload.length = 7 ∧ (byteAt payload 4 = 1 ∨ byteAt payload 4 = 2)) →
          exec (.answerFrameComplete (answerBytes status payload)) s = .next (u.walkEnded s)
          ∧ WalkEnds s u false s.comb.chainFull ∧ u.line = { s.line with tx := none })
        ∧ (∀ (b3 b2 b1 b0 gen sh sl : Byte) (g : Generation) (identity : Word32), answerResult status = .accept →
          payload = [b3, b2, b1, b0, gen, sh, sl] → gen = byteOf (generationCode g) →
          identity = ((b3 ++ b2) ++ b1) ++ b0 →
          (((∃ v ∈ s.units, v.identity = identity) ∨ 7 ≤ s.walker.pointer) →
            exec (.answerFrameComplete (answerBytes status payload)) s = .next (u.walkEnded s)
            ∧ u.line = { s.line with tx := none }
            ∧ ((∃ v ∈ s.units, v.identity = identity) → s.walker.pointer ≤ 6 → WalkEnds s u true s.comb.chainFull)
            ∧ ((∃ v ∈ s.units, v.identity = identity) → 7 ≤ s.walker.pointer → WalkEnds s u s.comb.identityClash true)
            ∧ ((∀ v ∈ s.units, v.identity ≠ identity) → 7 ≤ s.walker.pointer → WalkEnds s u false true))
          ∧ ((∀ v ∈ s.units, v.identity ≠ identity) → s.walker.pointer ≤ 6 → s.line.gapSince = none → s.line.urgent = [] →
            ReportAtMost s.walker →
            exec (.answerFrameComplete (answerBytes status payload)) s
              = .next (if s.comb.identityClash then u.noticeCombination else u)
            ∧ u.comb = { s.comb with
                identityClash := false
                attachSince := u.comb.attachSince, parkSince := u.comb.parkSince, entryWaiting := u.comb.entryWaiting }
            ∧ u.walker = { s.walker with
                offered := u.walker.offered, owed := u.walker.owed, lampReports := u.walker.lampReports }
            ∧ WalkGoesOn s u (.place s.walker.pointer identity g (sh ++ sl))
            ∧ (s.walker.offered = none → u.line = { s.line with
                tx := some { kind := .place, target := 0, payload := [byteOf s.walker.pointer, b3, b2, b1, b0], attempts := 1
                             phase := .calling, originator := .bringUp (.place s.walker.pointer identity g (sh ++ sl)) } }))))

/-- R25, R30, R33, R56 and R59: at the end of the resync gap the retry is called; with no retry owed the first work available is
started: the Urgent Queue, the offered step, the Access Queue, the poll that goes first. Beside a walk step that is started the
LAMP-REPORT to the lowest position of the set is offered; when a LAMP-REPORT is started its position leaves the set and the step
that waited behind it is offered.
The model's choices in it are that LAMP-REPORT and that step: log entry 27. -/
def Obligations.ResyncGapEndStartsNextWork : Prop :=
  (∀ (s : State) (since : Nat) (t : Transaction), s.comb.heldInReset = false → s.line.gapSince = some since →
    s.line.tx = some t →
    exec .resyncGapEnd s = .next { s with
      now := max s.now (since + 3)
      line := { s.line with gapSince := none, tx := some { t with phase := .calling, attempts := t.attempts + 1 } } })
  ∧ (∀ (s : State) (since : Nat), s.comb.heldInReset = false → s.line.gapSince = some since → s.line.tx = none →
    (s.comb.state = .building ∨ s.comb.state = .serving) →
    ∃ u, exec .resyncGapEnd s = .next u ∧ u.now = max s.now (since + 3)
      ∧ (∀ e rest, s.line.urgent = e :: rest → u.units = s.units
          ∧ u.line = { s.line with
              gapSince := none, urgent := rest
              tx := some
                { kind := .actuate, target := e.position
                  payload := byteOf e.index :: byteOf (commandCode e.command) :: bytesSigned e.value
                  originator := .urgent e, attempts := 1, phase := .calling } }
          ∧ ∀ c, s.claimOn e.position e.index = some c →
              u.claimOn e.position e.index = some { c with entry := some .inFlight })
      ∧ (∀ step, s.line.urgent = [] → s.walker.offered = some step → u.units = s.units ∧ u.claims = s.claims
          ∧ u.line = { s.line with gapSince := none, tx := some (Originator.bringUp step).transaction }
          ∧ ((∀ p, step ≠ .lampReport p) → u.walker.lampReports = s.walker.lampReports ∧ u.walker.owed = s.walker.owed
              ∧ ReportOffered u.walker)
          ∧ ∀ p, step = .lampReport p → u.walker.offered = s.walker.owed ∧ u.walker.owed = none
              ∧ ∀ q, inPositionSet u.walker.lampReports q = (inPositionSet s.walker.lampReports q && decide (q ≠ p)))
      ∧ (∀ a rest, s.line.urgent = [] → NothingOffered s → s.line.access = a :: rest → u.units = s.units
          ∧ u.claims = s.claims ∧ u.walker = s.walker
          ∧ u.line = { s.line with
              gapSince := none, access := rest
              tx := some
                { kind := match a.kind with
                    | .get => .paramGet
                    | .set _ => .paramSet
                  target := a.position
                  payload := match a.kind with
                    | .get => [a.parameter]
                    | .set v => a.parameter :: bytesOfWord32 v
                  originator := .access a, attempts := 1, phase := .calling } })
      ∧ (∀ p i d, s.line.urgent = [] → NothingOffered s → s.line.access = [] → GoesFirst { s with now := u.now } p i d →
          u.line = { s.line with gapSince := none, tx := some (senseCall p i) } ∧ u.claims = s.claims
          ∧ (∀ q, q ≠ p → u.unitAt q = s.unitAt q)
          ∧ ∀ f v, u.entryAt p i = some f → f.value = some v → v.nextDue = none)
      ∧ (s.line.urgent = [] → NothingOffered s → s.line.access = [] →
          (∀ p i d, ¬ Available { s with now := u.now } p i d) → u = { s with now := u.now, line := { s.line with gapSince := none } })
      ∧ Keeps [.comb, .sense, .cache, .lamps, .flash, .slots, .missed, .settings, .setup, .portIn, .portOut, .counters,
          .pending] s u)

/-- R34, R54 and R132: with nothing else to do, a poll falling due starts the poll that goes first, and its next poll due becomes
absent. The extension timer's end sets the extension-due mark and stops the timer, whatever the line is at. In SERVING with the line
free and no other work ahead the extension probe is started and the walk is active, the mark cleared; a LAMP-REPORT that is offered
or waits is called ahead of it, and urgent work too. With any transaction in flight or the resync gap running nothing is started,
and the probe is offered unless a step is offered, a LAMP-REPORT waits or one is in flight.
The model's choices in it are the offers beside a LAMP-REPORT: log entry 27. -/
def Obligations.PollsAndExtensionProbesStart : Prop :=
  (∀ (s : State) (p i d : Nat) (f : FunctionEntry) (v : ValueRecord), s.comb.heldInReset = false → LineReady s →
      NothingOffered s → s.line.urgent = [] → s.line.access = [] → s.servingAt p = true → s.entryAt p i = some f →
      f.value = some v → v.nextDue = some d →
      ∃ u q j c, exec (.pollDue p i) s = .next u ∧ u.now = max s.now d
        ∧ GoesFirst { s with now := u.now } q j c
        ∧ u.line = { s.line with tx := some (senseCall q j) }
        ∧ (∀ g w, u.entryAt q j = some g → g.value = some w → w.nextDue = none)
        ∧ (∀ p', p' ≠ q → u.unitAt p' = s.unitAt p')
        ∧ Keeps [.comb, .sense, .walker, .cache, .lamps, .flash, .claims, .slots, .missed, .settings, .setup, .portIn,
            .portOut, .counters, .pending] s u)
  ∧ (∀ (s : State) (since : Nat), s.comb.heldInReset = false → s.walker.extSince = some since →
      s.comb.state = .serving → s.walker.active = false →
      ∃ u, exec .extensionTimerExpiry s = .next u ∧ u.now = max s.now (since + s.settings.extensionInterval.toNat)
        ∧ (LineReady s → NothingOffered s → s.line.urgent = [] → u = { s with
            now := u.now
            line := { s.line with tx := some probeCall }
            walker := { s.walker with active := true, extDue := false, extSince := none } })
        ∧ (∀ p, LineReady s → s.line.urgent = [] →
          (s.walker.offered = some (.lampReport p) ∨ (s.walker.offered = none ∧ LowestReport s.walker p)) →
          u = { s with
            now := u.now
            line := { s.line with tx := some (stepCall .lampReport p (.lampReport p)) }
            walker := { s.walker with
              extDue := true, extSince := none, offered := s.walker.owed, owed := none
              lampReports := u.walker.lampReports } }
          ∧ ∀ q, inPositionSet u.walker.lampReports q = (inPositionSet s.walker.lampReports q && decide (q ≠ p)))
        ∧ (∀ e rest, LineReady s → s.line.urgent = e :: rest →
          u.line = { s.line with urgent := rest, tx := some (Originator.urgent e).transaction }
          ∧ (∀ c, s.claimOn e.position e.index = some c →
              u.claimOn e.position e.index = some { c with entry := some .inFlight })
          ∧ u.walker = { s.walker with extDue := true, extSince := none, offered := u.walker.offered }
          ∧ IdleOffers { s.walker with extDue := true } u.walker
          ∧ Keeps [.comb, .sense, .units, .cache, .lamps, .flash, .slots, .missed, .settings, .setup, .portIn, .portOut,
              .counters, .pending] s u)
        ∧ (s.line.tx ≠ none ∨ s.line.gapSince ≠ none →
          u = { s with
            now := u.now
            walker := { s.walker with extDue := true, extSince := none, offered := u.walker.offered } }
          ∧ (∀ t p, s.line.tx = some t → t.originator = .bringUp (.lampReport p) → u.walker.offered = s.walker.offered)
          ∧ ((∀ t p, s.line.tx = some t → t.originator ≠ .bringUp (.lampReport p)) →
            IdleOffers { s.walker with extDue := true } u.walker)))

/-! ### The walk and the answers (chapters 2, 3, 5, 8, 9) -/

/-- R3, R23, R30, R49, R50, R53, R60 and R85 to R87: a PLACE answered ACCEPT creates the record at its position, restored from a
cache record of the same identity, signature and generation and then bridged, else listed, and its UNIT notice is offered; a cache
record of the identity leaves the cache. One answered otherwise, accepted at a position above the walk pointer, or whose last
attempt has failed, in whatever way, creates no record and ends the walk.
The model's choices in it are the order of the slots and of the frames, the order of flags and outcome, and a LAMP-REPORT offered
beside the PLACE: log entries 6, 7, 8, 27. -/
def Obligations.PlaceOutcomesDecideRecord : Prop :=
  (∀ (s : State) (t : Transaction) (since p : Nat) (identity : Word32) (g : Generation) (signature : Word16) (status : Byte),
      Receives s t since [] → t.originator = .bringUp (.place p identity g signature) → t.kind = .place → t.target = 0 →
      s.line.gapSince = none → s.line.urgent = [] → s.walker.active = true → ReportAtMost s.walker →
      (s.comb.state = .building ∨ s.comb.state = .serving) → p ≤ s.walker.pointer → 1 ≤ p → s.unitAt p = none →
      s.unitAt 0 = none → answerResult status = .accept →
      ∃ u, exec (.answerFrameComplete (answerBytes status [])) s = .next (u.listed s)
        ∧ u.cache = s.cache.filter (fun r => decide (r.identity ≠ identity))
        ∧ u.comb = { s.comb with
            unsettled := true
            attachSince := u.comb.attachSince, parkSince := u.comb.parkSince, entryWaiting := u.comb.entryWaiting }
        ∧ u.walker.pointer = s.walker.pointer ∧ u.walker.active = true
        ∧ u.counters.answersGood = bumped s.counters.answersGood
        ∧ (∀ r, s.cache.find? (fun r => r.identity == identity) = some r → r.signature = signature → r.generation = g →
            u.units = s.units ++ [{ newUnit p identity g signature with
                state := .bridging, restored := true, loads := r.loads, declared := r.declared, partialFlag := r.partialFlag
                functions := r.functions }]
            ∧ WalkGoesOn s u (.bridge p) ∧ u.outbox = s.outbox.unitNotice s p 2 identity
            ∧ u.counters.cacheRestores = bumped s.counters.cacheRestores)
        ∧ ((∀ r, s.cache.find? (fun r => r.identity == identity) = some r → ¬ (r.signature = signature ∧ r.generation = g)) →
            u.units = s.units ++ [{ newUnit p identity g signature with state := .listing }]
            ∧ WalkGoesOn s u (.listOpen p) ∧ u.outbox = s.outbox.unitNotice s p 1 identity
            ∧ u.counters.cacheRestores = s.counters.cacheRestores)
        ∧ Keeps [.now, .sense, .lamps, .flash, .claims, .slots, .settings, .setup, .portIn, .pending] s u)
  ∧ (∀ (s : State) (t : Transaction) (p : Nat) (identity : Word32) (g : Generation) (signature : Word16),
      s.comb.heldInReset = false → s.line.tx = some t → t.originator = .bringUp (.place p identity g signature) →
      t.kind = .place → t.target = 0 → s.unitAt 0 = none →
      (s.comb.state = .serving ∨ (s.comb.state = .building ∧ s.units.any UnitRecord.unsettles = false)) →
      (∀ (since : Nat) (status : Byte) (payload : List Byte), Receives s t since [] → payload.length ≤ 8 →
        (¬ (answerResult status = .accept ∧ payload = []) ∨ s.walker.pointer < p) →
        ∃ u, exec (.answerFrameComplete (answerBytes status payload)) s = .next (u.walkEnded s)
          ∧ WalkEnds s u s.comb.identityClash s.comb.chainFull ∧ u.line = { s.line with tx := none }
          ∧ u.counters.answersGood = bumped s.counters.answersGood
          ∧ Keeps [.now, .sense, .units, .cache, .lamps, .flash, .claims, .slots, .missed, .settings, .setup, .portIn,
              .portOut, .pending] s u)
      ∧ (∀ (c : Instr) (now : Nat) (counters : Counters), AttemptFails s t c now counters →
        s.settings.retryLimit.toNat < t.attempts →
        ∃ u, exec c s = .next (if s.comb.state = .building then u.noticeCombination else u)
          ∧ u.now = now
          ∧ u.comb = { s.comb with
              state := .serving
              attachSince := u.comb.attachSince, parkSince := u.comb.parkSince, entryWaiting := u.comb.entryWaiting }
          ∧ u.walker = { s.walker with active := false, extSince := some u.now, offered := u.walker.offered }
          ∧ IdleOffers s.walker u.walker
          ∧ u.line = { s.line with tx := none, gapSince := some u.now }
          ∧ u.counters = { counters with combinationsBuilt :=
              if s.comb.state = .building then bumped s.counters.combinationsBuilt else s.counters.combinationsBuilt }
          ∧ Keeps [.sense, .units, .cache, .lamps, .flash, .claims, .slots, .missed, .settings, .setup, .portIn, .portOut,
              .pending] s u))

/-- R53, R65 to R68, R70 and R71: a LIST-OPEN answered ACCEPT sets the declared count and leads to the LOAD-READ of TAIL-L; a LOAD-
READ answered ACCEPT is tested and written, and leads to the next line, and after MARKER to the lowest present index, or without
one to BRIDGING; an answer of neither kind and a record that fails a test refuse the unit with its cause. A change of the
unit's state offers its UNIT notice.
The model's choices in it are the order of the slots and of the frames, the order of flags and outcome, the end of the presence list
and a LAMP-REPORT offered beside a listing call: log entries 6, 7, 8, 22, 27. -/
def Obligations.ListOpenAndLoadReadAnswered : Prop :=
  ∀ (s : State) (t : Transaction) (since p : Nat) (v : UnitRecord) (status : Byte) (payload : List Byte),
    payload.length ≤ 8 →
    (Lists s t since (.listOpen p) v →
      (∀ (list : Word32) (b3 b2 b1 b0 : Byte), answerResult status = .accept → list = ((b3 ++ b2) ++ b1) ++ b0 →
        (v.generation = .a ∧ payload = [b0] ∧ b3 = 0 ∧ b2 = 0 ∧ b1 = 0
          ∨ v.generation = .b ∧ payload = [b3, b2, b1, b0]) →
        ∃ u, exec (.answerFrameComplete (answerBytes status payload)) s = .next u ∧ u.cache = s.cache
          ∧ Continues s u p { v with declared := (List.range 32).countP fun i => list.getLsbD i } (.loadRead p .tailL) list)
      ∧ (¬ (answerResult status = .accept ∧ payload.length = if v.generation = .a then 1 else 4) →
        ∃ u, exec (.answerFrameComplete (answerBytes status payload)) s = .next (u.listed s) ∧ u.cache = s.cache
          ∧ Refuses s u p v .listUnreadable 0))
    ∧ (∀ l, Lists s t since (.loadRead p l) v →
      (∀ (r1 r0 c1 c0 n : Byte) (x : Load), answerResult status = .accept → payload = [r1, r0, c1, c0, n] →
        x = ⟨(r1 ++ r0).toNat, (c1 ++ c0).toNat, n.toNat⟩ →
        ∃ u, u.cache = s.cache
          ∧ (v.generation = .a → x.c ≠ 0 →
            exec (.answerFrameComplete (answerBytes status payload)) s = .next (u.listed s)
            ∧ Refuses s u p v .genAConstant (lineNumber l))
          ∧ ((v.generation = .b ∨ x.c = 0) → (4000 < x.r ∨ 2000 < x.c ∨ 15 < x.n ∨ (x.n = 0 ∧ 0 < x.r + x.c)) →
            exec (.answerFrameComplete (answerBytes status payload)) s = .next (u.listed s)
            ∧ Refuses s u p v .loadLimit (lineNumber l))
          ∧ ((v.generation = .b ∨ x.c = 0) → x.r ≤ 4000 → x.c ≤ 2000 → x.n ≤ 15 → (x.n = 0 → x.r + x.c = 0) →
            exec (.answerFrameComplete (answerBytes status payload)) s = .next (u.listed s)
            ∧ (∀ k, lineNumber k = lineNumber l + 1 →
                Continues s u p { v with loads := v.loads.set l x } (.loadRead p k) s.walker.presenceList)
            ∧ (l = .marker → ∃ j, NextPresent s.walker.presenceList 0 j
                ∧ PassesOn s u p { v with loads := v.loads.set l x } j)))
      ∧ (¬ (answerResult status = .accept ∧ payload.length = 5) →
        ∃ u, exec (.answerFrameComplete (answerBytes status payload)) s = .next (u.listed s) ∧ u.cache = s.cache
          ∧ Refuses s u p v .loadUnreadable (lineNumber l)))

/-- R53, R68 to R75 and R90: a LIST-ENTRY answered ACCEPT is tested for its class and its range before the pool is asked; one that
passes is admitted at the end of the function list, after the oldest cache records have made room where no entry was free, and
with no room at all the unit is partial and its listing ends. A declined one is left out and makes the unit partial, and any
other answer refuses the unit. The pass goes on at the next present index, and without one the unit is BRIDGING. A change of the
unit's state offers its UNIT notice.
The model's choices in it are the order of the slots and of the frames, the order of flags and outcome, the end of the presence list
and a LAMP-REPORT offered beside a listing call: log entries 6, 7, 8, 22, 27. -/
def Obligations.ListEntryAnswered : Prop :=
  ∀ (s : State) (t : Transaction) (since p i : Nat) (v : UnitRecord) (status : Byte) (payload : List Byte),
    Lists s t since (.listEntry p i) v → payload.length ≤ 8 →
    (∀ (c1 c0 k n1 n0 x1 x0 q : Byte), answerResult status = .accept → payload = [c1, c0, k, n1, n0, x1, x0, q] →
      ((k.toNat < 1 ∨ 4 < k.toNat ∨ (k.toNat = 1 ∧ (q.toNat < 1 ∨ 3 < q.toNat))) →
        ∃ u, exec (.answerFrameComplete (answerBytes status payload)) s = .next (u.listed s) ∧ u.cache = s.cache
          ∧ Refuses s u p v .functionClass i)
      ∧ (1 ≤ k.toNat → k.toNat ≤ 4 → (k.toNat = 1 → 1 ≤ q.toNat ∧ q.toNat ≤ 3) →
        ((x1 ++ x0).toInt ≤ (n1 ++ n0).toInt →
          ∃ u, exec (.answerFrameComplete (answerBytes status payload)) s = .next (u.listed s) ∧ u.cache = s.cache
            ∧ Refuses s u p v .functionRange i)
        ∧ ((n1 ++ n0).toInt < (x1 ++ x0).toInt → ∃ u m f,
          exec (.answerFrameComplete (answerBytes status payload)) s = .next (u.listed s)
            ∧ MakesRoom s m ∧ u.cache = s.cache.take m
            ∧ f.index = i ∧ f.code = (c1 ++ c0 : Word16) ∧ classCode f.cls = k.toNat
            ∧ f.min = (n1 ++ n0).toInt ∧ f.max = (x1 ++ x0).toInt
            ∧ pollCode f.poll = (if k.toNat = 1 then q.toNat else 0)
            ∧ f.value = (if k.toNat = 1 then some { value := f.min, quality := .notYet, answeredAt := 0, nextDue := none }
                else none)
            ∧ (∀ j, f.subs.get j = none)
            ∧ (s.usedWith m < 128 → ∃ j, NextPresent s.walker.presenceList (i + 1) j
                ∧ PassesOn s u p { v with functions := v.functions ++ [f] } j)
            ∧ (128 ≤ s.usedWith m → Bridges s u p { v with partialFlag := true, state := .bridging }))))
    ∧ (answerResult status = .decline → payload = [] →
      ∃ u j, exec (.answerFrameComplete (answerBytes status payload)) s = .next (u.listed s) ∧ u.cache = s.cache
        ∧ NextPresent s.walker.presenceList (i + 1) j ∧ PassesOn s u p { v with partialFlag := true } j)
    ∧ (¬ (answerResult status = .accept ∧ payload.length = 8) → ¬ (answerResult status = .decline ∧ payload = []) →
      ∃ u, exec (.answerFrameComplete (answerBytes status payload)) s = .next (u.listed s) ∧ u.cache = s.cache
        ∧ Refuses s u p v .entryUnreadable i)

/-- R3, R52, R53 and R131: a BRIDGE answered at its position, with whatever result, makes a BRIDGING unit SERVING with its sensors
due at once and offers its UNIT notice; a REFUSED unit stays so, and no UNIT notice is offered. The pointer rises and a PROBE
follows.
The model's choices in it are the order of the slots and of the frames, the order of flags and outcome, and a LAMP-REPORT offered
beside the BRIDGE: log entries 6, 7, 8, 27. -/
def Obligations.BridgeAnsweredServes : Prop :=
  ∀ (s : State) (t : Transaction) (since p : Nat) (v : UnitRecord) (status : Byte) (payload : List Byte),
    Receives s t since [] → t.originator = .bringUp (.bridge p) → t.kind = .bridge → t.target = p →
    s.line.gapSince = none → s.line.urgent = [] → s.walker.active = true → ReportAtMost s.walker →
    (s.comb.state = .building ∨ s.comb.state = .serving) → s.unitAt p = some v →
    (v.state = .bridging ∨ v.state = .refused) → payload.length ≤ 8 →
    ∃ u, exec (.answerFrameComplete (answerBytes status payload)) s = .next (u.listed s)
      ∧ (v.state = .bridging → u.outbox = s.outbox.unitNotice s p 3 v.identity
        ∧ u.units = s.units.map (fun w => if w.position = p then
          { w with
            state := .serving
            functions := w.functions.map fun f => { f with value := f.value.map fun x => { x with nextDue := some s.now } } }
          else w)
        ∧ u.comb.unsettled = u.units.any UnitRecord.unsettles)
      ∧ (v.state = .refused → u.outbox = s.outbox ∧ u.units = s.units ∧ u.comb.unsettled = s.comb.unsettled)
      ∧ u.walker = { s.walker with
          pointer := s.walker.pointer + 1, rearSeen := false
          offered := u.walker.offered, owed := u.walker.owed, lampReports := u.walker.lampReports }
      ∧ WalkGoesOn s u .probe
      ∧ u.comb = { s.comb with
          unsettled := u.comb.unsettled
          attachSince := u.comb.attachSince, parkSince := u.comb.parkSince, entryWaiting := u.comb.entryWaiting }
      ∧ u.counters.answersGood = bumped s.counters.answersGood
      ∧ Keeps [.now, .sense, .cache, .lamps, .flash, .claims, .slots, .settings, .setup, .portIn, .pending] s u

/-- R31, R45, R55, R56, R76 and R77: a good answer to a unit access, an ACTUATE, a poll or a LAMP-REPORT hands its flags on,
from a unit of generation B alone; an answered LAMP-REPORT replaces the unit's lamp fault set, or empties it where the node
cannot say. With the walk IDLE and nothing offered, the LAMP-REPORT to the lowest position of the set is started ahead of an
extension probe, and its position leaves the set; in an ACTIVE walk, in BUILDING and SERVING alike, it is offered in the event that
starts the walk's step, and in the event of its own start the walk's next step is offered.
The model's choices in it are the order of flags and outcome, and the LAMP-REPORT beside a walk step: log entries 8, 27. -/
def Obligations.LampReportsFollowFlags : Prop :=
  (∀ (s : State) (t : Transaction) (since : Nat) (v : UnitRecord) (status : Byte) (payload : List Byte),
    Receives s t since [] → 1 ≤ t.target → t.target ≤ 6 → s.unitAt t.target = some v → payload.length ≤ 8 →
    (∀ step, t.originator = .bringUp step → step = .lampReport t.target ∧ t.kind = .lampReport) →
    ∃ u, exec (.answerFrameComplete (answerBytes status payload)) s = .next u.resumed ∧ FlagsHanded s u v status
      ∧ (t.originator = .bringUp (.lampReport t.target) →
        u.units = s.units.map (fun w => if w.position = t.target then
          { w with lampFaults := if answerResult status = .accept ∧ payload.length = 1 then byteAt payload 0 else 0 } else w)
        ∧ u.line = { s.line with tx := none }
        ∧ u.counters = { s.counters with answersGood := bumped s.counters.answersGood }
        ∧ Keeps [.now, .comb, .sense, .cache, .lamps, .flash, .claims, .slots, .missed, .settings, .setup, .portIn, .portOut,
            .pending] s u))
  ∧ (∀ (s : State) (since p : Nat), s.comb.heldInReset = false → s.line.gapSince = some since → s.line.tx = none →
    (s.comb.state = .building ∨ s.comb.state = .serving) → s.walker.active = false → s.walker.offered = none →
    s.line.urgent = [] → LowestReport s.walker p →
    ∃ u, exec .resyncGapEnd s = .next u ∧ u.now = max s.now (since + 3)
      ∧ u.line = { s.line with gapSince := none, tx := some (stepCall .lampReport p (.lampReport p)) }
      ∧ u.walker.extDue = s.walker.extDue ∧ u.walker.active = false
      ∧ u.walker.offered = s.walker.owed ∧ u.walker.owed = none
      ∧ (∀ q, inPositionSet u.walker.lampReports q = (inPositionSet s.walker.lampReports q && decide (q ≠ p)))
      ∧ Keeps [.comb, .sense, .units, .cache, .lamps, .flash, .claims, .slots, .missed, .settings, .setup, .portIn, .portOut,
          .counters, .pending] s u)
  ∧ (∀ (s : State) (since : Nat) (step : Step), s.comb.heldInReset = false → s.line.gapSince = some since → s.line.tx = none →
    (s.comb.state = .building ∨ s.comb.state = .serving) → s.walker.active = true → s.walker.offered = some step →
    s.line.urgent = [] →
    ∃ u, exec .resyncGapEnd s = .next u ∧ u.line.tx = some (Originator.bringUp step).transaction ∧ u.walker.active = true
      ∧ (∀ p, (∀ q, step ≠ .lampReport q) → LowestReport s.walker p → u.walker.offered = some (.lampReport p))
      ∧ ∀ p next, step = .lampReport p → s.walker.owed = some next → u.walker.offered = some next)

/-- R28, R31 and R39: the answer to a unit access is its response: DONE with the value of a PARAM-GET, DONE of a PARAM-SET,
UNIT-DECLINED for every other answer; then the next work starts. -/
def Obligations.AccessAnswered : Prop :=
  ∀ (s : State) (t : Transaction) (since : Nat) (a : AccessEntry) (status : Byte) (payload : List Byte),
    Receives s t since [] → t.originator = .access a → t.target = a.position →
    t.kind = (match a.kind with
      | .get => .paramGet
      | .set _ => .paramSet) → payload.length ≤ 8 →
    s.tag a.slot ≠ 0xFF → s.port.deferred = [] → s.port.report.length < 24 →
    ∃ u f, exec (.answerFrameComplete (answerBytes status payload)) s = .next u.resumed
      ∧ u.line = { s.line with tx := none }
      ∧ u.port = { s.port with report := s.port.report ++ [f] }
      ∧ (∀ d0 d1 d2 d3, a.kind = .get → answerResult status = .accept → payload = [d0, d1, d2, d3] →
          f = frameTo s a.slot 0x50 a.sequence .done false d0 d1 d2 d3)
      ∧ (∀ w, a.kind = .set w → answerResult status = .accept → payload = [] →
          f = frameTo s a.slot 0x51 a.sequence .done false 0 0 0 0)
      ∧ ((answerResult status ≠ .accept ∨ payload.length ≠ (if a.kind = .get then 4 else 0)) →
          f = frameTo s a.slot (if a.kind = .get then 0x50 else 0x51) a.sequence .unitDeclined false 0 0 0 0)
      ∧ u.counters = { s.counters with answersGood := bumped s.counters.answersGood }
      ∧ u.missed a.slot = false ∧ (∀ k, k ≠ a.slot → u.missed k = s.missed k)
      ∧ (∀ v, s.unitAt a.position = some v → v.generation = .a → u.walker = s.walker)
      ∧ Keeps [.now, .comb, .sense, .units, .cache, .lamps, .flash, .claims, .slots, .settings, .setup, .portIn, .pending]
          s u

/-- R28, R31, R37, R146, R149 and R153: the answer to an ACTUATE call answers its requester, if present: DONE with the clamped mark,
UNIT-INHIBITED, or UNIT-DECLINED; the claim's entry becomes absent, and an ENDING claim whose STOP has completed is removed, with
CLAIM-END RELEASED-BY-STOP offered to its holder where the holder's own STOP or RELEASE ended it. A claim whose newer entry is
WAITING, HELD or ENDING, and a claim made since the call, stay as they are.
The model's choices in it are the order of its frames and the missed flag at a response discarded for an empty slot: log entries 8,
28. -/
def Obligations.UrgentCommandAnswered : Prop :=
  ∀ (s : State) (t : Transaction) (since : Nat) (e : UrgentEntry) (status : Byte) (payload : List Byte),
    Receives s t since [] → t.originator = .urgent e → t.target = e.position → t.kind = .actuate → payload.length ≤ 8 →
    ∃ u told, exec (.answerFrameComplete (answerBytes status payload)) s = .next u.resumed
      ∧ u.line = { s.line with tx := none }
      ∧ (e.requester = none → told = s.outbox)
      ∧ (∀ q, e.requester = some q → told = s.outbox.respond s
          { slot := q.slot, code := 0x40, sequence := q.sequence
            status := if answerResult status = .accept ∧ payload = [] then .done
              else if answerResult status = .inhibit ∧ payload = [] then .unitInhibited
              else .unitDeclined
            clamped := e.clamped && decide (answerResult status = .accept ∧ payload = []), data := [] })
      ∧ (∀ c, s.claimOn e.position e.index = some c → c.entry = some .inFlight →
        (c.state = .held → u.outbox = told ∧ u.claimOn e.position e.index = some { c with entry := none })
        ∧ (∀ b, c.state = .ending b → c.stopMark = false →
            u.outbox = told ∧ u.claimOn e.position e.index = some { c with entry := none })
        ∧ (c.state = .ending false → c.stopMark = true → u.outbox = told ∧ u.claimOn e.position e.index = none)
        ∧ (c.state = .ending true → c.stopMark = true →
            u.outbox = told.offer s .claimEnd c.holder [byteOf e.position, byteOf e.index, 2]
            ∧ u.claimOn e.position e.index = none))
      ∧ ((∀ c, s.claimOn e.position e.index = some c → c.entry ≠ some .inFlight) →
          u.outbox = told ∧ u.claims = s.claims)
      ∧ (∀ p i, p ≠ e.position ∨ i ≠ e.index → u.claimOn p i = s.claimOn p i)
      ∧ u.counters = { s.counters with
          answersGood := bumped s.counters.answersGood, noticesDropped := u.counters.noticesDropped }
      ∧ Keeps [.now, .comb, .sense, .units, .cache, .lamps, .flash, .slots, .settings, .setup, .portIn, .pending] s u

/-- R133, R131, R132 and R139: a poll of a generation-A unit answered ACCEPT writes the scaled value GOOD, or SENSOR-FAULT with
the value as it stands for a raw byte of 255 or the sensor-fault flag; age 0, the next poll one interval on, and SENSE is
offered to the slots whose subscription passes its test. Answered otherwise, the value record stands and the next poll is one
interval on. -/
def Obligations.GenAPollWritesValue : Prop :=
  ∀ (s : State) (t : Transaction) (since p i : Nat) (unit : UnitRecord) (f : FunctionEntry) (v : ValueRecord)
    (c : PollClass),
    Receives s t since [] → t.originator = .poll p i → t.kind = .sense → t.target = p →
    s.unitAt p = some unit → unit.generation = .a → s.entryAt p i = some f → f.value = some v → f.poll = some c →
    (∀ status raw : Byte, answerResult status = .accept →
      ∃ u g, exec (.answerFrameComplete (answerBytes status [raw])) s = .next u.resumed
        ∧ u.line = { s.line with tx := none }
        ∧ u.entryAt p i = some g
        ∧ g.value = some
            { value := if raw = 255 ∨ status.getLsbD 6 = true then v.value
                else f.min + (raw.toNat : Int) * (f.max - f.min) / 254
              quality := if raw = 255 ∨ status.getLsbD 6 = true then .sensorFault else .good
              answeredAt := s.now, nextDue := some (s.now + s.pollInterval c) }
        ∧ { g with value := f.value, subs := f.subs } = f
        ∧ (∀ w, g.value = some w → ChangeNotices s u p i f g v.quality w.quality w.value)
        ∧ (∀ q, q ≠ p → u.unitAt q = s.unitAt q)
        ∧ u.counters.answersGood = bumped s.counters.answersGood
        ∧ Keeps [.now, .comb, .sense, .walker, .cache, .lamps, .flash, .claims, .slots, .settings, .setup, .portIn, .pending]
            s u)
    ∧ (∀ (status : Byte) (payload : List Byte), payload.length ≤ 8 →
      ¬ (answerResult status = .accept ∧ payload.length = 1) →
      ∃ u, exec (.answerFrameComplete (answerBytes status payload)) s = .next u.resumed
        ∧ u.line = { s.line with tx := none }
        ∧ u.entryAt p i = some { f with value := some { v with nextDue := some (s.now + s.pollInterval c) } }
        ∧ (∀ q, q ≠ p → u.unitAt q = s.unitAt q)
        ∧ u.counters = { s.counters with answersGood := bumped s.counters.answersGood }
        ∧ Keeps [.now, .comb, .sense, .walker, .cache, .lamps, .flash, .claims, .slots, .missed, .settings, .setup, .portIn,
            .portOut, .pending] s u)

/-- R134, R131, R132 and R139: a poll of a generation-B unit answered ACCEPT writes the signed value GOOD, or brought to the
nearer bound as CLAMPED, or SENSOR-FAULT with the value as it stands for the sensor-fault flag; SENSE is offered to the slots
whose subscription passes its test. Answered otherwise, the value record stands and the next poll is one interval on. -/
def Obligations.GenBPollWritesValue : Prop :=
  ∀ (s : State) (t : Transaction) (since p i : Nat) (unit : UnitRecord) (f : FunctionEntry) (v : ValueRecord)
    (c : PollClass),
    Receives s t since [] → t.originator = .poll p i → t.kind = .sense → t.target = p →
    s.unitAt p = some unit → unit.generation = .b → s.entryAt p i = some f → f.value = some v → f.poll = some c →
    (∀ status high low : Byte, answerResult status = .accept →
      ∃ u g, exec (.answerFrameComplete (answerBytes status [high, low])) s = .next u.resumed
        ∧ u.line = { s.line with tx := none }
        ∧ u.entryAt p i = some g
        ∧ g.value = some
            { value := if status.getLsbD 6 = true then v.value
                else if (high ++ low).toInt < f.min then f.min
                else if f.max < (high ++ low).toInt then f.max
                else (high ++ low).toInt
              quality := if status.getLsbD 6 = true then .sensorFault
                else if (high ++ low).toInt < f.min ∨ f.max < (high ++ low).toInt then .clamped
                else .good
              answeredAt := s.now, nextDue := some (s.now + s.pollInterval c) }
        ∧ { g with value := f.value, subs := f.subs } = f
        ∧ (∀ w, g.value = some w → ChangeNotices s u p i f g v.quality w.quality w.value)
        ∧ (∀ q, q ≠ p → u.unitAt q = s.unitAt q)
        ∧ u.counters.answersGood = bumped s.counters.answersGood
        ∧ Keeps [.now, .comb, .sense, .cache, .lamps, .flash, .claims, .slots, .settings, .setup, .portIn, .pending] s u)
    ∧ (∀ (status : Byte) (payload : List Byte), payload.length ≤ 8 →
      ¬ (answerResult status = .accept ∧ payload.length = 2) →
      ∃ u, exec (.answerFrameComplete (answerBytes status payload)) s = .next u.resumed
        ∧ u.line = { s.line with tx := none }
        ∧ u.entryAt p i = some { f with value := some { v with nextDue := some (s.now + s.pollInterval c) } }
        ∧ (∀ q, q ≠ p → u.unitAt q = s.unitAt q)
        ∧ u.counters = { s.counters with answersGood := bumped s.counters.answersGood }
        ∧ Keeps [.now, .comb, .sense, .cache, .lamps, .flash, .claims, .slots, .missed, .settings, .setup, .portIn,
            .portOut, .pending] s u)

/-! ### Reads (R42, R43, R80, R81, R126, R140, R164, R173) and requests that are none (R161) -/

/-- R41, R42 and R43: a dump is answered in six frames with the counters as they stood at the taking, REQUESTS-TAKEN counted
after the copy; a dump-reset with the RESETS right leaves every counter at 0 but REQUESTS-TAKEN at 1, and without it is refused.
The model's choices in it are REQUESTS-TAKEN at a refusal: log entry 25. -/
def Obligations.CountersDumped : Prop :=
  ∀ (s : State) (e : IntakeEntry) (rest : List IntakeEntry),
    (Takes s 0x70 e rest 6 → exec .countersDump s = .next (answered s e rest (dumpFrames s e)))
    ∧ (Takes s 0x71 e rest 6 → s.hasRight e.slot .resets = true →
        exec .countersDumpReset s = .next { answered s e rest (dumpFrames s e) with
          counters := { Counters.zero with requestsTaken := 1 } })
    ∧ (Takes s 0x71 e rest 1 → s.hasRight e.slot .resets = false →
        exec .countersDumpReset s = .next (refusedWith s e rest .refusedRights))

/-- R79 to R81, R126 and R140: UNIT-READ, FUNCTION-READ, VERDICT-READ and SENSE-READ are refused for operands outside their
lists, for a position without a record, and for an index that the record does not hold or, for SENSE-READ, that is no SENSOR;
else each is answered with its item as it stands, and nothing else changes. -/
def Obligations.UnitVerdictAndSenseReadsAnswer : Prop :=
  ((∀ (s : State) (e : IntakeEntry) (rest : List IntakeEntry), Takes s 0x22 e rest 1 →
        ((e.operand 2 < 1 ∨ 6 < e.operand 2 ∨ 15 < e.operand 3 ∨ (4 < e.operand 3 ∧ e.operand 3 < 8)) →
          exec .unitRead s = .next (refusedWith s e rest .refusedRange))
        ∧ (1 ≤ e.operand 2 → e.operand 2 ≤ 6 → (e.operand 3 ≤ 4 ∨ (8 ≤ e.operand 3 ∧ e.operand 3 ≤ 15)) →
          (s.unitAt (e.operand 2) = none → exec .unitRead s = .next (refusedWith s e rest .refusedState))
          ∧ (∀ u, s.unitAt (e.operand 2) = some u →
            (e.operand 3 = 0 → exec .unitRead s = .next (doneWith s e rest (u.identity.extractLsb' 24 8)
              (u.identity.extractLsb' 16 8) (u.identity.extractLsb' 8 8) (u.identity.extractLsb' 0 8)))
            ∧ (e.operand 3 = 1 → exec .unitRead s = .next (doneWith s e rest (byteOf (unitStateCode u.state))
              (byteOf (generationCode u.generation + 16 * u.partialFlag.toNat + 32 * u.restored.toNat))
              (hi u.signature.toNat) (lo u.signature.toNat)))
            ∧ (e.operand 3 = 2 → exec .unitRead s = .next (doneWith s e rest (byteOf u.declared) (byteOf u.functions.length)
              u.lampFaults 0))
            ∧ (e.operand 3 = 3 → exec .unitRead s = .next (doneWith s e rest
              (byteOf ((u.refusal.map fun r => refusalCode r.1).getD 0)) (byteOf ((u.refusal.map Prod.snd).getD 0)) 0 0))
            ∧ (e.operand 3 = 4 → ∃ w : Word32,
              exec .unitRead s = .next (doneWith s e rest (w.extractLsb' 24 8) (w.extractLsb' 16 8) (w.extractLsb' 8 8)
                (w.extractLsb' 0 8))
              ∧ ∀ i, i < 32 → w.getLsbD i = u.functions.any fun f => f.index == i)
            ∧ (∀ l, e.operand 3 = 8 + lineNumber l → ∃ w : Word32,
              exec .unitRead s = .next (doneWith s e rest (w.extractLsb' 24 8) (w.extractLsb' 16 8) (w.extractLsb' 8 8)
                (w.extractLsb' 0 8))
              ∧ ((u.loads.get l).r < 4096 → (u.loads.get l).c < 2048 → (u.loads.get l).n < 16 →
                  w.extractLsb' 16 12 = BitVec.ofNat 12 (u.loads.get l).r
                  ∧ w.extractLsb' 4 11 = BitVec.ofNat 11 (u.loads.get l).c
                  ∧ w.extractLsb' 0 4 = BitVec.ofNat 4 (u.loads.get l).n)))))
    ∧ (∀ (s : State) (e : IntakeEntry) (rest : List IntakeEntry), Takes s 0x23 e rest 1 →
        ((e.operand 2 < 1 ∨ 6 < e.operand 2 ∨ 31 < e.operand 3 ∨ 1 < e.operand 4) →
          exec .functionRead s = .next (refusedWith s e rest .refusedRange))
        ∧ (1 ≤ e.operand 2 → e.operand 2 ≤ 6 → e.operand 3 ≤ 31 → e.operand 4 ≤ 1 →
          (s.entryAt (e.operand 2) (e.operand 3) = none →
            exec .functionRead s = .next (refusedWith s e rest .refusedState))
          ∧ (∀ f, s.entryAt (e.operand 2) (e.operand 3) = some f →
            (e.operand 4 = 0 → exec .functionRead s = .next (doneWith s e rest (hi f.code.toNat) (lo f.code.toNat)
              (byteOf (classCode f.cls)) (byteOf (pollCode f.poll))))
            ∧ (e.operand 4 = 1 → exec .functionRead s = .next (doneWith s e rest (hiSigned f.min) (loSigned f.min)
              (hiSigned f.max) (loSigned f.max)))))))
  ∧ (∀ (s : State) (e : IntakeEntry) (rest : List IntakeEntry), Takes s 0x20 e rest 1 →
      ((7 < e.operand 2 ∨ 4 < e.operand 3) → exec .verdictRead s = .next (refusedWith s e rest .refusedRange))
      ∧ (∀ l v, e.operand 2 = lineNumber l → v = (s.lamps.get l).verdict →
        (e.operand 3 = 0 → exec .verdictRead s = .next (doneWith s e rest (byteOf (verdictCode v.verdict))
          (byteOf (v.held.toNat + 2 * presenceCode v.presence)) (byteOf (candidateCode v.candidate)) (byteOf v.repeats)))
        ∧ (e.operand 3 = 1 → exec .verdictRead s = .next (doneWith s e rest (hi v.lastE) (lo v.lastE) (hi v.lastM) (lo v.lastM)))
        ∧ (e.operand 3 = 2 → exec .verdictRead s = .next (doneWith s e rest (hi v.lastU) (lo v.lastU) (hi v.lower) (lo v.lower)))
        ∧ (e.operand 3 = 3 → exec .verdictRead s = .next (doneWith s e rest (hi v.upper) (lo v.upper) (hi v.difference)
            (lo v.difference)))
        ∧ (e.operand 3 = 4 → exec .verdictRead s = .next (doneWith s e rest (byteOf v.estimate) v.attributed 0 0))))
  ∧ (∀ (s : State) (e : IntakeEntry) (rest : List IntakeEntry), Takes s 0x30 e rest 1 →
      ((e.operand 2 < 1 ∨ 6 < e.operand 2 ∨ 31 < e.operand 3 ∨ 1 < e.operand 4) →
        exec .senseRead s = .next (refusedWith s e rest .refusedRange))
      ∧ (1 ≤ e.operand 2 → e.operand 2 ≤ 6 → e.operand 3 ≤ 31 → e.operand 4 ≤ 1 →
        ((s.entryAt (e.operand 2) (e.operand 3) = none ∨ ∃ f, s.entryAt (e.operand 2) (e.operand 3) = some f ∧ f.cls ≠ .sensor) →
          exec .senseRead s = .next (refusedWith s e rest .refusedState))
        ∧ (∀ f v, s.entryAt (e.operand 2) (e.operand 3) = some f → f.cls = .sensor → f.value = some v →
          (e.operand 4 = 0 → exec .senseRead s = .next (doneWith s e rest (hiSigned v.value) (loSigned v.value)
            (byteOf (qualityCode v.quality)) 0))
          ∧ (e.operand 4 = 1 → exec .senseRead s = .next (doneWith s e rest
            (hi (if v.quality = .notYet then 0 else min 65535 (s.now - v.answeredAt)))
            (lo (if v.quality = .notYet then 0 else min 65535 (s.now - v.answeredAt))) (byteOf (pollCode f.poll)) 0)))))

/-- R164, R173 and 11.4: SETTING-READ answers the word of a listed number and refuses any other, whichever slot sends it;
PART-STATUS-READ answers each of the items 0 to 10 as it stands at the taking, and refuses any other number.
The model's choices in it are the position of an offered PROBE or PLACE: log entry 17. -/
def Obligations.SettingAndPartStatusReadsAnswer : Prop :=
  (∀ (s : State) (e : IntakeEntry) (rest : List IntakeEntry), Takes s 0x60 e rest 1 →
      ((∀ w ∈ defaultWords, w.1 ≠ e.operand 2) → exec .settingRead s = .next (refusedWith s e rest .refusedRange))
      ∧ (∀ n, settingOfNumber (e.operand 2) = some n → exec .settingRead s = .next (doneWith s e rest
          ((s.settings.get n).extractLsb' 24 8) ((s.settings.get n).extractLsb' 16 8) ((s.settings.get n).extractLsb' 8 8)
          ((s.settings.get n).extractLsb' 0 8)))
      ∧ ((∃ w ∈ defaultWords, w.1 = e.operand 2) → ∃ n, settingOfNumber (e.operand 2) = some n))
  ∧ (∀ (s : State) (e : IntakeEntry) (rest : List IntakeEntry), Takes s 0x24 e rest 1 →
      (10 < e.operand 2 → exec .partStatusRead s = .next (refusedWith s e rest .refusedRange))
      ∧ (e.operand 2 = 0 → exec .partStatusRead s = .next (doneWith s e rest (byteOf (resetCauseCode s.comb.resetCause))
          (byteOf (wakeCauseCode s.comb.wakeCause)) (byteOf s.setup.open_.toNat)
          (byteOf ((s.setup.holder.map slotNumber).getD 255))))
      ∧ (e.operand 2 = 1 → exec .partStatusRead s = .next (doneWith s e rest (byteOf s.sense.plugClosed.toNat)
          (byteOf s.sense.ignitionHigh.toNat) (byteOf s.comb.feed.toNat) (byteOf s.port.busOff.toNat)))
      ∧ (e.operand 2 = 2 →
          (s.line.tx = none → exec .partStatusRead s = .next (doneWith s e rest 0xFF 0xFF 0 0))
          ∧ (∀ t, s.line.tx = some t → exec .partStatusRead s = .next (doneWith s e rest (byteOf (callKindCode t.kind))
              (byteOf t.target) (byteOf (txPhaseCode t.phase)) (byteOf t.attempts))))
      ∧ (e.operand 2 = 3 →
          (s.walker.offered = none → exec .partStatusRead s = .next (doneWith s e rest (byteOf s.walker.active.toNat) 0xFF 0xFF
              s.walker.lampReports))
          ∧ (∀ step, s.walker.offered = some step → exec .partStatusRead s = .next (doneWith s e rest
              (byteOf s.walker.active.toNat) (byteOf (callKindCode (Originator.bringUp step).transaction.kind))
              (byteOf (Originator.bringUp step).transaction.target) s.walker.lampReports)))
      ∧ (e.operand 2 = 4 → exec .partStatusRead s = .next (doneWith s e rest (byteOf s.poolFree) (byteOf s.cache.length)
          (byteOf s.claims.length) (byteOf s.line.urgent.length)))
      ∧ (e.operand 2 = 5 → exec .partStatusRead s = .next (doneWith s e rest (byteOf s.line.access.length) (byteOf rest.length)
          (byteOf (24 - s.port.report.length)) (byteOf s.port.deferred.length)))
      ∧ (e.operand 2 = 6 → exec .partStatusRead s = .next (doneWith s e rest (s.slots.get .s0).requestSet
          (s.slots.get .s1).requestSet (s.slots.get .s2).requestSet (s.slots.get .s3).requestSet))
      ∧ (e.operand 2 = 7 → ∃ marks : Byte,
          exec .partStatusRead s = .next (doneWith s e rest marks (byteOf (flashCode s.flash)) 0 0)
          ∧ ∀ k, marks.getLsbD (slotNumber k) = (s.slots.get k).refreshExpired
              ∧ marks.getLsbD (4 + slotNumber k) = s.missed k)
      ∧ (e.operand 2 = 8 → ∃ (switches : Byte) (low high : Byte),
          exec .partStatusRead s = .next (doneWith s e rest switches low high 0)
          ∧ ∀ l, switches.getLsbD (lineNumber l) = (s.lamps.get l).on
              ∧ ((high ++ low).toNat / 4 ^ lineNumber l) % 4 = presenceCode (s.lamps.get l).verdict.presence)
      ∧ (e.operand 2 = 9 → exec .partStatusRead s = .next (doneWith s e rest
          (byteOf (tripCode (s.lamps.get .tailL).trip + 16 * (s.lamps.get .tailL).attempts))
          (byteOf (tripCode (s.lamps.get .tailR).trip + 16 * (s.lamps.get .tailR).attempts))
          (byteOf (tripCode (s.lamps.get .stop).trip + 16 * (s.lamps.get .stop).attempts))
          (byteOf (tripCode (s.lamps.get .turnL).trip + 16 * (s.lamps.get .turnL).attempts))))
      ∧ (e.operand 2 = 10 → exec .partStatusRead s = .next (doneWith s e rest
          (byteOf (tripCode (s.lamps.get .turnR).trip + 16 * (s.lamps.get .turnR).attempts))
          (byteOf (tripCode (s.lamps.get .reverse).trip + 16 * (s.lamps.get .reverse).attempts))
          (byteOf (tripCode (s.lamps.get .fog).trip + 16 * (s.lamps.get .fog).attempts))
          (byteOf (tripCode (s.lamps.get .marker).trip + 16 * (s.lamps.get .marker).attempts)))))

/-- R161: an entry of fewer than 8 data bytes is answered REFUSED-FORMAT, with 00h for a byte it did not carry, and an entry of 8
bytes whose code is no request code, or is LAMP-SET, REFUSED-UNKNOWN. -/
def Obligations.EntriesThatAreNoRequestRefused : Prop :=
  ∀ (s : State) (e : IntakeEntry) (rest : List IntakeEntry), Heads s e rest 1 →
    (e.data.length < 8 → exec .refusedFormat s = .next (refusedWith s e rest .refusedFormat))
    ∧ (8 ≤ e.data.length →
        e.code ∉ [0x11, 0x20, 0x21, 0x22, 0x23, 0x24, 0x30, 0x31, 0x32, 0x40, 0x41, 0x42, 0x50, 0x51, 0x60, 0x61, 0x62, 0x63,
          0x64, 0x70, 0x71, 0x7E, (0x7F : Byte)] →
        exec .refusedUnknown s = .next (refusedWith s e rest .refusedUnknown))

/-! ### Lamp lines and verification (chapters 6, 7) -/

/-- R93 to R98, R105, R106, R114, R115, R162 and R171: a LAMP-SET replaces its slot's request set by the lines the slot may light, clears
its refresh mark, and the requested states, trip states, Flash Generator and switches follow: a steady line switched ON begins to
settle, a turn line is timed from the phase-begin of an on-phase that starts here alone, a line switched OFF starts its off time,
and a switch that stays restarts nothing; the answer, where wanted, carries
the granted and the ignored lines, or waits, in the place of a waiting one of its slot, which then is not queued and sets the
missed flag; REQUESTS-TAKEN is not counted. -/
def Obligations.LampSetReplacesRequestSet : Prop :=
  ∀ (s : State) (ident : Ident) (sequence lines wanted : Byte) (k : Slot) (granted : Byte),
    s.comb.heldInReset = false → s.port.busOff = false → s.comb.state ≠ .parked → identKind ident = 0x01 →
    identBlock ident = s.block → s.slotOfTag (identTag ident) = some k → SwitchesFollow s →
    granted = lines &&& (if s.hasRight k .lamps then 0xFF else if s.hasRight k .stopLine then 0x04 else 0x00) →
    ∃ t, exec (.lampSet ident sequence lines wanted) s = .next t ∧ SwitchesFollow t
      ∧ (t.slots.get k).requestSet = granted ∧ (t.slots.get k).refreshSince = s.now
      ∧ (t.slots.get k).refreshExpired = false
      ∧ (∀ j, j ≠ k → t.slots.get j = s.slots.get j)
      ∧ (∀ l, t.requested l = allSlots.any fun j => (if j = k then granted else (s.slots.get j).requestSet).getLsbD (lineNumber l))
      ∧ (∀ l, t.requested l = s.requested l → (t.lamps.get l).trip = (s.lamps.get l).trip
          ∧ (t.lamps.get l).attempts = (s.lamps.get l).attempts ∧ (t.lamps.get l).runSince = (s.lamps.get l).runSince
          ∧ (t.lamps.get l).restartSince = (s.lamps.get l).restartSince)
      ∧ (∀ l, s.requested l = false → t.requested l = true → (t.lamps.get l).runSince = some s.now)
      ∧ (∀ l, s.requested l = true → t.requested l = false → (t.lamps.get l).trip = .normal
          ∧ (t.lamps.get l).attempts = 0 ∧ (t.lamps.get l).restartSince = none)
      ∧ (∀ l, (t.lamps.get l).verdict = (s.lamps.get l).verdict)
      ∧ (∀ l, Switched (s.lamps.get l) (t.lamps.get l) l s.now (s.flash == .stopped))
      ∧ t.flash = (if t.requested .turnL || t.requested .turnR then
            (match s.flash with
              | .stopped => .on s.now
              | f => f)
          else .stopped)
      ∧ (wanted.getLsbD 0 = false → t.missed k = s.missed k ∧ t.port = s.port)
      ∧ (wanted.getLsbD 0 = true → s.port.deferred = [] → s.port.report.length < 24 →
          t.port.report = s.port.report
            ++ [frameTo s k 0x10 sequence .done false granted (lines &&& ~~~granted) 0 0]
          ∧ t.port.deferred = [] ∧ t.missed k = false)
      ∧ (wanted.getLsbD 0 = true → s.port.deferred ≠ [] ∨ 24 ≤ s.port.report.length → t.port.report = s.port.report
          ∧ ((∀ d ∈ s.port.deferred, d.code = 0x10 → d.slot ≠ k) → t.missed k = s.missed k
            ∧ t.port.deferred = s.port.deferred ++ [⟨k, 0x10, sequence, .done, false, [granted, lines &&& ~~~granted]⟩])
          ∧ (∀ before d after, s.port.deferred = before ++ d :: after → d.code = 0x10 → d.slot = k →
            (∀ x ∈ before, x.code = 0x10 → x.slot ≠ k) → t.missed k = true
            ∧ t.port.deferred = before ++ ⟨k, 0x10, sequence, .done, false, [granted, lines &&& ~~~granted]⟩ :: after))
      ∧ Keeps [.now, .comb, .sense, .line, .walker, .units, .cache, .claims, .settings, .setup, .portIn, .counters, .pending]
          s t

/-- R96 and R106: at its refresh window a slot's set keeps TAIL-L, TAIL-R and MARKER and the mark is set; a window of 0 or a set
mark changes nothing. -/
def Obligations.RefreshExpiryKeepsTailAndMarker : Prop :=
  ∀ (s : State) (k : Slot), s.comb.heldInReset = false →
    (s.refreshWindow k ≠ 0 → (s.slots.get k).refreshExpired = false → SwitchesFollow s →
      ∃ t, exec (.refreshWindowExpiry k) s = .next t ∧ SwitchesFollow t
        ∧ t.now = max s.now ((s.slots.get k).refreshSince + s.refreshWindow k)
        ∧ t.slots.get k = { s.slots.get k with
            requestSet := (s.slots.get k).requestSet &&& 0x83, refreshExpired := true }
        ∧ (∀ j, j ≠ k → t.slots.get j = s.slots.get j)
        ∧ (∀ l, s.requested l = true → t.requested l = false → (t.lamps.get l).on = false ∧ (t.lamps.get l).trip = .normal
            ∧ (t.lamps.get l).attempts = 0)
        ∧ (∀ l, t.requested l = s.requested l → isTurn l = false → t.lamps.get l = s.lamps.get l)
        ∧ Keeps [.comb, .sense, .line, .walker, .units, .cache, .claims, .settings, .setup, .portIn, .portOut, .counters,
            .pending] s t)
    ∧ (TimersFollow s → s.refreshWindow k = 0 ∨ (s.slots.get k).refreshExpired = true →
        exec (.refreshWindowExpiry k) s = .next s)

/-- R99, R97 and R115: at the end of a phase the Flash Generator enters the other with its timer from zero, the requested NORMAL
turn lines follow, a full on-phase that gave no measurement sets the held flag, and the steady lines are untouched; a stopped
generator stays so. -/
def Obligations.FlashPhaseEndSwitchesTurnLines : Prop :=
  ∀ s : State, s.comb.heldInReset = false →
    (∀ since, s.flash = .on since → SwitchesFollow s →
      ∃ t, exec .flashPhaseEnd s = .next t ∧ SwitchesFollow t
        ∧ t.now = max s.now (since + s.settings.flashOn.toNat) ∧ t.flash = .off t.now
        ∧ (∀ l, isTurn l = true → (t.lamps.get l).on = false
            ∧ ((s.lamps.get l).on = true → (t.lamps.get l).offSince = t.now ∧ (t.lamps.get l).timing = .idle)
            ∧ (t.lamps.get l).verdict = { (s.lamps.get l).verdict with
                held := (s.lamps.get l).verdict.held || (match (s.lamps.get l).timing with
                  | .fullPhase _ => true
                  | _ => false) })
        ∧ (∀ l, isTurn l = false → t.lamps.get l = s.lamps.get l)
        ∧ Keeps [.comb, .sense, .line, .walker, .units, .cache, .claims, .slots, .missed, .settings, .setup, .portIn, .portOut,
            .counters, .pending] s t)
    ∧ (∀ since, s.flash = .off since → SwitchesFollow s →
      ∃ t, exec .flashPhaseEnd s = .next t ∧ SwitchesFollow t
        ∧ t.now = max s.now (since + s.settings.flashOff.toNat) ∧ t.flash = .on t.now
        ∧ (∀ l, isTurn l = true → s.requested l = true → (s.lamps.get l).trip = .normal →
            t.lamps.get l = { s.lamps.get l with on := true, agree := none, timing := .fullPhase t.now })
        ∧ (∀ l, isTurn l = false ∨ s.requested l = false ∨ (s.lamps.get l).trip ≠ .normal → t.lamps.get l = s.lamps.get l)
        ∧ Keeps [.comb, .sense, .line, .walker, .units, .cache, .claims, .slots, .missed, .settings, .setup, .portIn, .portOut,
            .counters, .pending] s t)
    ∧ (s.flash = .stopped → TimersFollow s → exec .flashPhaseEnd s = .next s)

/-- R5, R97, R103 to R105, R108, R109, R114, R115, R122 and R124: the fault indication of a line that is ON and NORMAL trips it: TRIPPED with
the restart delay running while the count is below the setting, else LATCHED; the switch OFF, the verdict SHORT, TRIPS counted; a
VERDICT notice is offered unless the verdict was SHORT, then the TRIP notice, and a COMBINATION notice where PASSIVE-LOAD changes;
any other indication changes nothing. At its restart delay a TRIPPED line is NORMAL with one attempt more and the run time from
zero, and its switch is ON at once, or for a turn line in the on-phase; a steady line begins to settle, and a turn line is not
measured in the on-phase that runs.
The model's choices in it are the order of the slots and the place of the COMBINATION notice: log entries 6, 7. -/
def Obligations.FaultsTripAndLinesRestart : Prop :=
  (∀ (s : State) (l : Line), s.comb.heldInReset = false →
      ((s.lamps.get l).on = true → (s.lamps.get l).trip = .normal → SwitchesFollow s →
        ∃ t, exec (.switchFaultIndication l) s = .next (t.verified s)
          ∧ t.lamps.get l = { s.lamps.get l with
              on := false, offSince := s.now, timing := .idle, runSince := none
              trip := if (s.lamps.get l).attempts < s.settings.tripAttempts.toNat then .tripped else .latched
              restartSince := if (s.lamps.get l).attempts < s.settings.tripAttempts.toNat then some s.now else none
              verdict := { (s.lamps.get l).verdict with
                verdict := .short, candidate := none, repeats := 0, difference := 0, estimate := 0, attributed := 0 } }
          ∧ (∀ j, j ≠ l → t.lamps.get j = s.lamps.get j)
          ∧ t.counters.trips = bumped s.counters.trips
          ∧ t.counters.verdictChanges
              = (if (s.lamps.get l).verdict.verdict = .short then s.counters.verdictChanges
                  else bumped s.counters.verdictChanges)
          ∧ t.outbox = (if (s.lamps.get l).verdict.verdict = .short then s.outbox
              else s.outbox.verdictNotice s l (t.lamps.get l).verdict).tripNotice s l (t.lamps.get l)
          ∧ PassiveIs s t (if (s.lamps.get l).verdict.verdict = .short then s.comb.passiveLoad else t.showsPassive)
          ∧ Keeps [.now, .sense, .line, .walker, .units, .cache, .flash, .claims, .slots, .settings, .setup, .portIn,
              .pending] s t)
      ∧ (TimersFollow s → ((s.lamps.get l).on = false ∨ (s.lamps.get l).trip ≠ .normal) →
          exec (.switchFaultIndication l) s = .next s))
  ∧ (∀ (s : State) (l : Line) (since : Nat), s.comb.heldInReset = false → SwitchesFollow s → (s.lamps.get l).trip = .tripped →
      (s.lamps.get l).restartSince = some since →
      ∃ t, exec (.restartDelayExpiry l) s = .next t ∧ SwitchesFollow t
        ∧ t.now = max s.now (since + s.settings.restartDelay.toNat)
        ∧ (t.lamps.get l).trip = .normal ∧ (t.lamps.get l).attempts = (s.lamps.get l).attempts + 1
        ∧ (t.lamps.get l).runSince = some t.now ∧ (t.lamps.get l).restartSince = none
        ∧ (t.lamps.get l).on = (!isTurn l || s.flash.isOn)
        ∧ Switched (s.lamps.get l) (t.lamps.get l) l t.now false
        ∧ (t.lamps.get l).verdict = (s.lamps.get l).verdict
        ∧ (∀ j, j ≠ l → t.lamps.get j = s.lamps.get j)
        ∧ Keeps [.comb, .sense, .line, .walker, .units, .cache, .flash, .claims, .slots, .missed, .settings, .setup, .portIn,
            .portOut, .counters, .pending] s t)

/-- R97, R107, R114 and R115: LINE-RESET is decided by its first failing check; with every check passed the LATCHED line is NORMAL
with count 0, its run time starts, its switch follows R97, a steady line switched ON begins to settle, a turn line is not measured
in the on-phase that runs, and the answer is DONE.
The model's choices in it are the switch of a turn line in a running on-phase, ON at once: log entry 29. -/
def Obligations.LineResetClearsLatch : Prop :=
  ∀ (s : State) (e : IntakeEntry) (rest : List IntakeEntry), Takes s 0x11 e rest 1 → TimersFollow s → SwitchesFollow s →
    (7 < e.operand 2 → exec .lineReset s = .next (refusedWith s e rest .refusedRange))
    ∧ (∀ l, e.operand 2 = lineNumber l →
      (s.hasRight e.slot .lineReset = false → exec .lineReset s = .next (refusedWith s e rest .refusedRights))
      ∧ (s.hasRight e.slot .lineReset = true → (s.lamps.get l).trip ≠ .latched →
          exec .lineReset s = .next (refusedWith s e rest .refusedState))
      ∧ (s.hasRight e.slot .lineReset = true → (s.lamps.get l).trip = .latched →
          ∃ t, exec .lineReset s = .next t ∧ t = { doneWith s e rest 0 0 0 0 with lamps := t.lamps } ∧ SwitchesFollow t
            ∧ (t.lamps.get l).trip = .normal ∧ (t.lamps.get l).attempts = 0 ∧ (t.lamps.get l).runSince = some s.now
            ∧ (t.lamps.get l).on = (!isTurn l || s.flash.isOn)
            ∧ Switched (s.lamps.get l) (t.lamps.get l) l s.now false
            ∧ (t.lamps.get l).verdict = (s.lamps.get l).verdict
            ∧ ∀ j, j ≠ l → t.lamps.get j = s.lamps.get j))

/-- R5, R101, R103, R105, R108, R113, R116, R122 and R124: a measurement of 18 000 mA or more trips its line and writes the
presence LOADED and the figures it measured; a VERDICT notice is offered unless the verdict was SHORT, then the TRIP notice, and a
COMBINATION notice where PASSIVE-LOAD changes; one below that is skipped for a supply outside 18.00 V to 32.00 V, in SETTLING,
BUILDING and PARKED and under UNSETTLED: it writes presence, attempt count, next instant and the held flag, and the verdict stays
as it stands.
The model's choices in it are the order of the slots, the place of the COMBINATION notice and conversions above the range: log
entries 6, 7, 24. -/
def Obligations.MeasurementTripsOrIsSkipped : Prop :=
  (∀ (s : State) (l : Line) (due m u : Nat) (c1 c2 c3 c4 : Conversion), MeasuredAt s l due → SwitchesFollow s →
      m = meanOf 20000 c1.current c2.current c3.current c4.current →
      u = meanOf 3600 c1.supply c2.supply c3.supply c4.supply → 18000 ≤ m →
      ∃ t, exec (.measurementInstant l c1 c2 c3 c4) s = .next (t.verified s) ∧ t.now = max s.now due
        ∧ t.lamps.get l = { s.lamps.get l with
            on := false, offSince := t.now, timing := .idle, runSince := none
            trip := if (s.lamps.get l).attempts < s.settings.tripAttempts.toNat then .tripped else .latched
            restartSince := if (s.lamps.get l).attempts < s.settings.tripAttempts.toNat then some t.now else none
            verdict := { (s.lamps.get l).verdict with
              verdict := .short, candidate := none, repeats := 0, difference := 0, estimate := 0, attributed := 0
              lastM := m, lastU := u, presence := .loaded } }
        ∧ (∀ j, j ≠ l → t.lamps.get j = s.lamps.get j)
        ∧ t.counters.trips = bumped s.counters.trips
        ∧ t.counters.verdictChanges = (if (s.lamps.get l).verdict.verdict = .short then s.counters.verdictChanges
            else bumped s.counters.verdictChanges)
        ∧ t.outbox = (if (s.lamps.get l).verdict.verdict = .short then s.outbox
            else s.outbox.verdictNotice s l (t.lamps.get l).verdict).tripNotice s l (t.lamps.get l)
        ∧ PassiveIs s t (if (s.lamps.get l).verdict.verdict = .short then s.comb.passiveLoad else t.showsPassive)
        ∧ Keeps [.sense, .line, .walker, .units, .cache, .flash, .claims, .slots, .settings, .setup, .portIn, .pending] s t)
  ∧ (∀ (s : State) (l : Line) (due m u : Nat) (c1 c2 c3 c4 : Conversion), MeasuredAt s l due →
      m = meanOf 20000 c1.current c2.current c3.current c4.current →
      u = meanOf 3600 c1.supply c2.supply c3.supply c4.supply → m < 18000 →
      (u < 1800 ∨ 3200 < u ∨ (s.comb.state ≠ .detached ∧ s.comb.state ≠ .serving) ∨ s.comb.unsettled = true) →
      ∃ t, exec (.measurementInstant l c1 c2 c3 c4) s = .next t ∧ t.now = max s.now due
        ∧ t.lamps.get l = { s.lamps.get l with
            attempts := attemptsAfter (s.lamps.get l) t.now
            timing := if isTurn l then .phaseMeasured else .series t.now
            verdict := { (s.lamps.get l).verdict with presence := presenceAt s m, held := true } }
        ∧ (∀ j, j ≠ l → t.lamps.get j = s.lamps.get j)
        ∧ Keeps [.comb, .sense, .line, .walker, .units, .cache, .flash, .claims, .slots, .missed, .settings, .setup, .portIn,
            .portOut, .counters, .pending] s t)

/-- R5, R113 and R117 to R124: a measurement that is neither tripped nor skipped is classified against the expected load of the
SERVING units; its figures are written, and the verdict becomes the class when it confirms it or the class has come twice in a
row, with the deficit or residual and, for LOW, the lamp estimate; a change of the verdict offers a VERDICT notice, and a
COMBINATION notice where PASSIVE-LOAD changes.
The model's choices in it are the order of the slots, the place of the COMBINATION notice and conversions above the range: log
entries 6, 7, 24. -/
def Obligations.MeasurementClassified : Prop :=
  ∀ (s : State) (l : Line) (due m u e lower upper : Nat) (cls : Verdict) (c1 c2 c3 c4 : Conversion), MeasuredAt s l due →
    m = meanOf 20000 c1.current c2.current c3.current c4.current →
    u = meanOf 3600 c1.supply c2.supply c3.supply c4.supply → m < 18000 → 1800 ≤ u → u ≤ 3200 →
    (s.comb.state = .detached ∨ s.comb.state = .serving) → s.comb.unsettled = false →
    e = s.sumLoads l Load.r * u / 2400 + s.sumLoads l Load.c →
    lower = (if 15000 < e then 0 else e - e * s.settings.toleranceLow.toNat / 64 - s.settings.toleranceFloor.toNat) →
    upper = (if 15000 < e then 0 else e + e * s.settings.toleranceHigh.toNat / 64 + s.settings.toleranceFloor.toNat) →
    IsClass e m lower upper s.settings.openThreshold.toNat cls →
    ∃ t, exec (.measurementInstant l c1 c2 c3 c4) s = .next (t.verified s) ∧ t.now = max s.now due
      ∧ (t.lamps.get l).verdict.lastE = e ∧ (t.lamps.get l).verdict.lastM = m ∧ (t.lamps.get l).verdict.lastU = u
      ∧ (t.lamps.get l).verdict.lower = lower ∧ (t.lamps.get l).verdict.upper = upper
      ∧ (t.lamps.get l).verdict.held = false ∧ (t.lamps.get l).verdict.presence = presenceAt s m
      ∧ (t.lamps.get l).verdict.candidate = some cls
      ∧ (t.lamps.get l).verdict.repeats
          = (if (s.lamps.get l).verdict.candidate = some cls then min 2 ((s.lamps.get l).verdict.repeats + 1) else 1)
      ∧ (cls = (s.lamps.get l).verdict.verdict ∨ (t.lamps.get l).verdict.repeats = 2 →
          (t.lamps.get l).verdict.verdict = cls
          ∧ (t.lamps.get l).verdict.difference
              = (match cls with
                | .low => e - m
                | .high => m - e
                | .undeclared => m
                | _ => 0)
          ∧ (t.lamps.get l).verdict.estimate
              = (if cls = .low then
                  min (s.sumLoads l Load.n) (max 1 ((2 * (e - m) * s.sumLoads l Load.n + e) / (2 * e)))
                else 0)
          ∧ ((∀ w ∈ s.units, 1 ≤ w.position) → ∀ p, 1 ≤ p → p ≤ 6 →
              (t.lamps.get l).verdict.attributed.getLsbD (p - 1)
                = (cls == .low && s.units.any fun w => w.position == p && w.state == .serving && w.generation == .b
                    && w.lampFaults.getLsbD (lineNumber l))))
      ∧ (cls ≠ (s.lamps.get l).verdict.verdict ∧ (t.lamps.get l).verdict.repeats ≠ 2 →
          (t.lamps.get l).verdict.verdict = (s.lamps.get l).verdict.verdict)
      ∧ t.counters.verdictChanges
          = (if (t.lamps.get l).verdict.verdict = (s.lamps.get l).verdict.verdict then s.counters.verdictChanges
              else bumped s.counters.verdictChanges)
      ∧ t.outbox = (if (t.lamps.get l).verdict.verdict = (s.lamps.get l).verdict.verdict then s.outbox
          else s.outbox.verdictNotice s l (t.lamps.get l).verdict)
      ∧ PassiveIs s t (if (t.lamps.get l).verdict.verdict = (s.lamps.get l).verdict.verdict then s.comb.passiveLoad
          else t.showsPassive)
      ∧ (t.lamps.get l).on = true ∧ (t.lamps.get l).attempts = attemptsAfter (s.lamps.get l) t.now
      ∧ (t.lamps.get l).timing = (if isTurn l then .phaseMeasured else .series t.now)
      ∧ (∀ j, j ≠ l → t.lamps.get j = s.lamps.get j)
      ∧ Keeps [.sense, .line, .walker, .units, .cache, .flash, .claims, .slots, .settings, .setup, .portIn, .pending] s t

/-! ### Sensors and claims (chapters 8, 9) -/

/-- R135 and R139: at the staleness threshold a GOOD, CLAMPED or SENSOR-FAULT value becomes STALE and keeps what it held, and
SENSE is offered to the slots that subscribe to it; a NOT-YET or STALE one stays. -/
def Obligations.StalenessMarksValue : Prop :=
  ∀ (s : State) (p i : Nat) (f : FunctionEntry) (v : ValueRecord) (c : PollClass), s.comb.heldInReset = false →
    s.servingAt p = true → s.entryAt p i = some f → f.value = some v → f.poll = some c →
    ((v.quality = .good ∨ v.quality = .clamped ∨ v.quality = .sensorFault) →
      ∃ t g, exec (.stalenessThreshold p i) s = .next t
        ∧ t.now = max s.now (v.answeredAt + min 65535 (3 * s.pollInterval c))
        ∧ t.entryAt p i = some g ∧ g.value = some { v with quality := .stale }
        ∧ { g with value := f.value, subs := f.subs } = f
        ∧ ChangeNotices s t p i f g v.quality .stale v.value
        ∧ (∀ q, q ≠ p → t.unitAt q = s.unitAt q)
        ∧ Keeps [.comb, .sense, .line, .walker, .cache, .lamps, .flash, .claims, .slots, .settings, .setup, .portIn,
            .pending] s t)
    ∧ (TimersFollow s → (v.quality = .notYet ∨ v.quality = .stale) → exec (.stalenessThreshold p i) s = .next s)

/-- R137 and R138: SENSE-SUBSCRIBE and SENSE-UNSUBSCRIBE are decided by their first failing check; a subscription is written at
the entry's present value, or removed, for the sending slot alone, and answered. -/
def Obligations.SubscriptionsWritten : Prop :=
  (∀ (s : State) (e : IntakeEntry) (rest : List IntakeEntry), Takes s 0x31 e rest 1 →
    ((e.operand 2 < 1 ∨ 6 < e.operand 2 ∨ 31 < e.operand 3 ∨ 32767 < 256 * e.operand 4 + e.operand 5) →
      exec .senseSubscribe s = .next (refusedWith s e rest .refusedRange))
    ∧ (1 ≤ e.operand 2 → e.operand 2 ≤ 6 → e.operand 3 ≤ 31 → 256 * e.operand 4 + e.operand 5 ≤ 32767 →
      ((s.servingAt (e.operand 2) = false ∨ s.entryAt (e.operand 2) (e.operand 3) = none
          ∨ ∃ f, s.entryAt (e.operand 2) (e.operand 3) = some f ∧ f.cls ≠ .sensor) →
        exec .senseSubscribe s = .next (refusedWith s e rest .refusedState))
      ∧ (∀ f v, s.servingAt (e.operand 2) = true → s.entryAt (e.operand 2) (e.operand 3) = some f → f.cls = .sensor →
          f.value = some v →
          ∃ t, exec .senseSubscribe s = .next t
            ∧ t = { doneWith s e rest (hiSigned v.value) (loSigned v.value) (byteOf (qualityCode v.quality)) 0 with
                units := t.units }
            ∧ t.entryAt (e.operand 2) (e.operand 3) = some { f with
                subs := f.subs.set e.slot (some ⟨256 * e.operand 4 + e.operand 5, v.value⟩) }
            ∧ ∀ q, q ≠ e.operand 2 → t.unitAt q = s.unitAt q)))
  ∧ (∀ (s : State) (e : IntakeEntry) (rest : List IntakeEntry), Takes s 0x32 e rest 1 →
    ((e.operand 2 < 1 ∨ 6 < e.operand 2 ∨ 31 < e.operand 3) →
      exec .senseUnsubscribe s = .next (refusedWith s e rest .refusedRange))
    ∧ (1 ≤ e.operand 2 → e.operand 2 ≤ 6 → e.operand 3 ≤ 31 →
      ((s.servingAt (e.operand 2) = false ∨ s.entryAt (e.operand 2) (e.operand 3) = none
          ∨ ∃ f, s.entryAt (e.operand 2) (e.operand 3) = some f ∧ f.cls ≠ .sensor) →
        exec .senseUnsubscribe s = .next (refusedWith s e rest .refusedState))
      ∧ (∀ f v, s.servingAt (e.operand 2) = true → s.entryAt (e.operand 2) (e.operand 3) = some f → f.cls = .sensor →
          f.value = some v →
          ∃ t, exec .senseUnsubscribe s = .next t
            ∧ t = { doneWith s e rest (if (f.subs.get e.slot).isSome then 1 else 0) 0 0 0 with units := t.units }
            ∧ t.entryAt (e.operand 2) (e.operand 3) = some { f with subs := f.subs.set e.slot none }
            ∧ ∀ q, q ≠ e.operand 2 → t.unitAt q = s.unitAt q)))

/-- R142, R144 and R145: an ACTUATE that fails a check, meets a full Claim Table, an ENDING claim or another holder is answered
at its taking and changes no claim. -/
def Obligations.ActuateRefused : Prop :=
  ∀ (s : State) (e : IntakeEntry) (rest : List IntakeEntry), Takes s 0x40 e rest 1 → TimersFollow s →
    ((e.operand 2 < 1 ∨ 6 < e.operand 2 ∨ 31 < e.operand 3 ∨ commandOf (byteAt e.data 4) = none) →
      exec .actuate s = .next (refusedWith s e rest .refusedRange))
    ∧ (∀ c, 1 ≤ e.operand 2 → e.operand 2 ≤ 6 → e.operand 3 ≤ 31 → commandOf (byteAt e.data 4) = some c →
      (s.hasRight e.slot .bodyClaim = false → exec .actuate s = .next (refusedWith s e rest .refusedRights))
      ∧ (s.hasRight e.slot .bodyClaim = true →
        ((s.servingAt (e.operand 2) = false ∨ s.entryAt (e.operand 2) (e.operand 3) = none
            ∨ ∃ f, s.entryAt (e.operand 2) (e.operand 3) = some f ∧ f.cls = .sensor) →
          exec .actuate s = .next (refusedWith s e rest .refusedState))
        ∧ (∀ f, s.servingAt (e.operand 2) = true → s.entryAt (e.operand 2) (e.operand 3) = some f → f.cls ≠ .sensor →
          ((f.cls, c) ∉ [(.momentary, .run), (.momentary, .stop), (.latched, .on), (.latched, .off), (.setpoint, .set)] →
            exec .actuate s = .next (refusedWith s e rest .refusedRange))
          ∧ ((f.cls, c) ∈ [(.momentary, .run), (.momentary, .stop), (.latched, .on), (.latched, .off), (.setpoint, .set)] →
            (s.claimOn (e.operand 2) (e.operand 3) = none → 8 ≤ s.claims.length →
              exec .actuate s = .next { refusedWith s e rest .busy with
                counters := { s.counters with
                  requestsTaken := bumped s.counters.requestsTaken, requestsBusy := bumped s.counters.requestsBusy } })
            ∧ (∀ d b, s.claimOn (e.operand 2) (e.operand 3) = some d → d.state = .ending b →
              exec .actuate s = .next (refusedWith s e rest .refusedState))
            ∧ (∀ d, s.claimOn (e.operand 2) (e.operand 3) = some d → d.state = .held → d.holder ≠ e.slot →
              exec .actuate s = .next (answered s e rest
                [responseFrame s e .held false (byteOf (slotNumber d.holder)) 0 0 0]))))))

/-- R142, R145, R147 and R148: a command that proceeds is not answered at its taking: a claim is created where none is held, the
command joins the tail of the Urgent Queue as the claim's entry, or takes the place of its waiting entry, whose requester is
answered SUPERSEDED; a RUN restarts the hold time and a STOP puts the claim in ENDING.
The model's choices in it are the missed flag at a response discarded for an empty slot: log entry 28. -/
def Obligations.ActuateProceeds : Prop :=
  ∀ (s : State) (e : IntakeEntry) (rest : List IntakeEntry) (c : Command) (f : FunctionEntry) (entry : UrgentEntry)
    (value : Int),
    Takes s 0x40 e rest 1 → 1 ≤ e.operand 2 → e.operand 2 ≤ 6 → e.operand 3 ≤ 31 →
    commandOf (byteAt e.data 4) = some c → s.hasRight e.slot .bodyClaim = true → s.servingAt (e.operand 2) = true →
    s.entryAt (e.operand 2) (e.operand 3) = some f →
    (f.cls, c) ∈ [(.momentary, .run), (.momentary, .stop), (.latched, .on), (.latched, .off), (.setpoint, .set)] →
    value = max f.min (min f.max (byteAt e.data 5 ++ byteAt e.data 6).toInt) →
    entry =
      { position := e.operand 2, index := e.operand 3, command := c
        value := if c = .set then value else 0
        clamped := decide (c = .set ∧ value ≠ (byteAt e.data 5 ++ byteAt e.data 6).toInt)
        requester := if (byteAt e.data 7).getLsbD 0 then some ⟨e.slot, byteAt e.data 1⟩ else none } →
    (s.claimOn (e.operand 2) (e.operand 3) = none → s.claims.length < 8 →
      ∃ u, exec .actuate s = .next u.resumed
        ∧ u.claims.length = s.claims.length + 1
        ∧ u.claimOn (e.operand 2) (e.operand 3) = some
            { position := e.operand 2, index := e.operand 3, holder := e.slot, cls := f.cls
              state := if c = .stop then .ending true else .held
              lastRun := if c = .run then some s.now else none
              entry := some .waiting, stopMark := decide (c = .stop) }
        ∧ (∀ p i, p ≠ e.operand 2 ∨ i ≠ e.operand 3 → u.claimOn p i = s.claimOn p i)
        ∧ u.line = { s.line with urgent := s.line.urgent ++ [entry] }
        ∧ u.port = { s.port with intake := rest }
        ∧ u.counters = { s.counters with requestsTaken := bumped s.counters.requestsTaken }
        ∧ Keeps [.now, .comb, .sense, .walker, .units, .cache, .lamps, .flash, .slots, .missed, .settings, .setup,
            .pending] s u)
    ∧ (∀ d, s.claimOn (e.operand 2) (e.operand 3) = some d → d.state = .held → d.holder = e.slot →
      ∃ u, exec .actuate s = .next u.resumed
        ∧ u.claimOn (e.operand 2) (e.operand 3) = some { d with
            state := if c = .stop then .ending true else .held
            lastRun := if c = .run then some s.now else d.lastRun
            entry := some .waiting, stopMark := d.stopMark || decide (c = .stop) }
        ∧ (∀ p i, p ≠ e.operand 2 ∨ i ≠ e.operand 3 → u.claimOn p i = s.claimOn p i)
        ∧ u.claims.length = s.claims.length
        ∧ u.line = { s.line with urgent := s.withCommand d entry }
        ∧ u.outbox = s.outbox.respondAll s (s.superseded d) ∧ u.port.intake = rest
        ∧ u.counters = { s.counters with requestsTaken := bumped s.counters.requestsTaken }
        ∧ Keeps [.now, .comb, .sense, .walker, .units, .cache, .lamps, .flash, .slots, .settings, .setup, .pending] s u)

/-- R36, R147 and R153: at its hold time a HELD MOMENTARY claim goes to ENDING without owing a notice, its STOP joins the Urgent
Queue with no requester, or takes the place of the command that waits, whose requester is answered SUPERSEDED, and CLAIM-END
EXPIRED is offered to its holder; any other claim is left alone.
The model's choices in it are the missed flag at a response discarded for an empty slot: log entry 28. -/
def Obligations.HoldTimeExpiryStops : Prop :=
  ∀ (s : State) (p i : Nat) (c : Claim), s.comb.heldInReset = false → s.claimOn p i = some c →
    (∀ since, c.cls = .momentary → c.state = .held → c.lastRun = some since →
      ∃ u, exec (.holdTimeExpiry p i) s = .next u.resumed
        ∧ u.now = max s.now (since + s.settings.momentaryHold.toNat)
        ∧ u.claimOn p i = some { c with state := .ending false, stopMark := true, entry := some .waiting }
        ∧ (∀ q j, q ≠ p ∨ j ≠ i → u.claimOn q j = s.claimOn q j)
        ∧ u.line = { s.line with urgent := s.withCommand c (stopOf p i) }
        ∧ u.outbox = (s.outbox.respondAll s (s.superseded c)).offer s .claimEnd c.holder [byteOf p, byteOf i, 1]
        ∧ u.counters = { s.counters with noticesDropped := u.counters.noticesDropped }
        ∧ Keeps [.comb, .sense, .walker, .units, .cache, .lamps, .flash, .slots, .settings, .setup, .portIn, .pending] s u)
    ∧ (TimersFollow s → (c.cls ≠ .momentary ∨ c.state ≠ .held ∨ c.lastRun = none) →
        exec (.holdTimeExpiry p i) s = .next s)

/-- R36 and R148 to R151: RELEASE and FORCE-RELEASE are decided by their first failing check. The holder's MOMENTARY claim goes to
ENDING with a STOP and owes RELEASED-BY-STOP, and a LATCHED or SETPOINT claim is removed at once, after DONE. A slot with the
RESETS right ends any HELD claim: DONE, CLAIM-END FORCED to the holder, and a MOMENTARY claim goes to ENDING with a STOP while
another is removed. The command that waits for the claim gives way to the STOP or leaves with the claim, and its requester is
answered SUPERSEDED.
The model's choices in it are the order of the frames of FORCE-RELEASE and the missed flag at a response discarded for an empty
slot: log entries 9, 28. -/
def Obligations.ReleasesEndClaims : Prop :=
  (∀ (s : State) (e : IntakeEntry) (rest : List IntakeEntry), Takes s 0x41 e rest 1 →
      (TimersFollow s →
        ((e.operand 2 < 1 ∨ 6 < e.operand 2 ∨ 31 < e.operand 3) →
          exec .release s = .next (refusedWith s e rest .refusedRange))
        ∧ (1 ≤ e.operand 2 → e.operand 2 ≤ 6 → e.operand 3 ≤ 31 →
          (s.claimOn (e.operand 2) (e.operand 3) = none → exec .release s = .next (refusedWith s e rest .refusedState))
          ∧ (∀ c, s.claimOn (e.operand 2) (e.operand 3) = some c → c.state ≠ .held →
              exec .release s = .next (refusedWith s e rest .refusedState))
          ∧ (∀ c, s.claimOn (e.operand 2) (e.operand 3) = some c → c.state = .held → c.holder ≠ e.slot →
              exec .release s = .next (answered s e rest
                [responseFrame s e .held false (byteOf (slotNumber c.holder)) 0 0 0]))))
      ∧ (∀ c, 1 ≤ e.operand 2 → e.operand 2 ≤ 6 → e.operand 3 ≤ 31 → s.claimOn (e.operand 2) (e.operand 3) = some c →
        c.state = .held → c.holder = e.slot →
        ∃ u : State, exec .release s = .next u.resumed
          ∧ (c.cls = .momentary → u.claimOn (e.operand 2) (e.operand 3)
                = some { c with state := .ending true, stopMark := true, entry := some .waiting }
              ∧ u.line = { s.line with urgent := s.withCommand c (stopOf (e.operand 2) (e.operand 3)) })
          ∧ (c.cls ≠ .momentary → u.claimOn (e.operand 2) (e.operand 3) = none
              ∧ u.line = (if c.entry = some .waiting then { s.line with
                  urgent := s.line.urgent.filter fun x => !decide (x.position = e.operand 2 ∧ x.index = e.operand 3) }
                else s.line))
          ∧ (∀ q j, q ≠ e.operand 2 ∨ j ≠ e.operand 3 → u.claimOn q j = s.claimOn q j)
          ∧ u.outbox = (doneWith s e rest 0 0 0 0).outbox.respondAll s (s.superseded c)
          ∧ Keeps [.now, .comb, .sense, .walker, .units, .cache, .lamps, .flash, .slots, .settings, .setup, .counters, .portIn,
              .pending] (doneWith s e rest 0 0 0 0) u))
  ∧ (∀ (s : State) (e : IntakeEntry) (rest : List IntakeEntry), Takes s 0x42 e rest 1 →
      (TimersFollow s →
        ((e.operand 2 < 1 ∨ 6 < e.operand 2 ∨ 31 < e.operand 3) →
          exec .forceRelease s = .next (refusedWith s e rest .refusedRange))
        ∧ (1 ≤ e.operand 2 → e.operand 2 ≤ 6 → e.operand 3 ≤ 31 →
          (s.hasRight e.slot .resets = false → exec .forceRelease s = .next (refusedWith s e rest .refusedRights))
          ∧ (s.hasRight e.slot .resets = true →
            (s.claimOn (e.operand 2) (e.operand 3) = none ∨
              ∃ c, s.claimOn (e.operand 2) (e.operand 3) = some c ∧ c.state ≠ .held) →
            exec .forceRelease s = .next (refusedWith s e rest .refusedState))))
      ∧ (∀ c, 1 ≤ e.operand 2 → e.operand 2 ≤ 6 → e.operand 3 ≤ 31 → s.hasRight e.slot .resets = true →
        s.claimOn (e.operand 2) (e.operand 3) = some c → c.state = .held →
        ∃ u, exec .forceRelease s = .next u.resumed
          ∧ (c.cls = .momentary → u.claimOn (e.operand 2) (e.operand 3)
                = some { c with state := .ending false, stopMark := true, entry := some .waiting }
              ∧ u.line = { s.line with urgent := s.withCommand c (stopOf (e.operand 2) (e.operand 3)) })
          ∧ (c.cls ≠ .momentary → u.claimOn (e.operand 2) (e.operand 3) = none
              ∧ u.line = (if c.entry = some .waiting then { s.line with
                  urgent := s.line.urgent.filter fun x => !decide (x.position = e.operand 2 ∧ x.index = e.operand 3) }
                else s.line))
          ∧ (∀ q j, q ≠ e.operand 2 ∨ j ≠ e.operand 3 → u.claimOn q j = s.claimOn q j)
          ∧ u.outbox = ((doneWith s e rest 0 0 0 0).outbox.offer s .claimEnd c.holder
              [byteOf (e.operand 2), byteOf (e.operand 3), 4]).respondAll s (s.superseded c)
          ∧ u.counters = { s.counters with
              requestsTaken := bumped s.counters.requestsTaken, noticesDropped := u.counters.noticesDropped }
          ∧ Keeps [.now, .comb, .sense, .walker, .units, .cache, .lamps, .flash, .slots, .settings, .setup, .portIn, .pending]
              (doneWith s e rest 0 0 0 0) u))

/-! ### Masters, settings and the vehicle port (chapter 10) -/

/-- R156, R157 and R171: a request of a known slot joins the tail of the intake, or is answered BUSY where the queue or the
slot's quota is full, or sets the missed flag where no frame is free; an unknown sender is counted; every other frame is
ignored.
The model's choices in it are remote frames in PARKED: log entry 14. -/
def Obligations.RequestFrameJoinsIntake : Prop :=
  ∀ (s : State) (f : BusFrame), s.comb.heldInReset = false → TimersFollow s →
    ((s.port.busOff = true ∨ f.extended = false ∨ f.remote = true ∨ identBlock f.ident ≠ s.block
        ∨ (s.comb.state ≠ .parked ∧ identKind f.ident ≠ 0x01)) →
      exec (.requestFrame f) s = .next s)
    ∧ (s.port.busOff = false → f.extended = true → f.remote = false → identBlock f.ident = s.block →
      s.comb.state ≠ .parked → identKind f.ident = 0x01 →
      ((∀ k, s.tag k = 0xFF ∨ s.tag k ≠ identTag f.ident) → exec (.requestFrame f) s = .next { s with
        counters := { s.counters with framesUnknownSender := bumped s.counters.framesUnknownSender } })
      ∧ (∀ k e, s.slotOfTag (identTag f.ident) = some k → e = ⟨k, f.bytes.take (min f.lengthCode 8)⟩ →
        (e.data.length < 8 ∨ e.code ≠ 0x10) →
        (s.port.intake.length < 16 → (s.port.intake.filter fun x => x.slot == k).length < s.quota k →
          exec (.requestFrame f) s = .next { s with port := { s.port with intake := s.port.intake ++ [e] } })
        ∧ ((16 ≤ s.port.intake.length ∨ s.quota k ≤ (s.port.intake.filter fun x => x.slot == k).length) →
          (s.port.deferred = [] → s.port.report.length < 24 →
            exec (.requestFrame f) s = .next { s with
              port := { s.port with report := s.port.report ++ [responseFrame s e .busy false 0 0 0 0] }
              slots := s.slots.set k { s.slots.get k with missed := false }
              counters := { s.counters with requestsBusy := bumped s.counters.requestsBusy } })
          ∧ (24 ≤ s.port.report.length → exec (.requestFrame f) s = .next { s with
              slots := s.slots.set k { s.slots.get k with missed := true }
              counters := { s.counters with requestsBusy := bumped s.counters.requestsBusy } }))))

/-- R163 and R38: a unit-access request is decided by its first failing check; one that passes joins the tail of the Access Queue
without an answer. -/
def Obligations.UnitAccessJoinsQueue : Prop :=
  ∀ (s : State) (e : IntakeEntry) (rest : List IntakeEntry) (c : Instr) (kind : AccessKind),
    (Takes s 0x50 e rest 1 ∧ c = .unitParamRead ∧ kind = .get
      ∨ Takes s 0x51 e rest 1 ∧ c = .unitParamWrite ∧ kind = .set
          (((byteAt e.data 4 ++ byteAt e.data 5) ++ byteAt e.data 6) ++ byteAt e.data 7)) →
    (TimersFollow s →
      ((e.operand 2 < 1 ∨ 6 < e.operand 2) → exec c s = .next (refusedWith s e rest .refusedRange))
      ∧ (1 ≤ e.operand 2 → e.operand 2 ≤ 6 →
        (s.hasRight e.slot .unitAccess = false → exec c s = .next (refusedWith s e rest .refusedRights))
        ∧ (s.hasRight e.slot .unitAccess = true →
          ((∀ u, s.unitAt (e.operand 2) = some u → u.state ≠ .serving ∧ u.state ≠ .refused) →
            exec c s = .next (refusedWith s e rest .refusedState))
          ∧ (∀ u, s.unitAt (e.operand 2) = some u → (u.state = .serving ∨ u.state = .refused) →
            2 ≤ s.accessOutstanding e.slot → exec c s = .next { refusedWith s e rest .busy with
              counters := { s.counters with
                requestsTaken := bumped s.counters.requestsTaken, requestsBusy := bumped s.counters.requestsBusy } }))))
    ∧ (∀ u, 1 ≤ e.operand 2 → e.operand 2 ≤ 6 → s.hasRight e.slot .unitAccess = true → s.unitAt (e.operand 2) = some u →
      (u.state = .serving ∨ u.state = .refused) → s.accessOutstanding e.slot < 2 →
      exec c s = .next (State.resumed { s with
        port := { s.port with intake := rest }
        counters := { s.counters with requestsTaken := bumped s.counters.requestsTaken }
        line := { s.line with access := s.line.access
          ++ [{ slot := e.slot, sequence := byteAt e.data 1, position := e.operand 2, parameter := byteAt e.data 3, kind }] } }))

/-- R164, R166, R168 and R178: a SETTING-WRITE is decided by its first failing check. A RUNTIME number is stored clamped to the
nearer end, a refresh window of 0 as 0, a quota unless the slot holds more entries; a set with a bit outside its fields is
refused; a SETUP number is stored in the open window and its sender becomes the holder.
The model's choices in it are the width of a single number, the order of clamping and comparing a quota, the block that the DONE
carries: log entries 10, 11, 18. -/
def Obligations.SettingWriteDecided : Prop :=
  ∀ (s : State) (e : IntakeEntry) (rest : List IntakeEntry) (w : Word32), Takes s 0x61 e rest 1 → TimersFollow s →
    w = ((byteAt e.data 3 ++ byteAt e.data 4) ++ byteAt e.data 5) ++ byteAt e.data 6 →
    (settingOfNumber (e.operand 2) = none → exec .settingWrite s = .next (refusedWith s e rest .refusedRange))
    ∧ (∀ n, settingOfNumber (e.operand 2) = some n →
      ((settingClass n = .fixed ∨ ¬ MayWrite s e.slot n) → exec .settingWrite s = .next (refusedWith s e rest .refusedRights))
      ∧ (settingClass n ≠ .fixed → MayWrite s e.slot n →
        (settingClass n = .setup → s.setup.open_ = false →
          exec .settingWrite s = .next (refusedWith s e rest .setupClosed))
        ∧ (∀ h, settingClass n = .setup → s.setup.open_ = true → s.setup.holder = some h → h ≠ e.slot →
          exec .settingWrite s = .next (answered s e rest [responseFrame s e .held false (byteOf (slotNumber h)) 0 0 0]))
        ∧ (∀ lo hi, settingClass n = .runtime → settingRange n = some (lo, hi) →
          (∀ k, n ≠ .refreshWindow k ∧ n ≠ .intakeQuota k) →
          exec .settingWrite s = .next (settingDone s e rest n w (BitVec.ofNat 32 (max lo (min hi w.toNat)))))
        ∧ (∀ k, n = .refreshWindow k → exec .settingWrite s = .next (settingDone s e rest n w
            (if w = 0 then 0 else BitVec.ofNat 32 (max 100 (min 10000 w.toNat)))))
        ∧ (∀ k, n = .intakeQuota k →
          (max 1 (min 16 w.toNat) < (rest.filter fun x => x.slot == k).length →
            exec .settingWrite s = .next (refusedWith s e rest .refusedState))
          ∧ ((rest.filter fun x => x.slot == k).length ≤ max 1 (min 16 w.toNat) →
            exec .settingWrite s = .next (settingDone s e rest n w (BitVec.ofNat 32 (max 1 (min 16 w.toNat))))))
        ∧ (∀ k, n = .noticeRouting k →
          (w &&& 0xFFFFFF80 ≠ 0 → exec .settingWrite s = .next (refusedWith s e rest .refusedRange))
          ∧ (w &&& 0xFFFFFF80 = 0 → exec .settingWrite s = .next (settingDone s e rest n w w)))
        ∧ (n = .senseEnables →
          (w &&& 0xFFFFFF00 ≠ 0 → exec .settingWrite s = .next (refusedWith s e rest .refusedRange))
          ∧ (w &&& 0xFFFFFF00 = 0 → ∃ t, exec .settingWrite s = .next t
              ∧ t = { settingDone s e rest n w w with lamps := t.lamps }
              ∧ ∀ l, t.lamps.get l = if w.getLsbD (lineNumber l) then s.lamps.get l else { s.lamps.get l with agree := none }))
        ∧ ((n = .retryLimit ∨ n = .tripAttempts) → WindowLets s e.slot →
          exec .settingWrite s = .next { settingDone s e rest n w (BitVec.ofNat 32 (max 1 (min 7 w.toNat))) with
            setup := { s.setup with holder := some e.slot } })
        ∧ (n = .identifierBlock → WindowLets s e.slot →
          (w &&& 0xFFFFE000 ≠ 0 → exec .settingWrite s = .next (refusedWith s e rest .refusedRange))
          ∧ (w &&& 0xFFFFE000 = 0 → ∃ f, exec .settingWrite s = .next { answered s e rest [f] with
              settings := s.settings.set n w, setup := { s.setup with holder := some e.slot } }
              ∧ f = { responseFrame s e .done false (w.extractLsb' 24 8) (w.extractLsb' 16 8) (w.extractLsb' 8 8)
                  (w.extractLsb' 0 8) with ident := identOf (w.extractLsb' 0 13) 0x02 (s.tag e.slot) }))))

/-- R158, R160, R95 and R138: a slot's identity word is refused for a bit outside its fields, for a tag that another slot holds,
and for FFh on a slot still referenced; else it is stored, the slot's request set loses every line its rights no longer cover,
and FFh empties the set, the subscriptions and the intake entries of the slot.
The model's choices in it are the tag that the DONE carries: log entry 18. -/
def Obligations.SlotWordWritten : Prop :=
  ∀ (s : State) (e : IntakeEntry) (rest : List IntakeEntry) (k : Slot) (w : Word32), Takes s 0x61 e rest 1 →
    w = ((byteAt e.data 3 ++ byteAt e.data 4) ++ byteAt e.data 5) ++ byteAt e.data 6 →
    settingOfNumber (e.operand 2) = some (.slotWord k) → s.hasRight e.slot .settings = true → WindowLets s e.slot →
    (TimersFollow s →
      (w &&& 0xFF80FC00 ≠ 0 ∨ (w.extractLsb' 0 8 ≠ 0xFF ∧ ∃ j, j ≠ k ∧ s.tag j = w.extractLsb' 0 8)
        ∨ (w.extractLsb' 0 8 = 0xFF ∧ (k = e.slot ∨ s.setup.holder = some k ∨ (∃ c ∈ s.claims, c.holder = k)
            ∨ 0 < s.accessOutstanding k))) →
      exec .settingWrite s = .next (refusedWith s e rest .refusedRange))
    ∧ (w &&& 0xFF80FC00 = 0 → (w.extractLsb' 0 8 ≠ 0xFF → ∀ j, j ≠ k → s.tag j ≠ w.extractLsb' 0 8) →
      (w.extractLsb' 0 8 = 0xFF → k ≠ e.slot ∧ s.setup.holder ≠ some k ∧ (∀ c ∈ s.claims, c.holder ≠ k)
        ∧ s.accessOutstanding k = 0) →
      ∃ t, exec .settingWrite s = .next t
        ∧ t.settings = s.settings.set (.slotWord k) w ∧ t.setup = { s.setup with holder := some e.slot }
        ∧ (t.slots.get k).requestSet = (s.slots.get k).requestSet &&&
            (if w.extractLsb' 0 8 = 0xFF then 0x00 else if w.getLsbD 16 then 0xFF else if w.getLsbD 17 then 0x04 else 0x00)
        ∧ (SwitchesFollow s → SwitchesFollow t)
        ∧ t.port.intake = (if w.extractLsb' 0 8 = 0xFF then rest.filter fun x => decide (x.slot ≠ k) else rest)
        ∧ (w.extractLsb' 0 8 = 0xFF → ∀ u ∈ t.units, ∀ f ∈ u.functions, f.subs.get k = none)
        ∧ (w.extractLsb' 0 8 ≠ 0xFF → t.units = s.units)
        ∧ (∃ f, t.port.report = s.port.report ++ [f]
            ∧ f.ident = identOf s.block 0x02 (if k = e.slot then w.extractLsb' 0 8 else s.tag e.slot)
            ∧ f.data = [0x61, byteAt e.data 1, 0x00, (if s.missed e.slot then 1 else 0), w.extractLsb' 24 8,
                w.extractLsb' 16 8, w.extractLsb' 8 8, w.extractLsb' 0 8])
        ∧ Keeps [.now, .comb, .sense, .line, .walker, .cache, .claims, .pending] s t)

/-- R166, R167 and R168: a SETTING-FIELD-WRITE with a size, start or value outside its limits, or of an unlisted number, is refused;
else it is decided as a SETTING-WRITE of the word with those bits replaced, from the same slot, and answered with its own code: a
SETUP word, a set, a refresh window, a quota and a slot's word with the refusals and effects that R166 gives them. A RUNTIME number
is stored clamped.
The model's choices in it are the width of a single number: log entry 10. -/
def Obligations.FieldWriteReplacesBits : Prop :=
  ∀ (s : State) (e : IntakeEntry) (rest : List IntakeEntry) (value : Nat), Takes s 0x62 e rest 1 →
    value = 65536 * e.operand 5 + 256 * e.operand 6 + e.operand 7 →
    (TimersFollow s →
      (e.operand 4 = 0 ∨ 24 < e.operand 4 ∨ 32 < e.operand 3 + e.operand 4 ∨ 2 ^ e.operand 4 ≤ value
        ∨ settingOfNumber (e.operand 2) = none) →
      exec .settingFieldWrite s = .next (refusedWith s e rest .refusedRange))
    ∧ (∀ (n : Setting) (w : Word32), 1 ≤ e.operand 4 → e.operand 4 ≤ 24 → e.operand 3 + e.operand 4 ≤ 32 →
      value < 2 ^ e.operand 4 → settingOfNumber (e.operand 2) = some n →
      (∀ b, b < 32 → w.getLsbD b = if e.operand 3 ≤ b ∧ b < e.operand 3 + e.operand 4 then value.testBit (b - e.operand 3)
        else (s.settings.get n).getLsbD b) →
      (∃ (t : State) (f : Frame),
        exec .settingWrite { s with port := { s.port with intake :=
          ⟨e.slot, [0x61, byteAt e.data 1, byteAt e.data 2, w.extractLsb' 24 8, w.extractLsb' 16 8, w.extractLsb' 8 8,
            w.extractLsb' 0 8, 0]⟩ :: rest } } = .next t
        ∧ t.port.report = s.port.report ++ [f]
        ∧ exec .settingFieldWrite s = .next { t with port := { t.port with
            report := s.port.report ++ [{ f with data := 0x62 :: f.data.tail }] } })
      ∧ (∀ lo hi, TimersFollow s → settingClass n = .runtime → settingRange n = some (lo, hi) →
        (∀ k, n ≠ .refreshWindow k ∧ n ≠ .intakeQuota k) → MayWrite s e.slot n →
        exec .settingFieldWrite s = .next (settingDone s e rest n w (BitVec.ofNat 32 (max lo (min hi w.toNat))))))

/-- R165, R169 and R171: the setup window closes at a SETUP-CLOSE of its holder, or of any slot while it has none, and at the
deadline, and the SETUP notice of the cause is offered to every slot, after the DONE; NOTICE-ROUTE replaces the sender's own routing,
refused for an unknown kind.
The model's choices in it are the order of the slots: log entry 6. -/
def Obligations.SetupWindowClosesAndNoticesRoute : Prop :=
  (∀ (s : State) (e : IntakeEntry) (rest : List IntakeEntry), Takes s 0x63 e rest 1 →
    (s.setup.open_ = false → exec .setupClose s = .next (refusedWith s e rest .setupClosed))
    ∧ (∀ h, s.setup.open_ = true → s.setup.holder = some h → h ≠ e.slot → exec .setupClose s = .next (answered s e rest
        [responseFrame s e .held false (byteOf (slotNumber h)) 0 0 0]))
    ∧ (WindowLets s e.slot → ∃ t, exec .setupClose s = .next t
        ∧ t.setup = { open_ := false, holder := none, deadlineSince := none }
        ∧ t.outbox = (doneWith s e rest 0 0 0 0).outbox.offerAll s .setup [2]
        ∧ t.counters = { (doneWith s e rest 0 0 0 0).counters with noticesDropped := t.counters.noticesDropped }
        ∧ Keeps [.now, .comb, .sense, .line, .walker, .units, .cache, .lamps, .flash, .claims, .slots, .settings, .portIn,
            .pending] (doneWith s e rest 0 0 0 0) t))
  ∧ (∀ (s : State) (since : Nat), s.comb.heldInReset = false → s.setup.deadlineSince = some since →
    ∃ t, exec .setupDeadlineExpiry s = .next t ∧ t.now = max s.now (since + 5000)
      ∧ t.setup = { open_ := false, holder := none, deadlineSince := none }
      ∧ t.outbox = s.outbox.offerAll s .setup [1]
      ∧ t.counters = { s.counters with noticesDropped := t.counters.noticesDropped }
      ∧ Keeps [.comb, .sense, .line, .walker, .units, .cache, .lamps, .flash, .claims, .slots, .settings, .portIn, .pending]
          s t)
  ∧ (∀ (s : State) (e : IntakeEntry) (rest : List IntakeEntry), Takes s 0x64 e rest 1 →
    ((byteAt e.data 2).getLsbD 7 = true → exec .noticeRoute s = .next (refusedWith s e rest .refusedRange))
    ∧ ((byteAt e.data 2).getLsbD 7 = false → exec .noticeRoute s = .next { doneWith s e rest (byteAt e.data 2) 0 0 0 with
        settings := s.settings.set (.noticeRouting e.slot) ((byteAt e.data 2).setWidth 32) }))

/-- R1 and R171: a notice goes to a slot that is not empty and routes its kind: queued with the missed flag, which it clears, while
the free frames exceed the reserve and no response waits; else dropped, counted, and the missed flag set. A COMBINATION notice is
offered to every slot with the combination state, the unit count and the flags, and changes nothing else.
The model's choices in it are the order of the slots: log entry 6. -/
def Obligations.NoticeQueuedOrDropped : Prop :=
  (∀ (s : State) (kind : NoticeKind) (k : Slot) (content : List Byte),
    ((s.tag k = 0xFF ∨ (s.settings.noticeRouting.get k).getLsbD (noticeKindCode kind - 1) = false) →
      s.offerNotice kind k content = s)
    ∧ (s.tag k ≠ 0xFF → (s.settings.noticeRouting.get k).getLsbD (noticeKindCode kind - 1) = true →
      (s.port.deferred = [] → s.settings.noticeReserve.toNat < 24 - s.port.report.length → content.length ≤ 7 →
        s.offerNotice kind k content = { s with
          port := { s.port with report := s.port.report
            ++ [⟨identOf s.block 0x03 (s.tag k), byteOf (noticeKindCode kind + if s.missed k then 128 else 0)
                  :: (content ++ List.replicate (7 - content.length) 0)⟩] }
          slots := s.slots.set k { s.slots.get k with missed := false } })
      ∧ ((s.port.deferred ≠ [] ∨ 24 - s.port.report.length ≤ s.settings.noticeReserve.toNat) →
        s.offerNotice kind k content = { s with
          slots := s.slots.set k { s.slots.get k with missed := true }
          counters := { s.counters with noticesDropped := bumped s.counters.noticesDropped } })))
  ∧ ∀ s : State,
    s.noticeCombination.outbox = s.outbox.offerAll s .combination
      [byteOf (combStateCode s.comb.state), byteOf s.units.length,
        byteOf (s.comb.unsettled.toNat + 2 * s.comb.chainFull.toNat + 4 * s.comb.identityClash.toNat
          + 8 * s.comb.passiveLoad.toNat)]
    ∧ s.noticeCombination.counters = { s.counters with noticesDropped := s.noticeCombination.counters.noticesDropped }
    ∧ Keeps [.now, .comb, .sense, .line, .walker, .units, .cache, .lamps, .flash, .claims, .slots, .settings, .setup, .portIn,
        .pending] s s.noticeCombination

/-- R162, R170, R172 and R174: a completed transmission takes the head frame off and gives the freed frame to the oldest waiting
response, its missing data bytes 0, unless the controller is bus-off; bus-off is counted at its entry; FULL-RESET with the
RESETS right is answered DONE and waits for that frame.
The model's choices in it are the record of CANH and CANL and the place of the DONE in the queue: log entries 4, 16. -/
def Obligations.PortTransmitsAndWaits : Prop :=
  (∀ (s : State) (f : Frame) (frames : List Frame), s.comb.heldInReset = false → s.port.report = f :: frames →
    (s.port.busOff = true → exec .frameTransmitted s = .next s)
    ∧ (s.port.busOff = false → s.port.deferred = [] → exec .frameTransmitted s = .next { s with
        port := { s.port with
          report := frames, canOut := some f
          fullReset := s.port.fullReset.map fun w => { w with ahead := w.ahead - 1 } } })
    ∧ (∀ r more, s.port.busOff = false → s.port.deferred = r :: more → r.data.length ≤ 4 → frames.length < 24 →
        exec .frameTransmitted s = .next { s with
          port := { s.port with
            report := frames ++ [frameTo s r.slot r.code r.sequence r.status r.clamped (byteAt r.data 0) (byteAt r.data 1)
              (byteAt r.data 2) (byteAt r.data 3)]
            canOut := some f, deferred := more
            fullReset := s.port.fullReset.map fun w => { w with ahead := w.ahead - 1 } }
          slots := s.slots.set r.slot { s.slots.get r.slot with missed := false } }))
  ∧ (∀ s : State, s.comb.heldInReset = false →
    (s.port.busOff = false → exec .busOffEntry s = .next { s with
      port := { s.port with busOff := true }
      counters := { s.counters with busOffEvents := bumped s.counters.busOffEvents } })
    ∧ (s.port.busOff = true → exec .busOffEntry s = .next s)
    ∧ exec .busOffExit s = .next { s with port := { s.port with busOff := false } })
  ∧ (∀ (s : State) (e : IntakeEntry) (rest : List IntakeEntry), Takes s 0x7F e rest 1 →
    (s.hasRight e.slot .resets = false → exec .fullReset s = .next (refusedWith s e rest .refusedRights))
    ∧ (s.hasRight e.slot .resets = true → ∃ t, exec .fullReset s = .next t
        ∧ t = { doneWith s e rest 0 0 0 0 with port := { (doneWith s e rest 0 0 0 0).port with
            fullReset := some { since := s.now, ahead := s.port.report.length + 1 } } }))

/-! ### Laws that every step keeps -/

/-- The part right after power-on obeys every law that a step keeps. -/
def Obligations.ResetObeysTheLaws : Prop :=
  StoresLawful State.reset ∧ SwitchesFollow State.reset ∧ TimersFollow State.reset ∧ FlagsFollow State.reset
    ∧ StatesFollow State.reset ∧ WalkLawful State.reset ∧ PoolLawful State.reset ∧ ClaimsLawful State.reset

/-- R38, R41, R83, R143, R157, R158, R164, R168 and R170: from any state with lawful stores, every step leaves lawful stores. -/
def Obligations.StepKeepsStoresLawful : Prop := ∀ s t : State, StoresLawful s → step s = .next t → StoresLawful t

/-- R93, R97 and R106: every step keeps the switch law of every line. -/
def Obligations.StepKeepsSwitchLaw : Prop := ∀ s t : State, SwitchesFollow s → step s = .next t → SwitchesFollow t

/-- R8, R14 and R19: every step keeps the attach debounce, the waiting entry and the park delay in step with their conditions. -/
def Obligations.StepKeepsTimers : Prop := ∀ s t : State, TimersFollow s → step s = .next t → TimersFollow t

/-- R3 and R5: every step keeps UNSETTLED and PASSIVE-LOAD in step with the unit records and the verdicts. -/
def Obligations.StepKeepsFlags : Prop := ∀ s t : State, FlagsFollow s → step s = .next t → FlagsFollow t

/-- R9, R10, R12, R15 and R17: every step keeps what the combination state rules out. -/
def Obligations.StepKeepsStates : Prop := ∀ s t : State, StatesFollow s → step s = .next t → StatesFollow t

/-- R29, R40, R44, R45, R49, R52, R56, R58, R84 and R152: every step keeps the Unit Table and the walk in agreement: at most six
records, at positions 1 to n, no identity twice in table and cache, one step of the walk and one LAMP-REPORT at a time, and every
piece of work, claim and mark on a unit that is there.
The model's choices in it are the LAMP-REPORT beside a walk step, the PROBE of a loss and the end of the presence list: log entries
13, 22, 27. -/
def Obligations.StepKeepsWalkLawful : Prop :=
  ∀ s t : State, StatesFollow s → WalkLawful s → step s = .next t → WalkLawful t

/-- R63, R69, R72 and R129: every step keeps the Function Pool within its 128 entries, every function list in ascending index,
and every value within the declared bounds. -/
def Obligations.StepKeepsPoolLawful : Prop :=
  ∀ s t : State, StatesFollow s → WalkLawful s → PoolLawful s → step s = .next t → PoolLawful t

/-- R12, R35, R143 and R152: every step keeps the claims: at most 8, one for a function, in ascending position and index, each on a
body function of a SERVING unit, with its entry WAITING exactly while one entry of the Urgent Queue carries its command. -/
def Obligations.StepKeepsClaimsLawful : Prop :=
  ∀ s t : State, StatesFollow s → WalkLawful s → ClaimsLawful s → step s = .next t → ClaimsLawful t
end

