-- ==== Sys2Proof/Laws/State.lean ====
section
/-! SUPPORT. The families, and what each update of State leaves alone: one lemma per update and field, by rfl. -/
namespace Sys2Proof.Machine

variable {α β : Type}

@[simp] theorem PerSlot.get_const (a : α) (k : Slot) : (PerSlot.const a).get k = a := by cases k <;> rfl
@[simp] theorem PerSlot.get_set_self (p : PerSlot α) (k : Slot) (a : α) : (p.set k a).get k = a := by cases k <;> rfl
@[simp] theorem PerSlot.get_set_ne (p : PerSlot α) {j k : Slot} (a : α) (h : j ≠ k) : (p.set k a).get j = p.get j := by
  cases j <;> cases k <;> first | rfl | exact absurd rfl h
@[simp] theorem PerSlot.get_map (f : Slot → α → β) (p : PerSlot α) (k : Slot) : (p.map f).get k = f k (p.get k) := by
  cases k <;> rfl
theorem PerSlot.ext_get {p q : PerSlot α} (h : ∀ k, p.get k = q.get k) : p = q := by
  cases p; cases q
  simp only [PerSlot.mk.injEq]
  exact ⟨h .s0, h .s1, h .s2, h .s3⟩

@[simp] theorem PerLine.get_const (a : α) (l : Line) : (PerLine.const a).get l = a := by cases l <;> rfl
@[simp] theorem PerLine.get_set_self (p : PerLine α) (l : Line) (a : α) : (p.set l a).get l = a := by cases l <;> rfl
@[simp] theorem PerLine.get_set_ne (p : PerLine α) {j l : Line} (a : α) (h : j ≠ l) : (p.set l a).get j = p.get j := by
  cases j <;> cases l <;> first | rfl | exact absurd rfl h
@[simp] theorem PerLine.get_map (f : Line → α → β) (p : PerLine α) (l : Line) : (p.map f).get l = f l (p.get l) := by
  cases l <;> rfl
theorem PerLine.ext_get {p q : PerLine α} (h : ∀ l, p.get l = q.get l) : p = q := by
  cases p; cases q
  simp only [PerLine.mk.injEq]
  exact ⟨h .tailL, h .tailR, h .stop, h .turnL, h .turnR, h .reverse, h .fog, h .marker⟩

@[simp] theorem Settings.get_set_self (w : Settings) (n : Setting) (v : Word32) : (w.set n v).get n = v := by
  cases n <;> simp [Settings.set, Settings.get]
theorem Settings.get_set_ne (w : Settings) {m n : Setting} (v : Word32) (h : m ≠ n) : (w.set n v).get m = w.get m := by
  cases n <;> cases m <;> simp_all [Settings.set, Settings.get]

/-- A fold leaves alone what each of its steps leaves alone. -/
theorem foldl_keeps {γ : Type} (p : β → γ) (f : β → α → β) (h : ∀ s a, p (f s a) = p s) (l : List α) (s : β) :
    p (l.foldl f s) = p s := by
  induction l generalizing s with
  | nil => rfl
  | cons a l ih => rw [List.foldl_cons, ih, h]

/-- What the masters and the bus have brought in: the slots but for their missed flags, and the port but for what it sends. -/
def State.inlets (s : State) : PerSlot SlotState × Bool × List IntakeEntry × Option FullResetWait × Option Frame :=
  (s.slots.map fun _ x => { x with missed := false }, s.port.busOff, s.port.intake, s.port.fullReset, s.port.canOut)

/-- The counters but for NOTICES-DROPPED. -/
def State.tallies (s : State) : Counters := { s.counters with noticesDropped := 0 }

variable (s : State)

@[simp] theorem State.reach_comb (t : Nat) : (s.reach t).comb = s.comb := rfl
@[simp] theorem State.reach_sense (t : Nat) : (s.reach t).sense = s.sense := rfl
@[simp] theorem State.reach_line (t : Nat) : (s.reach t).line = s.line := rfl
@[simp] theorem State.reach_walker (t : Nat) : (s.reach t).walker = s.walker := rfl
@[simp] theorem State.reach_units (t : Nat) : (s.reach t).units = s.units := rfl
@[simp] theorem State.reach_cache (t : Nat) : (s.reach t).cache = s.cache := rfl
@[simp] theorem State.reach_lamps (t : Nat) : (s.reach t).lamps = s.lamps := rfl
@[simp] theorem State.reach_flash (t : Nat) : (s.reach t).flash = s.flash := rfl
@[simp] theorem State.reach_claims (t : Nat) : (s.reach t).claims = s.claims := rfl
@[simp] theorem State.reach_slots (t : Nat) : (s.reach t).slots = s.slots := rfl
@[simp] theorem State.reach_settings (t : Nat) : (s.reach t).settings = s.settings := rfl
@[simp] theorem State.reach_setup (t : Nat) : (s.reach t).setup = s.setup := rfl
@[simp] theorem State.reach_port (t : Nat) : (s.reach t).port = s.port := rfl
@[simp] theorem State.reach_counters (t : Nat) : (s.reach t).counters = s.counters := rfl
@[simp] theorem State.reach_pending (t : Nat) : (s.reach t).pending = s.pending := rfl
@[simp] theorem State.reach_inlets (t : Nat) : (s.reach t).inlets = s.inlets := rfl
@[simp] theorem State.reach_tallies (t : Nat) : (s.reach t).tallies = s.tallies := rfl

@[simp] theorem State.count_now (c : Counter) : (s.count c).now = s.now := rfl
@[simp] theorem State.count_comb (c : Counter) : (s.count c).comb = s.comb := rfl
@[simp] theorem State.count_sense (c : Counter) : (s.count c).sense = s.sense := rfl
@[simp] theorem State.count_line (c : Counter) : (s.count c).line = s.line := rfl
@[simp] theorem State.count_walker (c : Counter) : (s.count c).walker = s.walker := rfl
@[simp] theorem State.count_units (c : Counter) : (s.count c).units = s.units := rfl
@[simp] theorem State.count_cache (c : Counter) : (s.count c).cache = s.cache := rfl
@[simp] theorem State.count_lamps (c : Counter) : (s.count c).lamps = s.lamps := rfl
@[simp] theorem State.count_flash (c : Counter) : (s.count c).flash = s.flash := rfl
@[simp] theorem State.count_claims (c : Counter) : (s.count c).claims = s.claims := rfl
@[simp] theorem State.count_slots (c : Counter) : (s.count c).slots = s.slots := rfl
@[simp] theorem State.count_settings (c : Counter) : (s.count c).settings = s.settings := rfl
@[simp] theorem State.count_setup (c : Counter) : (s.count c).setup = s.setup := rfl
@[simp] theorem State.count_port (c : Counter) : (s.count c).port = s.port := rfl
@[simp] theorem State.count_pending (c : Counter) : (s.count c).pending = s.pending := rfl
@[simp] theorem State.count_inlets (c : Counter) : (s.count c).inlets = s.inlets := rfl

@[simp] theorem State.setMissed_now (k : Slot) (b : Bool) : (s.setMissed k b).now = s.now := rfl
@[simp] theorem State.setMissed_comb (k : Slot) (b : Bool) : (s.setMissed k b).comb = s.comb := rfl
@[simp] theorem State.setMissed_sense (k : Slot) (b : Bool) : (s.setMissed k b).sense = s.sense := rfl
@[simp] theorem State.setMissed_line (k : Slot) (b : Bool) : (s.setMissed k b).line = s.line := rfl
@[simp] theorem State.setMissed_walker (k : Slot) (b : Bool) : (s.setMissed k b).walker = s.walker := rfl
@[simp] theorem State.setMissed_units (k : Slot) (b : Bool) : (s.setMissed k b).units = s.units := rfl
@[simp] theorem State.setMissed_cache (k : Slot) (b : Bool) : (s.setMissed k b).cache = s.cache := rfl
@[simp] theorem State.setMissed_lamps (k : Slot) (b : Bool) : (s.setMissed k b).lamps = s.lamps := rfl
@[simp] theorem State.setMissed_flash (k : Slot) (b : Bool) : (s.setMissed k b).flash = s.flash := rfl
@[simp] theorem State.setMissed_claims (k : Slot) (b : Bool) : (s.setMissed k b).claims = s.claims := rfl
@[simp] theorem State.setMissed_settings (k : Slot) (b : Bool) : (s.setMissed k b).settings = s.settings := rfl
@[simp] theorem State.setMissed_setup (k : Slot) (b : Bool) : (s.setMissed k b).setup = s.setup := rfl
@[simp] theorem State.setMissed_port (k : Slot) (b : Bool) : (s.setMissed k b).port = s.port := rfl
@[simp] theorem State.setMissed_counters (k : Slot) (b : Bool) : (s.setMissed k b).counters = s.counters := rfl
@[simp] theorem State.setMissed_pending (k : Slot) (b : Bool) : (s.setMissed k b).pending = s.pending := rfl
@[simp] theorem State.setMissed_inlets (k : Slot) (b : Bool) : (s.setMissed k b).inlets = s.inlets := by cases k <;> rfl
@[simp] theorem State.setMissed_tallies (k : Slot) (b : Bool) : (s.setMissed k b).tallies = s.tallies := rfl

@[simp] theorem State.queueFrame_now (kind : Byte) (k : Slot) (d : List Byte) : (s.queueFrame kind k d).now = s.now := rfl
@[simp] theorem State.queueFrame_comb (kind : Byte) (k : Slot) (d : List Byte) : (s.queueFrame kind k d).comb = s.comb := rfl
@[simp] theorem State.queueFrame_sense (kind : Byte) (k : Slot) (d : List Byte) : (s.queueFrame kind k d).sense = s.sense := rfl
@[simp] theorem State.queueFrame_line (kind : Byte) (k : Slot) (d : List Byte) : (s.queueFrame kind k d).line = s.line := rfl
@[simp] theorem State.queueFrame_walker (kind : Byte) (k : Slot) (d : List Byte) : (s.queueFrame kind k d).walker = s.walker := rfl
@[simp] theorem State.queueFrame_units (kind : Byte) (k : Slot) (d : List Byte) : (s.queueFrame kind k d).units = s.units := rfl
@[simp] theorem State.queueFrame_cache (kind : Byte) (k : Slot) (d : List Byte) : (s.queueFrame kind k d).cache = s.cache := rfl
@[simp] theorem State.queueFrame_lamps (kind : Byte) (k : Slot) (d : List Byte) : (s.queueFrame kind k d).lamps = s.lamps := rfl
@[simp] theorem State.queueFrame_flash (kind : Byte) (k : Slot) (d : List Byte) : (s.queueFrame kind k d).flash = s.flash := rfl
@[simp] theorem State.queueFrame_claims (kind : Byte) (k : Slot) (d : List Byte) : (s.queueFrame kind k d).claims = s.claims := rfl
@[simp] theorem State.queueFrame_slots (kind : Byte) (k : Slot) (d : List Byte) : (s.queueFrame kind k d).slots = s.slots := rfl
@[simp] theorem State.queueFrame_settings (kind : Byte) (k : Slot) (d : List Byte) : (s.queueFrame kind k d).settings = s.settings := rfl
@[simp] theorem State.queueFrame_setup (kind : Byte) (k : Slot) (d : List Byte) : (s.queueFrame kind k d).setup = s.setup := rfl
@[simp] theorem State.queueFrame_counters (kind : Byte) (k : Slot) (d : List Byte) : (s.queueFrame kind k d).counters = s.counters := rfl
@[simp] theorem State.queueFrame_pending (kind : Byte) (k : Slot) (d : List Byte) : (s.queueFrame kind k d).pending = s.pending := rfl
@[simp] theorem State.queueFrame_inlets (kind : Byte) (k : Slot) (d : List Byte) : (s.queueFrame kind k d).inlets = s.inlets := rfl
@[simp] theorem State.queueFrame_tallies (kind : Byte) (k : Slot) (d : List Byte) : (s.queueFrame kind k d).tallies = s.tallies := rfl

@[simp] theorem State.queueResponse_now (r : Response) : (s.queueResponse r).now = s.now := rfl
@[simp] theorem State.queueResponse_comb (r : Response) : (s.queueResponse r).comb = s.comb := rfl
@[simp] theorem State.queueResponse_sense (r : Response) : (s.queueResponse r).sense = s.sense := rfl
@[simp] theorem State.queueResponse_line (r : Response) : (s.queueResponse r).line = s.line := rfl
@[simp] theorem State.queueResponse_walker (r : Response) : (s.queueResponse r).walker = s.walker := rfl
@[simp] theorem State.queueResponse_units (r : Response) : (s.queueResponse r).units = s.units := rfl
@[simp] theorem State.queueResponse_cache (r : Response) : (s.queueResponse r).cache = s.cache := rfl
@[simp] theorem State.queueResponse_lamps (r : Response) : (s.queueResponse r).lamps = s.lamps := rfl
@[simp] theorem State.queueResponse_flash (r : Response) : (s.queueResponse r).flash = s.flash := rfl
@[simp] theorem State.queueResponse_claims (r : Response) : (s.queueResponse r).claims = s.claims := rfl
@[simp] theorem State.queueResponse_settings (r : Response) : (s.queueResponse r).settings = s.settings := rfl
@[simp] theorem State.queueResponse_setup (r : Response) : (s.queueResponse r).setup = s.setup := rfl
@[simp] theorem State.queueResponse_counters (r : Response) : (s.queueResponse r).counters = s.counters := rfl
@[simp] theorem State.queueResponse_pending (r : Response) : (s.queueResponse r).pending = s.pending := rfl
@[simp] theorem State.queueResponse_inlets (r : Response) : (s.queueResponse r).inlets = s.inlets := State.setMissed_inlets _ _ _
@[simp] theorem State.queueResponse_tallies (r : Response) : (s.queueResponse r).tallies = s.tallies := rfl

@[simp] theorem State.queueNotice_now (n : NoticeKind) (k : Slot) (d : List Byte) : (s.queueNotice n k d).now = s.now := rfl
@[simp] theorem State.queueNotice_comb (n : NoticeKind) (k : Slot) (d : List Byte) : (s.queueNotice n k d).comb = s.comb := rfl
@[simp] theorem State.queueNotice_sense (n : NoticeKind) (k : Slot) (d : List Byte) : (s.queueNotice n k d).sense = s.sense := rfl
@[simp] theorem State.queueNotice_line (n : NoticeKind) (k : Slot) (d : List Byte) : (s.queueNotice n k d).line = s.line := rfl
@[simp] theorem State.queueNotice_walker (n : NoticeKind) (k : Slot) (d : List Byte) : (s.queueNotice n k d).walker = s.walker := rfl
@[simp] theorem State.queueNotice_units (n : NoticeKind) (k : Slot) (d : List Byte) : (s.queueNotice n k d).units = s.units := rfl
@[simp] theorem State.queueNotice_cache (n : NoticeKind) (k : Slot) (d : List Byte) : (s.queueNotice n k d).cache = s.cache := rfl
@[simp] theorem State.queueNotice_lamps (n : NoticeKind) (k : Slot) (d : List Byte) : (s.queueNotice n k d).lamps = s.lamps := rfl
@[simp] theorem State.queueNotice_flash (n : NoticeKind) (k : Slot) (d : List Byte) : (s.queueNotice n k d).flash = s.flash := rfl
@[simp] theorem State.queueNotice_claims (n : NoticeKind) (k : Slot) (d : List Byte) : (s.queueNotice n k d).claims = s.claims := rfl
@[simp] theorem State.queueNotice_settings (n : NoticeKind) (k : Slot) (d : List Byte) : (s.queueNotice n k d).settings = s.settings := rfl
@[simp] theorem State.queueNotice_setup (n : NoticeKind) (k : Slot) (d : List Byte) : (s.queueNotice n k d).setup = s.setup := rfl
@[simp] theorem State.queueNotice_counters (n : NoticeKind) (k : Slot) (d : List Byte) : (s.queueNotice n k d).counters = s.counters := rfl
@[simp] theorem State.queueNotice_pending (n : NoticeKind) (k : Slot) (d : List Byte) : (s.queueNotice n k d).pending = s.pending := rfl
@[simp] theorem State.queueNotice_inlets (n : NoticeKind) (k : Slot) (d : List Byte) : (s.queueNotice n k d).inlets = s.inlets := State.setMissed_inlets _ _ _
@[simp] theorem State.queueNotice_tallies (n : NoticeKind) (k : Slot) (d : List Byte) : (s.queueNotice n k d).tallies = s.tallies := rfl

@[simp] theorem State.dropNotice_now (k : Slot) : (s.dropNotice k).now = s.now := rfl
@[simp] theorem State.dropNotice_comb (k : Slot) : (s.dropNotice k).comb = s.comb := rfl
@[simp] theorem State.dropNotice_sense (k : Slot) : (s.dropNotice k).sense = s.sense := rfl
@[simp] theorem State.dropNotice_line (k : Slot) : (s.dropNotice k).line = s.line := rfl
@[simp] theorem State.dropNotice_walker (k : Slot) : (s.dropNotice k).walker = s.walker := rfl
@[simp] theorem State.dropNotice_units (k : Slot) : (s.dropNotice k).units = s.units := rfl
@[simp] theorem State.dropNotice_cache (k : Slot) : (s.dropNotice k).cache = s.cache := rfl
@[simp] theorem State.dropNotice_lamps (k : Slot) : (s.dropNotice k).lamps = s.lamps := rfl
@[simp] theorem State.dropNotice_flash (k : Slot) : (s.dropNotice k).flash = s.flash := rfl
@[simp] theorem State.dropNotice_claims (k : Slot) : (s.dropNotice k).claims = s.claims := rfl
@[simp] theorem State.dropNotice_settings (k : Slot) : (s.dropNotice k).settings = s.settings := rfl
@[simp] theorem State.dropNotice_setup (k : Slot) : (s.dropNotice k).setup = s.setup := rfl
@[simp] theorem State.dropNotice_port (k : Slot) : (s.dropNotice k).port = s.port := rfl
@[simp] theorem State.dropNotice_pending (k : Slot) : (s.dropNotice k).pending = s.pending := rfl
@[simp] theorem State.dropNotice_inlets (k : Slot) : (s.dropNotice k).inlets = s.inlets := State.setMissed_inlets _ _ _
@[simp] theorem State.dropNotice_tallies (k : Slot) : (s.dropNotice k).tallies = s.tallies := rfl

@[simp] theorem State.answer_now (e : IntakeEntry) (st : Status) (d : List Byte) (b : Bool) : (s.answer e st d b).now = s.now := rfl
@[simp] theorem State.answer_comb (e : IntakeEntry) (st : Status) (d : List Byte) (b : Bool) : (s.answer e st d b).comb = s.comb := rfl
@[simp] theorem State.answer_sense (e : IntakeEntry) (st : Status) (d : List Byte) (b : Bool) : (s.answer e st d b).sense = s.sense := rfl
@[simp] theorem State.answer_line (e : IntakeEntry) (st : Status) (d : List Byte) (b : Bool) : (s.answer e st d b).line = s.line := rfl
@[simp] theorem State.answer_walker (e : IntakeEntry) (st : Status) (d : List Byte) (b : Bool) : (s.answer e st d b).walker = s.walker := rfl
@[simp] theorem State.answer_units (e : IntakeEntry) (st : Status) (d : List Byte) (b : Bool) : (s.answer e st d b).units = s.units := rfl
@[simp] theorem State.answer_cache (e : IntakeEntry) (st : Status) (d : List Byte) (b : Bool) : (s.answer e st d b).cache = s.cache := rfl
@[simp] theorem State.answer_lamps (e : IntakeEntry) (st : Status) (d : List Byte) (b : Bool) : (s.answer e st d b).lamps = s.lamps := rfl
@[simp] theorem State.answer_flash (e : IntakeEntry) (st : Status) (d : List Byte) (b : Bool) : (s.answer e st d b).flash = s.flash := rfl
@[simp] theorem State.answer_claims (e : IntakeEntry) (st : Status) (d : List Byte) (b : Bool) : (s.answer e st d b).claims = s.claims := rfl
@[simp] theorem State.answer_settings (e : IntakeEntry) (st : Status) (d : List Byte) (b : Bool) : (s.answer e st d b).settings = s.settings := rfl
@[simp] theorem State.answer_setup (e : IntakeEntry) (st : Status) (d : List Byte) (b : Bool) : (s.answer e st d b).setup = s.setup := rfl
@[simp] theorem State.answer_counters (e : IntakeEntry) (st : Status) (d : List Byte) (b : Bool) : (s.answer e st d b).counters = s.counters := rfl
@[simp] theorem State.answer_pending (e : IntakeEntry) (st : Status) (d : List Byte) (b : Bool) : (s.answer e st d b).pending = s.pending := rfl
@[simp] theorem State.answer_inlets (e : IntakeEntry) (st : Status) (d : List Byte) (b : Bool) : (s.answer e st d b).inlets = s.inlets := State.queueResponse_inlets _ _
@[simp] theorem State.answer_tallies (e : IntakeEntry) (st : Status) (d : List Byte) (b : Bool) : (s.answer e st d b).tallies = s.tallies := rfl

@[simp] theorem State.retimeAttach_now : (s.retimeAttach).now = s.now := rfl
@[simp] theorem State.retimeAttach_sense : (s.retimeAttach).sense = s.sense := rfl
@[simp] theorem State.retimeAttach_line : (s.retimeAttach).line = s.line := rfl
@[simp] theorem State.retimeAttach_walker : (s.retimeAttach).walker = s.walker := rfl
@[simp] theorem State.retimeAttach_units : (s.retimeAttach).units = s.units := rfl
@[simp] theorem State.retimeAttach_cache : (s.retimeAttach).cache = s.cache := rfl
@[simp] theorem State.retimeAttach_lamps : (s.retimeAttach).lamps = s.lamps := rfl
@[simp] theorem State.retimeAttach_flash : (s.retimeAttach).flash = s.flash := rfl
@[simp] theorem State.retimeAttach_claims : (s.retimeAttach).claims = s.claims := rfl
@[simp] theorem State.retimeAttach_slots : (s.retimeAttach).slots = s.slots := rfl
@[simp] theorem State.retimeAttach_settings : (s.retimeAttach).settings = s.settings := rfl
@[simp] theorem State.retimeAttach_setup : (s.retimeAttach).setup = s.setup := rfl
@[simp] theorem State.retimeAttach_port : (s.retimeAttach).port = s.port := rfl
@[simp] theorem State.retimeAttach_counters : (s.retimeAttach).counters = s.counters := rfl
@[simp] theorem State.retimeAttach_pending : (s.retimeAttach).pending = s.pending := rfl
@[simp] theorem State.retimeAttach_inlets : (s.retimeAttach).inlets = s.inlets := rfl
@[simp] theorem State.retimeAttach_tallies : (s.retimeAttach).tallies = s.tallies := rfl

@[simp] theorem State.retimePark_now : (s.retimePark).now = s.now := rfl
@[simp] theorem State.retimePark_sense : (s.retimePark).sense = s.sense := rfl
@[simp] theorem State.retimePark_line : (s.retimePark).line = s.line := rfl
@[simp] theorem State.retimePark_walker : (s.retimePark).walker = s.walker := rfl
@[simp] theorem State.retimePark_units : (s.retimePark).units = s.units := rfl
@[simp] theorem State.retimePark_cache : (s.retimePark).cache = s.cache := rfl
@[simp] theorem State.retimePark_lamps : (s.retimePark).lamps = s.lamps := rfl
@[simp] theorem State.retimePark_flash : (s.retimePark).flash = s.flash := rfl
@[simp] theorem State.retimePark_claims : (s.retimePark).claims = s.claims := rfl
@[simp] theorem State.retimePark_slots : (s.retimePark).slots = s.slots := rfl
@[simp] theorem State.retimePark_settings : (s.retimePark).settings = s.settings := rfl
@[simp] theorem State.retimePark_setup : (s.retimePark).setup = s.setup := rfl
@[simp] theorem State.retimePark_port : (s.retimePark).port = s.port := rfl
@[simp] theorem State.retimePark_counters : (s.retimePark).counters = s.counters := rfl
@[simp] theorem State.retimePark_pending : (s.retimePark).pending = s.pending := rfl
@[simp] theorem State.retimePark_inlets : (s.retimePark).inlets = s.inlets := rfl
@[simp] theorem State.retimePark_tallies : (s.retimePark).tallies = s.tallies := rfl

@[simp] theorem State.enter_now (c : CombState) : (s.enter c).now = s.now := rfl
@[simp] theorem State.enter_sense (c : CombState) : (s.enter c).sense = s.sense := rfl
@[simp] theorem State.enter_line (c : CombState) : (s.enter c).line = s.line := rfl
@[simp] theorem State.enter_walker (c : CombState) : (s.enter c).walker = s.walker := rfl
@[simp] theorem State.enter_units (c : CombState) : (s.enter c).units = s.units := rfl
@[simp] theorem State.enter_cache (c : CombState) : (s.enter c).cache = s.cache := rfl
@[simp] theorem State.enter_lamps (c : CombState) : (s.enter c).lamps = s.lamps := rfl
@[simp] theorem State.enter_flash (c : CombState) : (s.enter c).flash = s.flash := rfl
@[simp] theorem State.enter_claims (c : CombState) : (s.enter c).claims = s.claims := rfl
@[simp] theorem State.enter_slots (c : CombState) : (s.enter c).slots = s.slots := rfl
@[simp] theorem State.enter_settings (c : CombState) : (s.enter c).settings = s.settings := rfl
@[simp] theorem State.enter_setup (c : CombState) : (s.enter c).setup = s.setup := rfl
@[simp] theorem State.enter_port (c : CombState) : (s.enter c).port = s.port := rfl
@[simp] theorem State.enter_counters (c : CombState) : (s.enter c).counters = s.counters := rfl
@[simp] theorem State.enter_pending (c : CombState) : (s.enter c).pending = s.pending := rfl
@[simp] theorem State.enter_inlets (c : CombState) : (s.enter c).inlets = s.inlets := rfl
@[simp] theorem State.enter_tallies (c : CombState) : (s.enter c).tallies = s.tallies := rfl

@[simp] theorem State.refreshUnsettled_now : (s.refreshUnsettled).now = s.now := rfl
@[simp] theorem State.refreshUnsettled_sense : (s.refreshUnsettled).sense = s.sense := rfl
@[simp] theorem State.refreshUnsettled_line : (s.refreshUnsettled).line = s.line := rfl
@[simp] theorem State.refreshUnsettled_walker : (s.refreshUnsettled).walker = s.walker := rfl
@[simp] theorem State.refreshUnsettled_units : (s.refreshUnsettled).units = s.units := rfl
@[simp] theorem State.refreshUnsettled_cache : (s.refreshUnsettled).cache = s.cache := rfl
@[simp] theorem State.refreshUnsettled_lamps : (s.refreshUnsettled).lamps = s.lamps := rfl
@[simp] theorem State.refreshUnsettled_flash : (s.refreshUnsettled).flash = s.flash := rfl
@[simp] theorem State.refreshUnsettled_claims : (s.refreshUnsettled).claims = s.claims := rfl
@[simp] theorem State.refreshUnsettled_slots : (s.refreshUnsettled).slots = s.slots := rfl
@[simp] theorem State.refreshUnsettled_settings : (s.refreshUnsettled).settings = s.settings := rfl
@[simp] theorem State.refreshUnsettled_setup : (s.refreshUnsettled).setup = s.setup := rfl
@[simp] theorem State.refreshUnsettled_port : (s.refreshUnsettled).port = s.port := rfl
@[simp] theorem State.refreshUnsettled_counters : (s.refreshUnsettled).counters = s.counters := rfl
@[simp] theorem State.refreshUnsettled_pending : (s.refreshUnsettled).pending = s.pending := rfl
@[simp] theorem State.refreshUnsettled_inlets : (s.refreshUnsettled).inlets = s.inlets := rfl
@[simp] theorem State.refreshUnsettled_tallies : (s.refreshUnsettled).tallies = s.tallies := rfl

@[simp] theorem State.refreshPassive_now : (s.refreshPassive).now = s.now := rfl
@[simp] theorem State.refreshPassive_sense : (s.refreshPassive).sense = s.sense := rfl
@[simp] theorem State.refreshPassive_line : (s.refreshPassive).line = s.line := rfl
@[simp] theorem State.refreshPassive_walker : (s.refreshPassive).walker = s.walker := rfl
@[simp] theorem State.refreshPassive_units : (s.refreshPassive).units = s.units := rfl
@[simp] theorem State.refreshPassive_cache : (s.refreshPassive).cache = s.cache := rfl
@[simp] theorem State.refreshPassive_lamps : (s.refreshPassive).lamps = s.lamps := rfl
@[simp] theorem State.refreshPassive_flash : (s.refreshPassive).flash = s.flash := rfl
@[simp] theorem State.refreshPassive_claims : (s.refreshPassive).claims = s.claims := rfl
@[simp] theorem State.refreshPassive_slots : (s.refreshPassive).slots = s.slots := rfl
@[simp] theorem State.refreshPassive_settings : (s.refreshPassive).settings = s.settings := rfl
@[simp] theorem State.refreshPassive_setup : (s.refreshPassive).setup = s.setup := rfl
@[simp] theorem State.refreshPassive_port : (s.refreshPassive).port = s.port := rfl
@[simp] theorem State.refreshPassive_counters : (s.refreshPassive).counters = s.counters := rfl
@[simp] theorem State.refreshPassive_pending : (s.refreshPassive).pending = s.pending := rfl
@[simp] theorem State.refreshPassive_inlets : (s.refreshPassive).inlets = s.inlets := rfl
@[simp] theorem State.refreshPassive_tallies : (s.refreshPassive).tallies = s.tallies := rfl

@[simp] theorem State.setChainFull_now (b : Bool) : (s.setChainFull b).now = s.now := rfl
@[simp] theorem State.setChainFull_sense (b : Bool) : (s.setChainFull b).sense = s.sense := rfl
@[simp] theorem State.setChainFull_line (b : Bool) : (s.setChainFull b).line = s.line := rfl
@[simp] theorem State.setChainFull_walker (b : Bool) : (s.setChainFull b).walker = s.walker := rfl
@[simp] theorem State.setChainFull_units (b : Bool) : (s.setChainFull b).units = s.units := rfl
@[simp] theorem State.setChainFull_cache (b : Bool) : (s.setChainFull b).cache = s.cache := rfl
@[simp] theorem State.setChainFull_lamps (b : Bool) : (s.setChainFull b).lamps = s.lamps := rfl
@[simp] theorem State.setChainFull_flash (b : Bool) : (s.setChainFull b).flash = s.flash := rfl
@[simp] theorem State.setChainFull_claims (b : Bool) : (s.setChainFull b).claims = s.claims := rfl
@[simp] theorem State.setChainFull_slots (b : Bool) : (s.setChainFull b).slots = s.slots := rfl
@[simp] theorem State.setChainFull_settings (b : Bool) : (s.setChainFull b).settings = s.settings := rfl
@[simp] theorem State.setChainFull_setup (b : Bool) : (s.setChainFull b).setup = s.setup := rfl
@[simp] theorem State.setChainFull_port (b : Bool) : (s.setChainFull b).port = s.port := rfl
@[simp] theorem State.setChainFull_counters (b : Bool) : (s.setChainFull b).counters = s.counters := rfl
@[simp] theorem State.setChainFull_pending (b : Bool) : (s.setChainFull b).pending = s.pending := rfl
@[simp] theorem State.setChainFull_inlets (b : Bool) : (s.setChainFull b).inlets = s.inlets := rfl
@[simp] theorem State.setChainFull_tallies (b : Bool) : (s.setChainFull b).tallies = s.tallies := rfl

@[simp] theorem State.setIdentityClash_now (b : Bool) : (s.setIdentityClash b).now = s.now := rfl
@[simp] theorem State.setIdentityClash_sense (b : Bool) : (s.setIdentityClash b).sense = s.sense := rfl
@[simp] theorem State.setIdentityClash_line (b : Bool) : (s.setIdentityClash b).line = s.line := rfl
@[simp] theorem State.setIdentityClash_walker (b : Bool) : (s.setIdentityClash b).walker = s.walker := rfl
@[simp] theorem State.setIdentityClash_units (b : Bool) : (s.setIdentityClash b).units = s.units := rfl
@[simp] theorem State.setIdentityClash_cache (b : Bool) : (s.setIdentityClash b).cache = s.cache := rfl
@[simp] theorem State.setIdentityClash_lamps (b : Bool) : (s.setIdentityClash b).lamps = s.lamps := rfl
@[simp] theorem State.setIdentityClash_flash (b : Bool) : (s.setIdentityClash b).flash = s.flash := rfl
@[simp] theorem State.setIdentityClash_claims (b : Bool) : (s.setIdentityClash b).claims = s.claims := rfl
@[simp] theorem State.setIdentityClash_slots (b : Bool) : (s.setIdentityClash b).slots = s.slots := rfl
@[simp] theorem State.setIdentityClash_settings (b : Bool) : (s.setIdentityClash b).settings = s.settings := rfl
@[simp] theorem State.setIdentityClash_setup (b : Bool) : (s.setIdentityClash b).setup = s.setup := rfl
@[simp] theorem State.setIdentityClash_port (b : Bool) : (s.setIdentityClash b).port = s.port := rfl
@[simp] theorem State.setIdentityClash_counters (b : Bool) : (s.setIdentityClash b).counters = s.counters := rfl
@[simp] theorem State.setIdentityClash_pending (b : Bool) : (s.setIdentityClash b).pending = s.pending := rfl
@[simp] theorem State.setIdentityClash_inlets (b : Bool) : (s.setIdentityClash b).inlets = s.inlets := rfl
@[simp] theorem State.setIdentityClash_tallies (b : Bool) : (s.setIdentityClash b).tallies = s.tallies := rfl

@[simp] theorem State.modifyUnit_now (p : Nat) (f : UnitRecord → UnitRecord) : (s.modifyUnit p f).now = s.now := rfl
@[simp] theorem State.modifyUnit_comb (p : Nat) (f : UnitRecord → UnitRecord) : (s.modifyUnit p f).comb = s.comb := rfl
@[simp] theorem State.modifyUnit_sense (p : Nat) (f : UnitRecord → UnitRecord) : (s.modifyUnit p f).sense = s.sense := rfl
@[simp] theorem State.modifyUnit_line (p : Nat) (f : UnitRecord → UnitRecord) : (s.modifyUnit p f).line = s.line := rfl
@[simp] theorem State.modifyUnit_walker (p : Nat) (f : UnitRecord → UnitRecord) : (s.modifyUnit p f).walker = s.walker := rfl
@[simp] theorem State.modifyUnit_cache (p : Nat) (f : UnitRecord → UnitRecord) : (s.modifyUnit p f).cache = s.cache := rfl
@[simp] theorem State.modifyUnit_lamps (p : Nat) (f : UnitRecord → UnitRecord) : (s.modifyUnit p f).lamps = s.lamps := rfl
@[simp] theorem State.modifyUnit_flash (p : Nat) (f : UnitRecord → UnitRecord) : (s.modifyUnit p f).flash = s.flash := rfl
@[simp] theorem State.modifyUnit_claims (p : Nat) (f : UnitRecord → UnitRecord) : (s.modifyUnit p f).claims = s.claims := rfl
@[simp] theorem State.modifyUnit_slots (p : Nat) (f : UnitRecord → UnitRecord) : (s.modifyUnit p f).slots = s.slots := rfl
@[simp] theorem State.modifyUnit_settings (p : Nat) (f : UnitRecord → UnitRecord) : (s.modifyUnit p f).settings = s.settings := rfl
@[simp] theorem State.modifyUnit_setup (p : Nat) (f : UnitRecord → UnitRecord) : (s.modifyUnit p f).setup = s.setup := rfl
@[simp] theorem State.modifyUnit_port (p : Nat) (f : UnitRecord → UnitRecord) : (s.modifyUnit p f).port = s.port := rfl
@[simp] theorem State.modifyUnit_counters (p : Nat) (f : UnitRecord → UnitRecord) : (s.modifyUnit p f).counters = s.counters := rfl
@[simp] theorem State.modifyUnit_pending (p : Nat) (f : UnitRecord → UnitRecord) : (s.modifyUnit p f).pending = s.pending := rfl
@[simp] theorem State.modifyUnit_inlets (p : Nat) (f : UnitRecord → UnitRecord) : (s.modifyUnit p f).inlets = s.inlets := rfl
@[simp] theorem State.modifyUnit_tallies (p : Nat) (f : UnitRecord → UnitRecord) : (s.modifyUnit p f).tallies = s.tallies := rfl

@[simp] theorem State.modifyEntry_now (p i : Nat) (f : FunctionEntry → FunctionEntry) : (s.modifyEntry p i f).now = s.now := rfl
@[simp] theorem State.modifyEntry_comb (p i : Nat) (f : FunctionEntry → FunctionEntry) : (s.modifyEntry p i f).comb = s.comb := rfl
@[simp] theorem State.modifyEntry_sense (p i : Nat) (f : FunctionEntry → FunctionEntry) : (s.modifyEntry p i f).sense = s.sense := rfl
@[simp] theorem State.modifyEntry_line (p i : Nat) (f : FunctionEntry → FunctionEntry) : (s.modifyEntry p i f).line = s.line := rfl
@[simp] theorem State.modifyEntry_walker (p i : Nat) (f : FunctionEntry → FunctionEntry) : (s.modifyEntry p i f).walker = s.walker := rfl
@[simp] theorem State.modifyEntry_cache (p i : Nat) (f : FunctionEntry → FunctionEntry) : (s.modifyEntry p i f).cache = s.cache := rfl
@[simp] theorem State.modifyEntry_lamps (p i : Nat) (f : FunctionEntry → FunctionEntry) : (s.modifyEntry p i f).lamps = s.lamps := rfl
@[simp] theorem State.modifyEntry_flash (p i : Nat) (f : FunctionEntry → FunctionEntry) : (s.modifyEntry p i f).flash = s.flash := rfl
@[simp] theorem State.modifyEntry_claims (p i : Nat) (f : FunctionEntry → FunctionEntry) : (s.modifyEntry p i f).claims = s.claims := rfl
@[simp] theorem State.modifyEntry_slots (p i : Nat) (f : FunctionEntry → FunctionEntry) : (s.modifyEntry p i f).slots = s.slots := rfl
@[simp] theorem State.modifyEntry_settings (p i : Nat) (f : FunctionEntry → FunctionEntry) : (s.modifyEntry p i f).settings = s.settings := rfl
@[simp] theorem State.modifyEntry_setup (p i : Nat) (f : FunctionEntry → FunctionEntry) : (s.modifyEntry p i f).setup = s.setup := rfl
@[simp] theorem State.modifyEntry_port (p i : Nat) (f : FunctionEntry → FunctionEntry) : (s.modifyEntry p i f).port = s.port := rfl
@[simp] theorem State.modifyEntry_counters (p i : Nat) (f : FunctionEntry → FunctionEntry) : (s.modifyEntry p i f).counters = s.counters := rfl
@[simp] theorem State.modifyEntry_pending (p i : Nat) (f : FunctionEntry → FunctionEntry) : (s.modifyEntry p i f).pending = s.pending := rfl
@[simp] theorem State.modifyEntry_inlets (p i : Nat) (f : FunctionEntry → FunctionEntry) : (s.modifyEntry p i f).inlets = s.inlets := rfl
@[simp] theorem State.modifyEntry_tallies (p i : Nat) (f : FunctionEntry → FunctionEntry) : (s.modifyEntry p i f).tallies = s.tallies := rfl

@[simp] theorem State.uncache_now (w : Word32) : (s.uncache w).now = s.now := rfl
@[simp] theorem State.uncache_comb (w : Word32) : (s.uncache w).comb = s.comb := rfl
@[simp] theorem State.uncache_sense (w : Word32) : (s.uncache w).sense = s.sense := rfl
@[simp] theorem State.uncache_line (w : Word32) : (s.uncache w).line = s.line := rfl
@[simp] theorem State.uncache_walker (w : Word32) : (s.uncache w).walker = s.walker := rfl
@[simp] theorem State.uncache_units (w : Word32) : (s.uncache w).units = s.units := rfl
@[simp] theorem State.uncache_lamps (w : Word32) : (s.uncache w).lamps = s.lamps := rfl
@[simp] theorem State.uncache_flash (w : Word32) : (s.uncache w).flash = s.flash := rfl
@[simp] theorem State.uncache_claims (w : Word32) : (s.uncache w).claims = s.claims := rfl
@[simp] theorem State.uncache_slots (w : Word32) : (s.uncache w).slots = s.slots := rfl
@[simp] theorem State.uncache_settings (w : Word32) : (s.uncache w).settings = s.settings := rfl
@[simp] theorem State.uncache_setup (w : Word32) : (s.uncache w).setup = s.setup := rfl
@[simp] theorem State.uncache_port (w : Word32) : (s.uncache w).port = s.port := rfl
@[simp] theorem State.uncache_counters (w : Word32) : (s.uncache w).counters = s.counters := rfl
@[simp] theorem State.uncache_pending (w : Word32) : (s.uncache w).pending = s.pending := rfl
@[simp] theorem State.uncache_inlets (w : Word32) : (s.uncache w).inlets = s.inlets := rfl
@[simp] theorem State.uncache_tallies (w : Word32) : (s.uncache w).tallies = s.tallies := rfl

@[simp] theorem State.putClaim_now (c : Claim) : (s.putClaim c).now = s.now := rfl
@[simp] theorem State.putClaim_comb (c : Claim) : (s.putClaim c).comb = s.comb := rfl
@[simp] theorem State.putClaim_sense (c : Claim) : (s.putClaim c).sense = s.sense := rfl
@[simp] theorem State.putClaim_line (c : Claim) : (s.putClaim c).line = s.line := rfl
@[simp] theorem State.putClaim_walker (c : Claim) : (s.putClaim c).walker = s.walker := rfl
@[simp] theorem State.putClaim_units (c : Claim) : (s.putClaim c).units = s.units := rfl
@[simp] theorem State.putClaim_cache (c : Claim) : (s.putClaim c).cache = s.cache := rfl
@[simp] theorem State.putClaim_lamps (c : Claim) : (s.putClaim c).lamps = s.lamps := rfl
@[simp] theorem State.putClaim_flash (c : Claim) : (s.putClaim c).flash = s.flash := rfl
@[simp] theorem State.putClaim_slots (c : Claim) : (s.putClaim c).slots = s.slots := rfl
@[simp] theorem State.putClaim_settings (c : Claim) : (s.putClaim c).settings = s.settings := rfl
@[simp] theorem State.putClaim_setup (c : Claim) : (s.putClaim c).setup = s.setup := rfl
@[simp] theorem State.putClaim_port (c : Claim) : (s.putClaim c).port = s.port := rfl
@[simp] theorem State.putClaim_counters (c : Claim) : (s.putClaim c).counters = s.counters := rfl
@[simp] theorem State.putClaim_pending (c : Claim) : (s.putClaim c).pending = s.pending := rfl
@[simp] theorem State.putClaim_inlets (c : Claim) : (s.putClaim c).inlets = s.inlets := rfl
@[simp] theorem State.putClaim_tallies (c : Claim) : (s.putClaim c).tallies = s.tallies := rfl

@[simp] theorem State.removeClaim_now (p i : Nat) : (s.removeClaim p i).now = s.now := rfl
@[simp] theorem State.removeClaim_comb (p i : Nat) : (s.removeClaim p i).comb = s.comb := rfl
@[simp] theorem State.removeClaim_sense (p i : Nat) : (s.removeClaim p i).sense = s.sense := rfl
@[simp] theorem State.removeClaim_line (p i : Nat) : (s.removeClaim p i).line = s.line := rfl
@[simp] theorem State.removeClaim_walker (p i : Nat) : (s.removeClaim p i).walker = s.walker := rfl
@[simp] theorem State.removeClaim_units (p i : Nat) : (s.removeClaim p i).units = s.units := rfl
@[simp] theorem State.removeClaim_cache (p i : Nat) : (s.removeClaim p i).cache = s.cache := rfl
@[simp] theorem State.removeClaim_lamps (p i : Nat) : (s.removeClaim p i).lamps = s.lamps := rfl
@[simp] theorem State.removeClaim_flash (p i : Nat) : (s.removeClaim p i).flash = s.flash := rfl
@[simp] theorem State.removeClaim_slots (p i : Nat) : (s.removeClaim p i).slots = s.slots := rfl
@[simp] theorem State.removeClaim_settings (p i : Nat) : (s.removeClaim p i).settings = s.settings := rfl
@[simp] theorem State.removeClaim_setup (p i : Nat) : (s.removeClaim p i).setup = s.setup := rfl
@[simp] theorem State.removeClaim_port (p i : Nat) : (s.removeClaim p i).port = s.port := rfl
@[simp] theorem State.removeClaim_counters (p i : Nat) : (s.removeClaim p i).counters = s.counters := rfl
@[simp] theorem State.removeClaim_pending (p i : Nat) : (s.removeClaim p i).pending = s.pending := rfl
@[simp] theorem State.removeClaim_inlets (p i : Nat) : (s.removeClaim p i).inlets = s.inlets := rfl
@[simp] theorem State.removeClaim_tallies (p i : Nat) : (s.removeClaim p i).tallies = s.tallies := rfl

@[simp] theorem State.resolveSwitches_now (b : Bool) : (s.resolveSwitches b).now = s.now := rfl
@[simp] theorem State.resolveSwitches_comb (b : Bool) : (s.resolveSwitches b).comb = s.comb := rfl
@[simp] theorem State.resolveSwitches_sense (b : Bool) : (s.resolveSwitches b).sense = s.sense := rfl
@[simp] theorem State.resolveSwitches_line (b : Bool) : (s.resolveSwitches b).line = s.line := rfl
@[simp] theorem State.resolveSwitches_walker (b : Bool) : (s.resolveSwitches b).walker = s.walker := rfl
@[simp] theorem State.resolveSwitches_units (b : Bool) : (s.resolveSwitches b).units = s.units := rfl
@[simp] theorem State.resolveSwitches_cache (b : Bool) : (s.resolveSwitches b).cache = s.cache := rfl
@[simp] theorem State.resolveSwitches_flash (b : Bool) : (s.resolveSwitches b).flash = s.flash := rfl
@[simp] theorem State.resolveSwitches_claims (b : Bool) : (s.resolveSwitches b).claims = s.claims := rfl
@[simp] theorem State.resolveSwitches_slots (b : Bool) : (s.resolveSwitches b).slots = s.slots := rfl
@[simp] theorem State.resolveSwitches_settings (b : Bool) : (s.resolveSwitches b).settings = s.settings := rfl
@[simp] theorem State.resolveSwitches_setup (b : Bool) : (s.resolveSwitches b).setup = s.setup := rfl
@[simp] theorem State.resolveSwitches_port (b : Bool) : (s.resolveSwitches b).port = s.port := rfl
@[simp] theorem State.resolveSwitches_counters (b : Bool) : (s.resolveSwitches b).counters = s.counters := rfl
@[simp] theorem State.resolveSwitches_pending (b : Bool) : (s.resolveSwitches b).pending = s.pending := rfl
@[simp] theorem State.resolveSwitches_inlets (b : Bool) : (s.resolveSwitches b).inlets = s.inlets := rfl
@[simp] theorem State.resolveSwitches_tallies (b : Bool) : (s.resolveSwitches b).tallies = s.tallies := rfl

@[simp] theorem State.changeRequests_now (k : PerSlot SlotState) : (s.changeRequests k).now = s.now := rfl
@[simp] theorem State.changeRequests_comb (k : PerSlot SlotState) : (s.changeRequests k).comb = s.comb := rfl
@[simp] theorem State.changeRequests_sense (k : PerSlot SlotState) : (s.changeRequests k).sense = s.sense := rfl
@[simp] theorem State.changeRequests_line (k : PerSlot SlotState) : (s.changeRequests k).line = s.line := rfl
@[simp] theorem State.changeRequests_walker (k : PerSlot SlotState) : (s.changeRequests k).walker = s.walker := rfl
@[simp] theorem State.changeRequests_units (k : PerSlot SlotState) : (s.changeRequests k).units = s.units := rfl
@[simp] theorem State.changeRequests_cache (k : PerSlot SlotState) : (s.changeRequests k).cache = s.cache := rfl
@[simp] theorem State.changeRequests_claims (k : PerSlot SlotState) : (s.changeRequests k).claims = s.claims := rfl
@[simp] theorem State.changeRequests_settings (k : PerSlot SlotState) : (s.changeRequests k).settings = s.settings := rfl
@[simp] theorem State.changeRequests_setup (k : PerSlot SlotState) : (s.changeRequests k).setup = s.setup := rfl
@[simp] theorem State.changeRequests_port (k : PerSlot SlotState) : (s.changeRequests k).port = s.port := rfl
@[simp] theorem State.changeRequests_counters (k : PerSlot SlotState) : (s.changeRequests k).counters = s.counters := rfl
@[simp] theorem State.changeRequests_pending (k : PerSlot SlotState) : (s.changeRequests k).pending = s.pending := rfl
@[simp] theorem State.changeRequests_tallies (k : PerSlot SlotState) : (s.changeRequests k).tallies = s.tallies := rfl

@[simp] theorem State.changeSlot_now (k : Slot) (x : SlotState) : (s.changeSlot k x).now = s.now := rfl
@[simp] theorem State.changeSlot_comb (k : Slot) (x : SlotState) : (s.changeSlot k x).comb = s.comb := rfl
@[simp] theorem State.changeSlot_sense (k : Slot) (x : SlotState) : (s.changeSlot k x).sense = s.sense := rfl
@[simp] theorem State.changeSlot_line (k : Slot) (x : SlotState) : (s.changeSlot k x).line = s.line := rfl
@[simp] theorem State.changeSlot_walker (k : Slot) (x : SlotState) : (s.changeSlot k x).walker = s.walker := rfl
@[simp] theorem State.changeSlot_units (k : Slot) (x : SlotState) : (s.changeSlot k x).units = s.units := rfl
@[simp] theorem State.changeSlot_cache (k : Slot) (x : SlotState) : (s.changeSlot k x).cache = s.cache := rfl
@[simp] theorem State.changeSlot_claims (k : Slot) (x : SlotState) : (s.changeSlot k x).claims = s.claims := rfl
@[simp] theorem State.changeSlot_settings (k : Slot) (x : SlotState) : (s.changeSlot k x).settings = s.settings := rfl
@[simp] theorem State.changeSlot_setup (k : Slot) (x : SlotState) : (s.changeSlot k x).setup = s.setup := rfl
@[simp] theorem State.changeSlot_port (k : Slot) (x : SlotState) : (s.changeSlot k x).port = s.port := rfl
@[simp] theorem State.changeSlot_counters (k : Slot) (x : SlotState) : (s.changeSlot k x).counters = s.counters := rfl
@[simp] theorem State.changeSlot_pending (k : Slot) (x : SlotState) : (s.changeSlot k x).pending = s.pending := rfl
@[simp] theorem State.changeSlot_tallies (k : Slot) (x : SlotState) : (s.changeSlot k x).tallies = s.tallies := rfl

@[simp] theorem State.reduceSet_now (k : Slot) (w : Word32) : (s.reduceSet k w).now = s.now := rfl
@[simp] theorem State.reduceSet_comb (k : Slot) (w : Word32) : (s.reduceSet k w).comb = s.comb := rfl
@[simp] theorem State.reduceSet_sense (k : Slot) (w : Word32) : (s.reduceSet k w).sense = s.sense := rfl
@[simp] theorem State.reduceSet_line (k : Slot) (w : Word32) : (s.reduceSet k w).line = s.line := rfl
@[simp] theorem State.reduceSet_walker (k : Slot) (w : Word32) : (s.reduceSet k w).walker = s.walker := rfl
@[simp] theorem State.reduceSet_units (k : Slot) (w : Word32) : (s.reduceSet k w).units = s.units := rfl
@[simp] theorem State.reduceSet_cache (k : Slot) (w : Word32) : (s.reduceSet k w).cache = s.cache := rfl
@[simp] theorem State.reduceSet_claims (k : Slot) (w : Word32) : (s.reduceSet k w).claims = s.claims := rfl
@[simp] theorem State.reduceSet_settings (k : Slot) (w : Word32) : (s.reduceSet k w).settings = s.settings := rfl
@[simp] theorem State.reduceSet_setup (k : Slot) (w : Word32) : (s.reduceSet k w).setup = s.setup := rfl
@[simp] theorem State.reduceSet_port (k : Slot) (w : Word32) : (s.reduceSet k w).port = s.port := rfl
@[simp] theorem State.reduceSet_counters (k : Slot) (w : Word32) : (s.reduceSet k w).counters = s.counters := rfl
@[simp] theorem State.reduceSet_pending (k : Slot) (w : Word32) : (s.reduceSet k w).pending = s.pending := rfl
@[simp] theorem State.reduceSet_tallies (k : Slot) (w : Word32) : (s.reduceSet k w).tallies = s.tallies := rfl

@[simp] theorem State.senseLines_now (b : Byte) : (s.senseLines b).now = s.now := rfl
@[simp] theorem State.senseLines_comb (b : Byte) : (s.senseLines b).comb = s.comb := rfl
@[simp] theorem State.senseLines_sense (b : Byte) : (s.senseLines b).sense = s.sense := rfl
@[simp] theorem State.senseLines_line (b : Byte) : (s.senseLines b).line = s.line := rfl
@[simp] theorem State.senseLines_walker (b : Byte) : (s.senseLines b).walker = s.walker := rfl
@[simp] theorem State.senseLines_units (b : Byte) : (s.senseLines b).units = s.units := rfl
@[simp] theorem State.senseLines_cache (b : Byte) : (s.senseLines b).cache = s.cache := rfl
@[simp] theorem State.senseLines_flash (b : Byte) : (s.senseLines b).flash = s.flash := rfl
@[simp] theorem State.senseLines_claims (b : Byte) : (s.senseLines b).claims = s.claims := rfl
@[simp] theorem State.senseLines_slots (b : Byte) : (s.senseLines b).slots = s.slots := rfl
@[simp] theorem State.senseLines_settings (b : Byte) : (s.senseLines b).settings = s.settings := rfl
@[simp] theorem State.senseLines_setup (b : Byte) : (s.senseLines b).setup = s.setup := rfl
@[simp] theorem State.senseLines_port (b : Byte) : (s.senseLines b).port = s.port := rfl
@[simp] theorem State.senseLines_counters (b : Byte) : (s.senseLines b).counters = s.counters := rfl
@[simp] theorem State.senseLines_pending (b : Byte) : (s.senseLines b).pending = s.pending := rfl
@[simp] theorem State.senseLines_inlets (b : Byte) : (s.senseLines b).inlets = s.inlets := rfl
@[simp] theorem State.senseLines_tallies (b : Byte) : (s.senseLines b).tallies = s.tallies := rfl

@[simp] theorem State.clearAgreement_now (p : Line → Bool) : (s.clearAgreement p).now = s.now := rfl
@[simp] theorem State.clearAgreement_comb (p : Line → Bool) : (s.clearAgreement p).comb = s.comb := rfl
@[simp] theorem State.clearAgreement_sense (p : Line → Bool) : (s.clearAgreement p).sense = s.sense := rfl
@[simp] theorem State.clearAgreement_line (p : Line → Bool) : (s.clearAgreement p).line = s.line := rfl
@[simp] theorem State.clearAgreement_walker (p : Line → Bool) : (s.clearAgreement p).walker = s.walker := rfl
@[simp] theorem State.clearAgreement_units (p : Line → Bool) : (s.clearAgreement p).units = s.units := rfl
@[simp] theorem State.clearAgreement_cache (p : Line → Bool) : (s.clearAgreement p).cache = s.cache := rfl
@[simp] theorem State.clearAgreement_flash (p : Line → Bool) : (s.clearAgreement p).flash = s.flash := rfl
@[simp] theorem State.clearAgreement_claims (p : Line → Bool) : (s.clearAgreement p).claims = s.claims := rfl
@[simp] theorem State.clearAgreement_slots (p : Line → Bool) : (s.clearAgreement p).slots = s.slots := rfl
@[simp] theorem State.clearAgreement_settings (p : Line → Bool) : (s.clearAgreement p).settings = s.settings := rfl
@[simp] theorem State.clearAgreement_setup (p : Line → Bool) : (s.clearAgreement p).setup = s.setup := rfl
@[simp] theorem State.clearAgreement_port (p : Line → Bool) : (s.clearAgreement p).port = s.port := rfl
@[simp] theorem State.clearAgreement_counters (p : Line → Bool) : (s.clearAgreement p).counters = s.counters := rfl
@[simp] theorem State.clearAgreement_pending (p : Line → Bool) : (s.clearAgreement p).pending = s.pending := rfl
@[simp] theorem State.clearAgreement_inlets (p : Line → Bool) : (s.clearAgreement p).inlets = s.inlets := rfl
@[simp] theorem State.clearAgreement_tallies (p : Line → Bool) : (s.clearAgreement p).tallies = s.tallies := rfl

@[simp] theorem State.modifyLine_now (l : Line) (f : LampLine → LampLine) : (s.modifyLine l f).now = s.now := rfl
@[simp] theorem State.modifyLine_comb (l : Line) (f : LampLine → LampLine) : (s.modifyLine l f).comb = s.comb := rfl
@[simp] theorem State.modifyLine_sense (l : Line) (f : LampLine → LampLine) : (s.modifyLine l f).sense = s.sense := rfl
@[simp] theorem State.modifyLine_line (l : Line) (f : LampLine → LampLine) : (s.modifyLine l f).line = s.line := rfl
@[simp] theorem State.modifyLine_walker (l : Line) (f : LampLine → LampLine) : (s.modifyLine l f).walker = s.walker := rfl
@[simp] theorem State.modifyLine_units (l : Line) (f : LampLine → LampLine) : (s.modifyLine l f).units = s.units := rfl
@[simp] theorem State.modifyLine_cache (l : Line) (f : LampLine → LampLine) : (s.modifyLine l f).cache = s.cache := rfl
@[simp] theorem State.modifyLine_flash (l : Line) (f : LampLine → LampLine) : (s.modifyLine l f).flash = s.flash := rfl
@[simp] theorem State.modifyLine_claims (l : Line) (f : LampLine → LampLine) : (s.modifyLine l f).claims = s.claims := rfl
@[simp] theorem State.modifyLine_slots (l : Line) (f : LampLine → LampLine) : (s.modifyLine l f).slots = s.slots := rfl
@[simp] theorem State.modifyLine_settings (l : Line) (f : LampLine → LampLine) : (s.modifyLine l f).settings = s.settings := rfl
@[simp] theorem State.modifyLine_setup (l : Line) (f : LampLine → LampLine) : (s.modifyLine l f).setup = s.setup := rfl
@[simp] theorem State.modifyLine_port (l : Line) (f : LampLine → LampLine) : (s.modifyLine l f).port = s.port := rfl
@[simp] theorem State.modifyLine_counters (l : Line) (f : LampLine → LampLine) : (s.modifyLine l f).counters = s.counters := rfl
@[simp] theorem State.modifyLine_pending (l : Line) (f : LampLine → LampLine) : (s.modifyLine l f).pending = s.pending := rfl
@[simp] theorem State.modifyLine_inlets (l : Line) (f : LampLine → LampLine) : (s.modifyLine l f).inlets = s.inlets := rfl
@[simp] theorem State.modifyLine_tallies (l : Line) (f : LampLine → LampLine) : (s.modifyLine l f).tallies = s.tallies := rfl

@[simp] theorem State.setPresence_now (l : Line) (p : Presence) : (s.setPresence l p).now = s.now := rfl
@[simp] theorem State.setPresence_comb (l : Line) (p : Presence) : (s.setPresence l p).comb = s.comb := rfl
@[simp] theorem State.setPresence_sense (l : Line) (p : Presence) : (s.setPresence l p).sense = s.sense := rfl
@[simp] theorem State.setPresence_line (l : Line) (p : Presence) : (s.setPresence l p).line = s.line := rfl
@[simp] theorem State.setPresence_walker (l : Line) (p : Presence) : (s.setPresence l p).walker = s.walker := rfl
@[simp] theorem State.setPresence_units (l : Line) (p : Presence) : (s.setPresence l p).units = s.units := rfl
@[simp] theorem State.setPresence_cache (l : Line) (p : Presence) : (s.setPresence l p).cache = s.cache := rfl
@[simp] theorem State.setPresence_flash (l : Line) (p : Presence) : (s.setPresence l p).flash = s.flash := rfl
@[simp] theorem State.setPresence_claims (l : Line) (p : Presence) : (s.setPresence l p).claims = s.claims := rfl
@[simp] theorem State.setPresence_slots (l : Line) (p : Presence) : (s.setPresence l p).slots = s.slots := rfl
@[simp] theorem State.setPresence_settings (l : Line) (p : Presence) : (s.setPresence l p).settings = s.settings := rfl
@[simp] theorem State.setPresence_setup (l : Line) (p : Presence) : (s.setPresence l p).setup = s.setup := rfl
@[simp] theorem State.setPresence_port (l : Line) (p : Presence) : (s.setPresence l p).port = s.port := rfl
@[simp] theorem State.setPresence_counters (l : Line) (p : Presence) : (s.setPresence l p).counters = s.counters := rfl
@[simp] theorem State.setPresence_pending (l : Line) (p : Presence) : (s.setPresence l p).pending = s.pending := rfl
@[simp] theorem State.setPresence_inlets (l : Line) (p : Presence) : (s.setPresence l p).inlets = s.inlets := rfl
@[simp] theorem State.setPresence_tallies (l : Line) (p : Presence) : (s.setPresence l p).tallies = s.tallies := rfl

@[simp] theorem State.endOnPhase_now : (s.endOnPhase).now = s.now := rfl
@[simp] theorem State.endOnPhase_comb : (s.endOnPhase).comb = s.comb := rfl
@[simp] theorem State.endOnPhase_sense : (s.endOnPhase).sense = s.sense := rfl
@[simp] theorem State.endOnPhase_line : (s.endOnPhase).line = s.line := rfl
@[simp] theorem State.endOnPhase_walker : (s.endOnPhase).walker = s.walker := rfl
@[simp] theorem State.endOnPhase_units : (s.endOnPhase).units = s.units := rfl
@[simp] theorem State.endOnPhase_cache : (s.endOnPhase).cache = s.cache := rfl
@[simp] theorem State.endOnPhase_flash : (s.endOnPhase).flash = s.flash := rfl
@[simp] theorem State.endOnPhase_claims : (s.endOnPhase).claims = s.claims := rfl
@[simp] theorem State.endOnPhase_slots : (s.endOnPhase).slots = s.slots := rfl
@[simp] theorem State.endOnPhase_settings : (s.endOnPhase).settings = s.settings := rfl
@[simp] theorem State.endOnPhase_setup : (s.endOnPhase).setup = s.setup := rfl
@[simp] theorem State.endOnPhase_port : (s.endOnPhase).port = s.port := rfl
@[simp] theorem State.endOnPhase_counters : (s.endOnPhase).counters = s.counters := rfl
@[simp] theorem State.endOnPhase_pending : (s.endOnPhase).pending = s.pending := rfl
@[simp] theorem State.endOnPhase_inlets : (s.endOnPhase).inlets = s.inlets := rfl
@[simp] theorem State.endOnPhase_tallies : (s.endOnPhase).tallies = s.tallies := rfl

@[simp] theorem State.clearCandidates_now : (s.clearCandidates).now = s.now := rfl
@[simp] theorem State.clearCandidates_comb : (s.clearCandidates).comb = s.comb := rfl
@[simp] theorem State.clearCandidates_sense : (s.clearCandidates).sense = s.sense := rfl
@[simp] theorem State.clearCandidates_line : (s.clearCandidates).line = s.line := rfl
@[simp] theorem State.clearCandidates_walker : (s.clearCandidates).walker = s.walker := rfl
@[simp] theorem State.clearCandidates_units : (s.clearCandidates).units = s.units := rfl
@[simp] theorem State.clearCandidates_cache : (s.clearCandidates).cache = s.cache := rfl
@[simp] theorem State.clearCandidates_flash : (s.clearCandidates).flash = s.flash := rfl
@[simp] theorem State.clearCandidates_claims : (s.clearCandidates).claims = s.claims := rfl
@[simp] theorem State.clearCandidates_slots : (s.clearCandidates).slots = s.slots := rfl
@[simp] theorem State.clearCandidates_settings : (s.clearCandidates).settings = s.settings := rfl
@[simp] theorem State.clearCandidates_setup : (s.clearCandidates).setup = s.setup := rfl
@[simp] theorem State.clearCandidates_port : (s.clearCandidates).port = s.port := rfl
@[simp] theorem State.clearCandidates_counters : (s.clearCandidates).counters = s.counters := rfl
@[simp] theorem State.clearCandidates_pending : (s.clearCandidates).pending = s.pending := rfl
@[simp] theorem State.clearCandidates_inlets : (s.clearCandidates).inlets = s.inlets := rfl
@[simp] theorem State.clearCandidates_tallies : (s.clearCandidates).tallies = s.tallies := rfl

@[simp] theorem State.writeValue_now (p i : Nat) (v : ValueRecord) : (s.writeValue p i v).now = s.now := rfl
@[simp] theorem State.writeValue_comb (p i : Nat) (v : ValueRecord) : (s.writeValue p i v).comb = s.comb := rfl
@[simp] theorem State.writeValue_sense (p i : Nat) (v : ValueRecord) : (s.writeValue p i v).sense = s.sense := rfl
@[simp] theorem State.writeValue_line (p i : Nat) (v : ValueRecord) : (s.writeValue p i v).line = s.line := rfl
@[simp] theorem State.writeValue_walker (p i : Nat) (v : ValueRecord) : (s.writeValue p i v).walker = s.walker := rfl
@[simp] theorem State.writeValue_cache (p i : Nat) (v : ValueRecord) : (s.writeValue p i v).cache = s.cache := rfl
@[simp] theorem State.writeValue_lamps (p i : Nat) (v : ValueRecord) : (s.writeValue p i v).lamps = s.lamps := rfl
@[simp] theorem State.writeValue_flash (p i : Nat) (v : ValueRecord) : (s.writeValue p i v).flash = s.flash := rfl
@[simp] theorem State.writeValue_claims (p i : Nat) (v : ValueRecord) : (s.writeValue p i v).claims = s.claims := rfl
@[simp] theorem State.writeValue_slots (p i : Nat) (v : ValueRecord) : (s.writeValue p i v).slots = s.slots := rfl
@[simp] theorem State.writeValue_settings (p i : Nat) (v : ValueRecord) : (s.writeValue p i v).settings = s.settings := rfl
@[simp] theorem State.writeValue_setup (p i : Nat) (v : ValueRecord) : (s.writeValue p i v).setup = s.setup := rfl
@[simp] theorem State.writeValue_port (p i : Nat) (v : ValueRecord) : (s.writeValue p i v).port = s.port := rfl
@[simp] theorem State.writeValue_counters (p i : Nat) (v : ValueRecord) : (s.writeValue p i v).counters = s.counters := rfl
@[simp] theorem State.writeValue_pending (p i : Nat) (v : ValueRecord) : (s.writeValue p i v).pending = s.pending := rfl
@[simp] theorem State.writeValue_inlets (p i : Nat) (v : ValueRecord) : (s.writeValue p i v).inlets = s.inlets := rfl
@[simp] theorem State.writeValue_tallies (p i : Nat) (v : ValueRecord) : (s.writeValue p i v).tallies = s.tallies := rfl

@[simp] theorem State.joinRing_now (p : Nat) : (s.joinRing p).now = s.now := rfl
@[simp] theorem State.joinRing_comb (p : Nat) : (s.joinRing p).comb = s.comb := rfl
@[simp] theorem State.joinRing_sense (p : Nat) : (s.joinRing p).sense = s.sense := rfl
@[simp] theorem State.joinRing_line (p : Nat) : (s.joinRing p).line = s.line := rfl
@[simp] theorem State.joinRing_walker (p : Nat) : (s.joinRing p).walker = s.walker := rfl
@[simp] theorem State.joinRing_cache (p : Nat) : (s.joinRing p).cache = s.cache := rfl
@[simp] theorem State.joinRing_lamps (p : Nat) : (s.joinRing p).lamps = s.lamps := rfl
@[simp] theorem State.joinRing_flash (p : Nat) : (s.joinRing p).flash = s.flash := rfl
@[simp] theorem State.joinRing_claims (p : Nat) : (s.joinRing p).claims = s.claims := rfl
@[simp] theorem State.joinRing_slots (p : Nat) : (s.joinRing p).slots = s.slots := rfl
@[simp] theorem State.joinRing_settings (p : Nat) : (s.joinRing p).settings = s.settings := rfl
@[simp] theorem State.joinRing_setup (p : Nat) : (s.joinRing p).setup = s.setup := rfl
@[simp] theorem State.joinRing_port (p : Nat) : (s.joinRing p).port = s.port := rfl
@[simp] theorem State.joinRing_counters (p : Nat) : (s.joinRing p).counters = s.counters := rfl
@[simp] theorem State.joinRing_pending (p : Nat) : (s.joinRing p).pending = s.pending := rfl
@[simp] theorem State.joinRing_inlets (p : Nat) : (s.joinRing p).inlets = s.inlets := rfl
@[simp] theorem State.joinRing_tallies (p : Nat) : (s.joinRing p).tallies = s.tallies := rfl

@[simp] theorem State.clearDue_now (p i : Nat) : (s.clearDue p i).now = s.now := rfl
@[simp] theorem State.clearDue_comb (p i : Nat) : (s.clearDue p i).comb = s.comb := rfl
@[simp] theorem State.clearDue_sense (p i : Nat) : (s.clearDue p i).sense = s.sense := rfl
@[simp] theorem State.clearDue_line (p i : Nat) : (s.clearDue p i).line = s.line := rfl
@[simp] theorem State.clearDue_walker (p i : Nat) : (s.clearDue p i).walker = s.walker := rfl
@[simp] theorem State.clearDue_cache (p i : Nat) : (s.clearDue p i).cache = s.cache := rfl
@[simp] theorem State.clearDue_lamps (p i : Nat) : (s.clearDue p i).lamps = s.lamps := rfl
@[simp] theorem State.clearDue_flash (p i : Nat) : (s.clearDue p i).flash = s.flash := rfl
@[simp] theorem State.clearDue_claims (p i : Nat) : (s.clearDue p i).claims = s.claims := rfl
@[simp] theorem State.clearDue_slots (p i : Nat) : (s.clearDue p i).slots = s.slots := rfl
@[simp] theorem State.clearDue_settings (p i : Nat) : (s.clearDue p i).settings = s.settings := rfl
@[simp] theorem State.clearDue_setup (p i : Nat) : (s.clearDue p i).setup = s.setup := rfl
@[simp] theorem State.clearDue_port (p i : Nat) : (s.clearDue p i).port = s.port := rfl
@[simp] theorem State.clearDue_counters (p i : Nat) : (s.clearDue p i).counters = s.counters := rfl
@[simp] theorem State.clearDue_pending (p i : Nat) : (s.clearDue p i).pending = s.pending := rfl
@[simp] theorem State.clearDue_inlets (p i : Nat) : (s.clearDue p i).inlets = s.inlets := rfl
@[simp] theorem State.clearDue_tallies (p i : Nat) : (s.clearDue p i).tallies = s.tallies := rfl

@[simp] theorem State.setSubscription_now (p i : Nat) (k : Slot) (b : Option Subscription) : (s.setSubscription p i k b).now = s.now := rfl
@[simp] theorem State.setSubscription_comb (p i : Nat) (k : Slot) (b : Option Subscription) : (s.setSubscription p i k b).comb = s.comb := rfl
@[simp] theorem State.setSubscription_sense (p i : Nat) (k : Slot) (b : Option Subscription) : (s.setSubscription p i k b).sense = s.sense := rfl
@[simp] theorem State.setSubscription_line (p i : Nat) (k : Slot) (b : Option Subscription) : (s.setSubscription p i k b).line = s.line := rfl
@[simp] theorem State.setSubscription_walker (p i : Nat) (k : Slot) (b : Option Subscription) : (s.setSubscription p i k b).walker = s.walker := rfl
@[simp] theorem State.setSubscription_cache (p i : Nat) (k : Slot) (b : Option Subscription) : (s.setSubscription p i k b).cache = s.cache := rfl
@[simp] theorem State.setSubscription_lamps (p i : Nat) (k : Slot) (b : Option Subscription) : (s.setSubscription p i k b).lamps = s.lamps := rfl
@[simp] theorem State.setSubscription_flash (p i : Nat) (k : Slot) (b : Option Subscription) : (s.setSubscription p i k b).flash = s.flash := rfl
@[simp] theorem State.setSubscription_claims (p i : Nat) (k : Slot) (b : Option Subscription) : (s.setSubscription p i k b).claims = s.claims := rfl
@[simp] theorem State.setSubscription_slots (p i : Nat) (k : Slot) (b : Option Subscription) : (s.setSubscription p i k b).slots = s.slots := rfl
@[simp] theorem State.setSubscription_settings (p i : Nat) (k : Slot) (b : Option Subscription) : (s.setSubscription p i k b).settings = s.settings := rfl
@[simp] theorem State.setSubscription_setup (p i : Nat) (k : Slot) (b : Option Subscription) : (s.setSubscription p i k b).setup = s.setup := rfl
@[simp] theorem State.setSubscription_port (p i : Nat) (k : Slot) (b : Option Subscription) : (s.setSubscription p i k b).port = s.port := rfl
@[simp] theorem State.setSubscription_counters (p i : Nat) (k : Slot) (b : Option Subscription) : (s.setSubscription p i k b).counters = s.counters := rfl
@[simp] theorem State.setSubscription_pending (p i : Nat) (k : Slot) (b : Option Subscription) : (s.setSubscription p i k b).pending = s.pending := rfl
@[simp] theorem State.setSubscription_inlets (p i : Nat) (k : Slot) (b : Option Subscription) : (s.setSubscription p i k b).inlets = s.inlets := rfl
@[simp] theorem State.setSubscription_tallies (p i : Nat) (k : Slot) (b : Option Subscription) : (s.setSubscription p i k b).tallies = s.tallies := rfl

@[simp] theorem State.dropSubscriptions_now (k : Slot) : (s.dropSubscriptions k).now = s.now := rfl
@[simp] theorem State.dropSubscriptions_comb (k : Slot) : (s.dropSubscriptions k).comb = s.comb := rfl
@[simp] theorem State.dropSubscriptions_sense (k : Slot) : (s.dropSubscriptions k).sense = s.sense := rfl
@[simp] theorem State.dropSubscriptions_line (k : Slot) : (s.dropSubscriptions k).line = s.line := rfl
@[simp] theorem State.dropSubscriptions_walker (k : Slot) : (s.dropSubscriptions k).walker = s.walker := rfl
@[simp] theorem State.dropSubscriptions_cache (k : Slot) : (s.dropSubscriptions k).cache = s.cache := rfl
@[simp] theorem State.dropSubscriptions_lamps (k : Slot) : (s.dropSubscriptions k).lamps = s.lamps := rfl
@[simp] theorem State.dropSubscriptions_flash (k : Slot) : (s.dropSubscriptions k).flash = s.flash := rfl
@[simp] theorem State.dropSubscriptions_claims (k : Slot) : (s.dropSubscriptions k).claims = s.claims := rfl
@[simp] theorem State.dropSubscriptions_slots (k : Slot) : (s.dropSubscriptions k).slots = s.slots := rfl
@[simp] theorem State.dropSubscriptions_settings (k : Slot) : (s.dropSubscriptions k).settings = s.settings := rfl
@[simp] theorem State.dropSubscriptions_setup (k : Slot) : (s.dropSubscriptions k).setup = s.setup := rfl
@[simp] theorem State.dropSubscriptions_port (k : Slot) : (s.dropSubscriptions k).port = s.port := rfl
@[simp] theorem State.dropSubscriptions_counters (k : Slot) : (s.dropSubscriptions k).counters = s.counters := rfl
@[simp] theorem State.dropSubscriptions_pending (k : Slot) : (s.dropSubscriptions k).pending = s.pending := rfl
@[simp] theorem State.dropSubscriptions_inlets (k : Slot) : (s.dropSubscriptions k).inlets = s.inlets := rfl
@[simp] theorem State.dropSubscriptions_tallies (k : Slot) : (s.dropSubscriptions k).tallies = s.tallies := rfl

@[simp] theorem State.lampReported_now (p : Nat) (b : Byte) : (s.lampReported p b).now = s.now := rfl
@[simp] theorem State.lampReported_comb (p : Nat) (b : Byte) : (s.lampReported p b).comb = s.comb := rfl
@[simp] theorem State.lampReported_sense (p : Nat) (b : Byte) : (s.lampReported p b).sense = s.sense := rfl
@[simp] theorem State.lampReported_line (p : Nat) (b : Byte) : (s.lampReported p b).line = s.line := rfl
@[simp] theorem State.lampReported_walker (p : Nat) (b : Byte) : (s.lampReported p b).walker = s.walker := rfl
@[simp] theorem State.lampReported_cache (p : Nat) (b : Byte) : (s.lampReported p b).cache = s.cache := rfl
@[simp] theorem State.lampReported_lamps (p : Nat) (b : Byte) : (s.lampReported p b).lamps = s.lamps := rfl
@[simp] theorem State.lampReported_flash (p : Nat) (b : Byte) : (s.lampReported p b).flash = s.flash := rfl
@[simp] theorem State.lampReported_claims (p : Nat) (b : Byte) : (s.lampReported p b).claims = s.claims := rfl
@[simp] theorem State.lampReported_slots (p : Nat) (b : Byte) : (s.lampReported p b).slots = s.slots := rfl
@[simp] theorem State.lampReported_settings (p : Nat) (b : Byte) : (s.lampReported p b).settings = s.settings := rfl
@[simp] theorem State.lampReported_setup (p : Nat) (b : Byte) : (s.lampReported p b).setup = s.setup := rfl
@[simp] theorem State.lampReported_port (p : Nat) (b : Byte) : (s.lampReported p b).port = s.port := rfl
@[simp] theorem State.lampReported_counters (p : Nat) (b : Byte) : (s.lampReported p b).counters = s.counters := rfl
@[simp] theorem State.lampReported_pending (p : Nat) (b : Byte) : (s.lampReported p b).pending = s.pending := rfl
@[simp] theorem State.lampReported_inlets (p : Nat) (b : Byte) : (s.lampReported p b).inlets = s.inlets := rfl
@[simp] theorem State.lampReported_tallies (p : Nat) (b : Byte) : (s.lampReported p b).tallies = s.tallies := rfl

@[simp] theorem State.modifyWalker_now (f : Walker → Walker) : (s.modifyWalker f).now = s.now := rfl
@[simp] theorem State.modifyWalker_comb (f : Walker → Walker) : (s.modifyWalker f).comb = s.comb := rfl
@[simp] theorem State.modifyWalker_sense (f : Walker → Walker) : (s.modifyWalker f).sense = s.sense := rfl
@[simp] theorem State.modifyWalker_line (f : Walker → Walker) : (s.modifyWalker f).line = s.line := rfl
@[simp] theorem State.modifyWalker_units (f : Walker → Walker) : (s.modifyWalker f).units = s.units := rfl
@[simp] theorem State.modifyWalker_cache (f : Walker → Walker) : (s.modifyWalker f).cache = s.cache := rfl
@[simp] theorem State.modifyWalker_lamps (f : Walker → Walker) : (s.modifyWalker f).lamps = s.lamps := rfl
@[simp] theorem State.modifyWalker_flash (f : Walker → Walker) : (s.modifyWalker f).flash = s.flash := rfl
@[simp] theorem State.modifyWalker_claims (f : Walker → Walker) : (s.modifyWalker f).claims = s.claims := rfl
@[simp] theorem State.modifyWalker_slots (f : Walker → Walker) : (s.modifyWalker f).slots = s.slots := rfl
@[simp] theorem State.modifyWalker_settings (f : Walker → Walker) : (s.modifyWalker f).settings = s.settings := rfl
@[simp] theorem State.modifyWalker_setup (f : Walker → Walker) : (s.modifyWalker f).setup = s.setup := rfl
@[simp] theorem State.modifyWalker_port (f : Walker → Walker) : (s.modifyWalker f).port = s.port := rfl
@[simp] theorem State.modifyWalker_counters (f : Walker → Walker) : (s.modifyWalker f).counters = s.counters := rfl
@[simp] theorem State.modifyWalker_pending (f : Walker → Walker) : (s.modifyWalker f).pending = s.pending := rfl
@[simp] theorem State.modifyWalker_inlets (f : Walker → Walker) : (s.modifyWalker f).inlets = s.inlets := rfl
@[simp] theorem State.modifyWalker_tallies (f : Walker → Walker) : (s.modifyWalker f).tallies = s.tallies := rfl

@[simp] theorem State.offer_now (x : Step) : (s.offer x).now = s.now := rfl
@[simp] theorem State.offer_comb (x : Step) : (s.offer x).comb = s.comb := rfl
@[simp] theorem State.offer_sense (x : Step) : (s.offer x).sense = s.sense := rfl
@[simp] theorem State.offer_line (x : Step) : (s.offer x).line = s.line := rfl
@[simp] theorem State.offer_units (x : Step) : (s.offer x).units = s.units := rfl
@[simp] theorem State.offer_cache (x : Step) : (s.offer x).cache = s.cache := rfl
@[simp] theorem State.offer_lamps (x : Step) : (s.offer x).lamps = s.lamps := rfl
@[simp] theorem State.offer_flash (x : Step) : (s.offer x).flash = s.flash := rfl
@[simp] theorem State.offer_claims (x : Step) : (s.offer x).claims = s.claims := rfl
@[simp] theorem State.offer_slots (x : Step) : (s.offer x).slots = s.slots := rfl
@[simp] theorem State.offer_settings (x : Step) : (s.offer x).settings = s.settings := rfl
@[simp] theorem State.offer_setup (x : Step) : (s.offer x).setup = s.setup := rfl
@[simp] theorem State.offer_port (x : Step) : (s.offer x).port = s.port := rfl
@[simp] theorem State.offer_counters (x : Step) : (s.offer x).counters = s.counters := rfl
@[simp] theorem State.offer_pending (x : Step) : (s.offer x).pending = s.pending := rfl
@[simp] theorem State.offer_inlets (x : Step) : (s.offer x).inlets = s.inlets := rfl
@[simp] theorem State.offer_tallies (x : Step) : (s.offer x).tallies = s.tallies := rfl

@[simp] theorem State.forgetPosition_now (p : Nat) : (s.forgetPosition p).now = s.now := rfl
@[simp] theorem State.forgetPosition_comb (p : Nat) : (s.forgetPosition p).comb = s.comb := rfl
@[simp] theorem State.forgetPosition_sense (p : Nat) : (s.forgetPosition p).sense = s.sense := rfl
@[simp] theorem State.forgetPosition_line (p : Nat) : (s.forgetPosition p).line = s.line := rfl
@[simp] theorem State.forgetPosition_units (p : Nat) : (s.forgetPosition p).units = s.units := rfl
@[simp] theorem State.forgetPosition_cache (p : Nat) : (s.forgetPosition p).cache = s.cache := rfl
@[simp] theorem State.forgetPosition_lamps (p : Nat) : (s.forgetPosition p).lamps = s.lamps := rfl
@[simp] theorem State.forgetPosition_flash (p : Nat) : (s.forgetPosition p).flash = s.flash := rfl
@[simp] theorem State.forgetPosition_claims (p : Nat) : (s.forgetPosition p).claims = s.claims := rfl
@[simp] theorem State.forgetPosition_slots (p : Nat) : (s.forgetPosition p).slots = s.slots := rfl
@[simp] theorem State.forgetPosition_settings (p : Nat) : (s.forgetPosition p).settings = s.settings := rfl
@[simp] theorem State.forgetPosition_setup (p : Nat) : (s.forgetPosition p).setup = s.setup := rfl
@[simp] theorem State.forgetPosition_port (p : Nat) : (s.forgetPosition p).port = s.port := rfl
@[simp] theorem State.forgetPosition_counters (p : Nat) : (s.forgetPosition p).counters = s.counters := rfl
@[simp] theorem State.forgetPosition_pending (p : Nat) : (s.forgetPosition p).pending = s.pending := rfl
@[simp] theorem State.forgetPosition_inlets (p : Nat) : (s.forgetPosition p).inlets = s.inlets := rfl
@[simp] theorem State.forgetPosition_tallies (p : Nat) : (s.forgetPosition p).tallies = s.tallies := rfl

@[simp] theorem State.forgetList_now : (s.forgetList).now = s.now := rfl
@[simp] theorem State.forgetList_comb : (s.forgetList).comb = s.comb := rfl
@[simp] theorem State.forgetList_sense : (s.forgetList).sense = s.sense := rfl
@[simp] theorem State.forgetList_line : (s.forgetList).line = s.line := rfl
@[simp] theorem State.forgetList_units : (s.forgetList).units = s.units := rfl
@[simp] theorem State.forgetList_cache : (s.forgetList).cache = s.cache := rfl
@[simp] theorem State.forgetList_lamps : (s.forgetList).lamps = s.lamps := rfl
@[simp] theorem State.forgetList_flash : (s.forgetList).flash = s.flash := rfl
@[simp] theorem State.forgetList_claims : (s.forgetList).claims = s.claims := rfl
@[simp] theorem State.forgetList_slots : (s.forgetList).slots = s.slots := rfl
@[simp] theorem State.forgetList_settings : (s.forgetList).settings = s.settings := rfl
@[simp] theorem State.forgetList_setup : (s.forgetList).setup = s.setup := rfl
@[simp] theorem State.forgetList_port : (s.forgetList).port = s.port := rfl
@[simp] theorem State.forgetList_counters : (s.forgetList).counters = s.counters := rfl
@[simp] theorem State.forgetList_pending : (s.forgetList).pending = s.pending := rfl
@[simp] theorem State.forgetList_inlets : (s.forgetList).inlets = s.inlets := rfl
@[simp] theorem State.forgetList_tallies : (s.forgetList).tallies = s.tallies := rfl

@[simp] theorem State.walkerAfterLoss_now (k : Nat) : (s.walkerAfterLoss k).now = s.now := rfl
@[simp] theorem State.walkerAfterLoss_comb (k : Nat) : (s.walkerAfterLoss k).comb = s.comb := rfl
@[simp] theorem State.walkerAfterLoss_sense (k : Nat) : (s.walkerAfterLoss k).sense = s.sense := rfl
@[simp] theorem State.walkerAfterLoss_line (k : Nat) : (s.walkerAfterLoss k).line = s.line := rfl
@[simp] theorem State.walkerAfterLoss_units (k : Nat) : (s.walkerAfterLoss k).units = s.units := rfl
@[simp] theorem State.walkerAfterLoss_cache (k : Nat) : (s.walkerAfterLoss k).cache = s.cache := rfl
@[simp] theorem State.walkerAfterLoss_lamps (k : Nat) : (s.walkerAfterLoss k).lamps = s.lamps := rfl
@[simp] theorem State.walkerAfterLoss_flash (k : Nat) : (s.walkerAfterLoss k).flash = s.flash := rfl
@[simp] theorem State.walkerAfterLoss_claims (k : Nat) : (s.walkerAfterLoss k).claims = s.claims := rfl
@[simp] theorem State.walkerAfterLoss_slots (k : Nat) : (s.walkerAfterLoss k).slots = s.slots := rfl
@[simp] theorem State.walkerAfterLoss_settings (k : Nat) : (s.walkerAfterLoss k).settings = s.settings := rfl
@[simp] theorem State.walkerAfterLoss_setup (k : Nat) : (s.walkerAfterLoss k).setup = s.setup := rfl
@[simp] theorem State.walkerAfterLoss_port (k : Nat) : (s.walkerAfterLoss k).port = s.port := rfl
@[simp] theorem State.walkerAfterLoss_counters (k : Nat) : (s.walkerAfterLoss k).counters = s.counters := rfl
@[simp] theorem State.walkerAfterLoss_pending (k : Nat) : (s.walkerAfterLoss k).pending = s.pending := rfl
@[simp] theorem State.walkerAfterLoss_inlets (k : Nat) : (s.walkerAfterLoss k).inlets = s.inlets := rfl
@[simp] theorem State.walkerAfterLoss_tallies (k : Nat) : (s.walkerAfterLoss k).tallies = s.tallies := rfl

@[simp] theorem State.start_now (o : Originator) : (s.start o).now = s.now := rfl
@[simp] theorem State.start_comb (o : Originator) : (s.start o).comb = s.comb := rfl
@[simp] theorem State.start_sense (o : Originator) : (s.start o).sense = s.sense := rfl
@[simp] theorem State.start_walker (o : Originator) : (s.start o).walker = s.walker := rfl
@[simp] theorem State.start_units (o : Originator) : (s.start o).units = s.units := rfl
@[simp] theorem State.start_cache (o : Originator) : (s.start o).cache = s.cache := rfl
@[simp] theorem State.start_lamps (o : Originator) : (s.start o).lamps = s.lamps := rfl
@[simp] theorem State.start_flash (o : Originator) : (s.start o).flash = s.flash := rfl
@[simp] theorem State.start_claims (o : Originator) : (s.start o).claims = s.claims := rfl
@[simp] theorem State.start_slots (o : Originator) : (s.start o).slots = s.slots := rfl
@[simp] theorem State.start_settings (o : Originator) : (s.start o).settings = s.settings := rfl
@[simp] theorem State.start_setup (o : Originator) : (s.start o).setup = s.setup := rfl
@[simp] theorem State.start_port (o : Originator) : (s.start o).port = s.port := rfl
@[simp] theorem State.start_counters (o : Originator) : (s.start o).counters = s.counters := rfl
@[simp] theorem State.start_pending (o : Originator) : (s.start o).pending = s.pending := rfl
@[simp] theorem State.start_inlets (o : Originator) : (s.start o).inlets = s.inlets := rfl
@[simp] theorem State.start_tallies (o : Originator) : (s.start o).tallies = s.tallies := rfl

@[simp] theorem State.abandon_now : (s.abandon).now = s.now := rfl
@[simp] theorem State.abandon_comb : (s.abandon).comb = s.comb := rfl
@[simp] theorem State.abandon_sense : (s.abandon).sense = s.sense := rfl
@[simp] theorem State.abandon_walker : (s.abandon).walker = s.walker := rfl
@[simp] theorem State.abandon_units : (s.abandon).units = s.units := rfl
@[simp] theorem State.abandon_cache : (s.abandon).cache = s.cache := rfl
@[simp] theorem State.abandon_lamps : (s.abandon).lamps = s.lamps := rfl
@[simp] theorem State.abandon_flash : (s.abandon).flash = s.flash := rfl
@[simp] theorem State.abandon_claims : (s.abandon).claims = s.claims := rfl
@[simp] theorem State.abandon_slots : (s.abandon).slots = s.slots := rfl
@[simp] theorem State.abandon_settings : (s.abandon).settings = s.settings := rfl
@[simp] theorem State.abandon_setup : (s.abandon).setup = s.setup := rfl
@[simp] theorem State.abandon_port : (s.abandon).port = s.port := rfl
@[simp] theorem State.abandon_counters : (s.abandon).counters = s.counters := rfl
@[simp] theorem State.abandon_pending : (s.abandon).pending = s.pending := rfl
@[simp] theorem State.abandon_inlets : (s.abandon).inlets = s.inlets := rfl
@[simp] theorem State.abandon_tallies : (s.abandon).tallies = s.tallies := rfl

@[simp] theorem State.setTx_now (t : Option Transaction) : (s.setTx t).now = s.now := rfl
@[simp] theorem State.setTx_comb (t : Option Transaction) : (s.setTx t).comb = s.comb := rfl
@[simp] theorem State.setTx_sense (t : Option Transaction) : (s.setTx t).sense = s.sense := rfl
@[simp] theorem State.setTx_walker (t : Option Transaction) : (s.setTx t).walker = s.walker := rfl
@[simp] theorem State.setTx_units (t : Option Transaction) : (s.setTx t).units = s.units := rfl
@[simp] theorem State.setTx_cache (t : Option Transaction) : (s.setTx t).cache = s.cache := rfl
@[simp] theorem State.setTx_lamps (t : Option Transaction) : (s.setTx t).lamps = s.lamps := rfl
@[simp] theorem State.setTx_flash (t : Option Transaction) : (s.setTx t).flash = s.flash := rfl
@[simp] theorem State.setTx_claims (t : Option Transaction) : (s.setTx t).claims = s.claims := rfl
@[simp] theorem State.setTx_slots (t : Option Transaction) : (s.setTx t).slots = s.slots := rfl
@[simp] theorem State.setTx_settings (t : Option Transaction) : (s.setTx t).settings = s.settings := rfl
@[simp] theorem State.setTx_setup (t : Option Transaction) : (s.setTx t).setup = s.setup := rfl
@[simp] theorem State.setTx_port (t : Option Transaction) : (s.setTx t).port = s.port := rfl
@[simp] theorem State.setTx_counters (t : Option Transaction) : (s.setTx t).counters = s.counters := rfl
@[simp] theorem State.setTx_pending (t : Option Transaction) : (s.setTx t).pending = s.pending := rfl
@[simp] theorem State.setTx_inlets (t : Option Transaction) : (s.setTx t).inlets = s.inlets := rfl
@[simp] theorem State.setTx_tallies (t : Option Transaction) : (s.setTx t).tallies = s.tallies := rfl

@[simp] theorem State.clearWalkFlags_now : (s.clearWalkFlags).now = s.now := rfl
@[simp] theorem State.clearWalkFlags_sense : (s.clearWalkFlags).sense = s.sense := rfl
@[simp] theorem State.clearWalkFlags_line : (s.clearWalkFlags).line = s.line := rfl
@[simp] theorem State.clearWalkFlags_walker : (s.clearWalkFlags).walker = s.walker := rfl
@[simp] theorem State.clearWalkFlags_units : (s.clearWalkFlags).units = s.units := rfl
@[simp] theorem State.clearWalkFlags_cache : (s.clearWalkFlags).cache = s.cache := rfl
@[simp] theorem State.clearWalkFlags_lamps : (s.clearWalkFlags).lamps = s.lamps := rfl
@[simp] theorem State.clearWalkFlags_flash : (s.clearWalkFlags).flash = s.flash := rfl
@[simp] theorem State.clearWalkFlags_claims : (s.clearWalkFlags).claims = s.claims := rfl
@[simp] theorem State.clearWalkFlags_slots : (s.clearWalkFlags).slots = s.slots := rfl
@[simp] theorem State.clearWalkFlags_settings : (s.clearWalkFlags).settings = s.settings := rfl
@[simp] theorem State.clearWalkFlags_setup : (s.clearWalkFlags).setup = s.setup := rfl
@[simp] theorem State.clearWalkFlags_port : (s.clearWalkFlags).port = s.port := rfl
@[simp] theorem State.clearWalkFlags_counters : (s.clearWalkFlags).counters = s.counters := rfl
@[simp] theorem State.clearWalkFlags_pending : (s.clearWalkFlags).pending = s.pending := rfl
@[simp] theorem State.clearWalkFlags_inlets : (s.clearWalkFlags).inlets = s.inlets := rfl
@[simp] theorem State.clearWalkFlags_tallies : (s.clearWalkFlags).tallies = s.tallies := rfl

@[simp] theorem State.setFeed_now (b : Bool) : (s.setFeed b).now = s.now := rfl
@[simp] theorem State.setFeed_sense (b : Bool) : (s.setFeed b).sense = s.sense := rfl
@[simp] theorem State.setFeed_line (b : Bool) : (s.setFeed b).line = s.line := rfl
@[simp] theorem State.setFeed_walker (b : Bool) : (s.setFeed b).walker = s.walker := rfl
@[simp] theorem State.setFeed_units (b : Bool) : (s.setFeed b).units = s.units := rfl
@[simp] theorem State.setFeed_cache (b : Bool) : (s.setFeed b).cache = s.cache := rfl
@[simp] theorem State.setFeed_lamps (b : Bool) : (s.setFeed b).lamps = s.lamps := rfl
@[simp] theorem State.setFeed_flash (b : Bool) : (s.setFeed b).flash = s.flash := rfl
@[simp] theorem State.setFeed_claims (b : Bool) : (s.setFeed b).claims = s.claims := rfl
@[simp] theorem State.setFeed_slots (b : Bool) : (s.setFeed b).slots = s.slots := rfl
@[simp] theorem State.setFeed_settings (b : Bool) : (s.setFeed b).settings = s.settings := rfl
@[simp] theorem State.setFeed_setup (b : Bool) : (s.setFeed b).setup = s.setup := rfl
@[simp] theorem State.setFeed_port (b : Bool) : (s.setFeed b).port = s.port := rfl
@[simp] theorem State.setFeed_counters (b : Bool) : (s.setFeed b).counters = s.counters := rfl
@[simp] theorem State.setFeed_pending (b : Bool) : (s.setFeed b).pending = s.pending := rfl
@[simp] theorem State.setFeed_inlets (b : Bool) : (s.setFeed b).inlets = s.inlets := rfl
@[simp] theorem State.setFeed_tallies (b : Bool) : (s.setFeed b).tallies = s.tallies := rfl

@[simp] theorem State.enterSettling_now : (s.enterSettling).now = s.now := rfl
@[simp] theorem State.enterSettling_sense : (s.enterSettling).sense = s.sense := rfl
@[simp] theorem State.enterSettling_line : (s.enterSettling).line = s.line := rfl
@[simp] theorem State.enterSettling_walker : (s.enterSettling).walker = s.walker := rfl
@[simp] theorem State.enterSettling_units : (s.enterSettling).units = s.units := rfl
@[simp] theorem State.enterSettling_cache : (s.enterSettling).cache = s.cache := rfl
@[simp] theorem State.enterSettling_lamps : (s.enterSettling).lamps = s.lamps := rfl
@[simp] theorem State.enterSettling_flash : (s.enterSettling).flash = s.flash := rfl
@[simp] theorem State.enterSettling_claims : (s.enterSettling).claims = s.claims := rfl
@[simp] theorem State.enterSettling_slots : (s.enterSettling).slots = s.slots := rfl
@[simp] theorem State.enterSettling_settings : (s.enterSettling).settings = s.settings := rfl
@[simp] theorem State.enterSettling_setup : (s.enterSettling).setup = s.setup := rfl
@[simp] theorem State.enterSettling_port : (s.enterSettling).port = s.port := rfl
@[simp] theorem State.enterSettling_counters : (s.enterSettling).counters = s.counters := rfl
@[simp] theorem State.enterSettling_pending : (s.enterSettling).pending = s.pending := rfl
@[simp] theorem State.enterSettling_inlets : (s.enterSettling).inlets = s.inlets := rfl
@[simp] theorem State.enterSettling_tallies : (s.enterSettling).tallies = s.tallies := rfl

@[simp] theorem State.sampleInputs_now (p g : Bool) : (s.sampleInputs p g).now = s.now := rfl
@[simp] theorem State.sampleInputs_comb (p g : Bool) : (s.sampleInputs p g).comb = s.comb := rfl
@[simp] theorem State.sampleInputs_line (p g : Bool) : (s.sampleInputs p g).line = s.line := rfl
@[simp] theorem State.sampleInputs_walker (p g : Bool) : (s.sampleInputs p g).walker = s.walker := rfl
@[simp] theorem State.sampleInputs_units (p g : Bool) : (s.sampleInputs p g).units = s.units := rfl
@[simp] theorem State.sampleInputs_cache (p g : Bool) : (s.sampleInputs p g).cache = s.cache := rfl
@[simp] theorem State.sampleInputs_lamps (p g : Bool) : (s.sampleInputs p g).lamps = s.lamps := rfl
@[simp] theorem State.sampleInputs_flash (p g : Bool) : (s.sampleInputs p g).flash = s.flash := rfl
@[simp] theorem State.sampleInputs_claims (p g : Bool) : (s.sampleInputs p g).claims = s.claims := rfl
@[simp] theorem State.sampleInputs_slots (p g : Bool) : (s.sampleInputs p g).slots = s.slots := rfl
@[simp] theorem State.sampleInputs_settings (p g : Bool) : (s.sampleInputs p g).settings = s.settings := rfl
@[simp] theorem State.sampleInputs_setup (p g : Bool) : (s.sampleInputs p g).setup = s.setup := rfl
@[simp] theorem State.sampleInputs_port (p g : Bool) : (s.sampleInputs p g).port = s.port := rfl
@[simp] theorem State.sampleInputs_counters (p g : Bool) : (s.sampleInputs p g).counters = s.counters := rfl
@[simp] theorem State.sampleInputs_pending (p g : Bool) : (s.sampleInputs p g).pending = s.pending := rfl
@[simp] theorem State.sampleInputs_inlets (p g : Bool) : (s.sampleInputs p g).inlets = s.inlets := rfl
@[simp] theorem State.sampleInputs_tallies (p g : Bool) : (s.sampleInputs p g).tallies = s.tallies := rfl

@[simp] theorem State.storeWord_now (n : Setting) (w : Word32) : (s.storeWord n w).now = s.now := rfl
@[simp] theorem State.storeWord_comb (n : Setting) (w : Word32) : (s.storeWord n w).comb = s.comb := rfl
@[simp] theorem State.storeWord_sense (n : Setting) (w : Word32) : (s.storeWord n w).sense = s.sense := rfl
@[simp] theorem State.storeWord_line (n : Setting) (w : Word32) : (s.storeWord n w).line = s.line := rfl
@[simp] theorem State.storeWord_walker (n : Setting) (w : Word32) : (s.storeWord n w).walker = s.walker := rfl
@[simp] theorem State.storeWord_units (n : Setting) (w : Word32) : (s.storeWord n w).units = s.units := rfl
@[simp] theorem State.storeWord_cache (n : Setting) (w : Word32) : (s.storeWord n w).cache = s.cache := rfl
@[simp] theorem State.storeWord_lamps (n : Setting) (w : Word32) : (s.storeWord n w).lamps = s.lamps := rfl
@[simp] theorem State.storeWord_flash (n : Setting) (w : Word32) : (s.storeWord n w).flash = s.flash := rfl
@[simp] theorem State.storeWord_claims (n : Setting) (w : Word32) : (s.storeWord n w).claims = s.claims := rfl
@[simp] theorem State.storeWord_slots (n : Setting) (w : Word32) : (s.storeWord n w).slots = s.slots := rfl
@[simp] theorem State.storeWord_setup (n : Setting) (w : Word32) : (s.storeWord n w).setup = s.setup := rfl
@[simp] theorem State.storeWord_port (n : Setting) (w : Word32) : (s.storeWord n w).port = s.port := rfl
@[simp] theorem State.storeWord_counters (n : Setting) (w : Word32) : (s.storeWord n w).counters = s.counters := rfl
@[simp] theorem State.storeWord_pending (n : Setting) (w : Word32) : (s.storeWord n w).pending = s.pending := rfl
@[simp] theorem State.storeWord_inlets (n : Setting) (w : Word32) : (s.storeWord n w).inlets = s.inlets := rfl
@[simp] theorem State.storeWord_tallies (n : Setting) (w : Word32) : (s.storeWord n w).tallies = s.tallies := rfl

@[simp] theorem State.emptySlot_now (k : Slot) : (s.emptySlot k).now = s.now := rfl
@[simp] theorem State.emptySlot_comb (k : Slot) : (s.emptySlot k).comb = s.comb := rfl
@[simp] theorem State.emptySlot_sense (k : Slot) : (s.emptySlot k).sense = s.sense := rfl
@[simp] theorem State.emptySlot_line (k : Slot) : (s.emptySlot k).line = s.line := rfl
@[simp] theorem State.emptySlot_walker (k : Slot) : (s.emptySlot k).walker = s.walker := rfl
@[simp] theorem State.emptySlot_cache (k : Slot) : (s.emptySlot k).cache = s.cache := rfl
@[simp] theorem State.emptySlot_lamps (k : Slot) : (s.emptySlot k).lamps = s.lamps := rfl
@[simp] theorem State.emptySlot_flash (k : Slot) : (s.emptySlot k).flash = s.flash := rfl
@[simp] theorem State.emptySlot_claims (k : Slot) : (s.emptySlot k).claims = s.claims := rfl
@[simp] theorem State.emptySlot_slots (k : Slot) : (s.emptySlot k).slots = s.slots := rfl
@[simp] theorem State.emptySlot_settings (k : Slot) : (s.emptySlot k).settings = s.settings := rfl
@[simp] theorem State.emptySlot_setup (k : Slot) : (s.emptySlot k).setup = s.setup := rfl
@[simp] theorem State.emptySlot_counters (k : Slot) : (s.emptySlot k).counters = s.counters := rfl
@[simp] theorem State.emptySlot_pending (k : Slot) : (s.emptySlot k).pending = s.pending := rfl
@[simp] theorem State.emptySlot_tallies (k : Slot) : (s.emptySlot k).tallies = s.tallies := rfl

end Sys2Proof.Machine
end

