-- ==== Sys2Proof/Laws/Frames.lean ====
section
/-! SUPPORT. What each shared operation leaves alone: one lemma per operation and field. -/
namespace Sys2Proof.Machine

set_option linter.unusedTactic false
set_option linter.unreachableTactic false

variable (s : State)

@[simp] theorem State.offerNotice_now (n : NoticeKind) (k : Slot) (d : List Byte) : (s.offerNotice n k d).now = s.now := by
  unfold State.offerNotice
  repeat' (first | split | dsimp only)
  all_goals simp
@[simp] theorem State.offerNotice_comb (n : NoticeKind) (k : Slot) (d : List Byte) : (s.offerNotice n k d).comb = s.comb := by
  unfold State.offerNotice
  repeat' (first | split | dsimp only)
  all_goals simp
@[simp] theorem State.offerNotice_sense (n : NoticeKind) (k : Slot) (d : List Byte) : (s.offerNotice n k d).sense = s.sense := by
  unfold State.offerNotice
  repeat' (first | split | dsimp only)
  all_goals simp
@[simp] theorem State.offerNotice_line (n : NoticeKind) (k : Slot) (d : List Byte) : (s.offerNotice n k d).line = s.line := by
  unfold State.offerNotice
  repeat' (first | split | dsimp only)
  all_goals simp
@[simp] theorem State.offerNotice_walker (n : NoticeKind) (k : Slot) (d : List Byte) : (s.offerNotice n k d).walker = s.walker := by
  unfold State.offerNotice
  repeat' (first | split | dsimp only)
  all_goals simp
@[simp] theorem State.offerNotice_units (n : NoticeKind) (k : Slot) (d : List Byte) : (s.offerNotice n k d).units = s.units := by
  unfold State.offerNotice
  repeat' (first | split | dsimp only)
  all_goals simp
@[simp] theorem State.offerNotice_cache (n : NoticeKind) (k : Slot) (d : List Byte) : (s.offerNotice n k d).cache = s.cache := by
  unfold State.offerNotice
  repeat' (first | split | dsimp only)
  all_goals simp
@[simp] theorem State.offerNotice_lamps (n : NoticeKind) (k : Slot) (d : List Byte) : (s.offerNotice n k d).lamps = s.lamps := by
  unfold State.offerNotice
  repeat' (first | split | dsimp only)
  all_goals simp
@[simp] theorem State.offerNotice_flash (n : NoticeKind) (k : Slot) (d : List Byte) : (s.offerNotice n k d).flash = s.flash := by
  unfold State.offerNotice
  repeat' (first | split | dsimp only)
  all_goals simp
@[simp] theorem State.offerNotice_claims (n : NoticeKind) (k : Slot) (d : List Byte) : (s.offerNotice n k d).claims = s.claims := by
  unfold State.offerNotice
  repeat' (first | split | dsimp only)
  all_goals simp
@[simp] theorem State.offerNotice_settings (n : NoticeKind) (k : Slot) (d : List Byte) : (s.offerNotice n k d).settings = s.settings := by
  unfold State.offerNotice
  repeat' (first | split | dsimp only)
  all_goals simp
@[simp] theorem State.offerNotice_setup (n : NoticeKind) (k : Slot) (d : List Byte) : (s.offerNotice n k d).setup = s.setup := by
  unfold State.offerNotice
  repeat' (first | split | dsimp only)
  all_goals simp
@[simp] theorem State.offerNotice_pending (n : NoticeKind) (k : Slot) (d : List Byte) : (s.offerNotice n k d).pending = s.pending := by
  unfold State.offerNotice
  repeat' (first | split | dsimp only)
  all_goals simp
@[simp] theorem State.offerNotice_inlets (n : NoticeKind) (k : Slot) (d : List Byte) : (s.offerNotice n k d).inlets = s.inlets := by
  unfold State.offerNotice
  repeat' (first | split | dsimp only)
  all_goals first | (simp; done) | (simp; rfl) | rfl
@[simp] theorem State.offerNotice_tallies (n : NoticeKind) (k : Slot) (d : List Byte) : (s.offerNotice n k d).tallies = s.tallies := by
  unfold State.offerNotice
  repeat' (first | split | dsimp only)
  all_goals first | (simp; done) | (simp; rfl) | rfl

@[simp] theorem State.offerAll_now (n : NoticeKind) (d : List Byte) : (s.offerAll n d).now = s.now := foldl_keeps (fun t => State.now t) _ (fun t k => t.offerNotice_now n k d) _ _
@[simp] theorem State.offerAll_comb (n : NoticeKind) (d : List Byte) : (s.offerAll n d).comb = s.comb := foldl_keeps (fun t => State.comb t) _ (fun t k => t.offerNotice_comb n k d) _ _
@[simp] theorem State.offerAll_sense (n : NoticeKind) (d : List Byte) : (s.offerAll n d).sense = s.sense := foldl_keeps (fun t => State.sense t) _ (fun t k => t.offerNotice_sense n k d) _ _
@[simp] theorem State.offerAll_line (n : NoticeKind) (d : List Byte) : (s.offerAll n d).line = s.line := foldl_keeps (fun t => State.line t) _ (fun t k => t.offerNotice_line n k d) _ _
@[simp] theorem State.offerAll_walker (n : NoticeKind) (d : List Byte) : (s.offerAll n d).walker = s.walker := foldl_keeps (fun t => State.walker t) _ (fun t k => t.offerNotice_walker n k d) _ _
@[simp] theorem State.offerAll_units (n : NoticeKind) (d : List Byte) : (s.offerAll n d).units = s.units := foldl_keeps (fun t => State.units t) _ (fun t k => t.offerNotice_units n k d) _ _
@[simp] theorem State.offerAll_cache (n : NoticeKind) (d : List Byte) : (s.offerAll n d).cache = s.cache := foldl_keeps (fun t => State.cache t) _ (fun t k => t.offerNotice_cache n k d) _ _
@[simp] theorem State.offerAll_lamps (n : NoticeKind) (d : List Byte) : (s.offerAll n d).lamps = s.lamps := foldl_keeps (fun t => State.lamps t) _ (fun t k => t.offerNotice_lamps n k d) _ _
@[simp] theorem State.offerAll_flash (n : NoticeKind) (d : List Byte) : (s.offerAll n d).flash = s.flash := foldl_keeps (fun t => State.flash t) _ (fun t k => t.offerNotice_flash n k d) _ _
@[simp] theorem State.offerAll_claims (n : NoticeKind) (d : List Byte) : (s.offerAll n d).claims = s.claims := foldl_keeps (fun t => State.claims t) _ (fun t k => t.offerNotice_claims n k d) _ _
@[simp] theorem State.offerAll_settings (n : NoticeKind) (d : List Byte) : (s.offerAll n d).settings = s.settings := foldl_keeps (fun t => State.settings t) _ (fun t k => t.offerNotice_settings n k d) _ _
@[simp] theorem State.offerAll_setup (n : NoticeKind) (d : List Byte) : (s.offerAll n d).setup = s.setup := foldl_keeps (fun t => State.setup t) _ (fun t k => t.offerNotice_setup n k d) _ _
@[simp] theorem State.offerAll_pending (n : NoticeKind) (d : List Byte) : (s.offerAll n d).pending = s.pending := foldl_keeps (fun t => State.pending t) _ (fun t k => t.offerNotice_pending n k d) _ _
@[simp] theorem State.offerAll_inlets (n : NoticeKind) (d : List Byte) : (s.offerAll n d).inlets = s.inlets := foldl_keeps (fun t => State.inlets t) _ (fun t k => t.offerNotice_inlets n k d) _ _
@[simp] theorem State.offerAll_tallies (n : NoticeKind) (d : List Byte) : (s.offerAll n d).tallies = s.tallies := foldl_keeps (fun t => State.tallies t) _ (fun t k => t.offerNotice_tallies n k d) _ _

@[simp] theorem State.noticeCombination_now : (s.noticeCombination).now = s.now := by simp [State.noticeCombination]
@[simp] theorem State.noticeCombination_comb : (s.noticeCombination).comb = s.comb := by simp [State.noticeCombination]
@[simp] theorem State.noticeCombination_sense : (s.noticeCombination).sense = s.sense := by simp [State.noticeCombination]
@[simp] theorem State.noticeCombination_line : (s.noticeCombination).line = s.line := by simp [State.noticeCombination]
@[simp] theorem State.noticeCombination_walker : (s.noticeCombination).walker = s.walker := by simp [State.noticeCombination]
@[simp] theorem State.noticeCombination_units : (s.noticeCombination).units = s.units := by simp [State.noticeCombination]
@[simp] theorem State.noticeCombination_cache : (s.noticeCombination).cache = s.cache := by simp [State.noticeCombination]
@[simp] theorem State.noticeCombination_lamps : (s.noticeCombination).lamps = s.lamps := by simp [State.noticeCombination]
@[simp] theorem State.noticeCombination_flash : (s.noticeCombination).flash = s.flash := by simp [State.noticeCombination]
@[simp] theorem State.noticeCombination_claims : (s.noticeCombination).claims = s.claims := by simp [State.noticeCombination]
@[simp] theorem State.noticeCombination_settings : (s.noticeCombination).settings = s.settings := by simp [State.noticeCombination]
@[simp] theorem State.noticeCombination_setup : (s.noticeCombination).setup = s.setup := by simp [State.noticeCombination]
@[simp] theorem State.noticeCombination_pending : (s.noticeCombination).pending = s.pending := by simp [State.noticeCombination]
@[simp] theorem State.noticeCombination_inlets : (s.noticeCombination).inlets = s.inlets := by first | (simp [State.noticeCombination]; done) | (simp [State.noticeCombination]; rfl) | (unfold State.noticeCombination; rfl)
@[simp] theorem State.noticeCombination_tallies : (s.noticeCombination).tallies = s.tallies := by first | (simp [State.noticeCombination]; done) | (simp [State.noticeCombination]; rfl) | (unfold State.noticeCombination; rfl)

@[simp] theorem State.announce_now (b : State) : (s.announce b).now = s.now := by
  unfold State.announce
  repeat' (first | split | dsimp only)
  all_goals simp
@[simp] theorem State.announce_comb (b : State) : (s.announce b).comb = s.comb := by
  unfold State.announce
  repeat' (first | split | dsimp only)
  all_goals simp
@[simp] theorem State.announce_sense (b : State) : (s.announce b).sense = s.sense := by
  unfold State.announce
  repeat' (first | split | dsimp only)
  all_goals simp
@[simp] theorem State.announce_line (b : State) : (s.announce b).line = s.line := by
  unfold State.announce
  repeat' (first | split | dsimp only)
  all_goals simp
@[simp] theorem State.announce_walker (b : State) : (s.announce b).walker = s.walker := by
  unfold State.announce
  repeat' (first | split | dsimp only)
  all_goals simp
@[simp] theorem State.announce_units (b : State) : (s.announce b).units = s.units := by
  unfold State.announce
  repeat' (first | split | dsimp only)
  all_goals simp
@[simp] theorem State.announce_cache (b : State) : (s.announce b).cache = s.cache := by
  unfold State.announce
  repeat' (first | split | dsimp only)
  all_goals simp
@[simp] theorem State.announce_lamps (b : State) : (s.announce b).lamps = s.lamps := by
  unfold State.announce
  repeat' (first | split | dsimp only)
  all_goals simp
@[simp] theorem State.announce_flash (b : State) : (s.announce b).flash = s.flash := by
  unfold State.announce
  repeat' (first | split | dsimp only)
  all_goals simp
@[simp] theorem State.announce_claims (b : State) : (s.announce b).claims = s.claims := by
  unfold State.announce
  repeat' (first | split | dsimp only)
  all_goals simp
@[simp] theorem State.announce_settings (b : State) : (s.announce b).settings = s.settings := by
  unfold State.announce
  repeat' (first | split | dsimp only)
  all_goals simp
@[simp] theorem State.announce_setup (b : State) : (s.announce b).setup = s.setup := by
  unfold State.announce
  repeat' (first | split | dsimp only)
  all_goals simp
@[simp] theorem State.announce_pending (b : State) : (s.announce b).pending = s.pending := by
  unfold State.announce
  repeat' (first | split | dsimp only)
  all_goals simp
@[simp] theorem State.announce_inlets (b : State) : (s.announce b).inlets = s.inlets := by
  unfold State.announce
  repeat' (first | split | dsimp only)
  all_goals first | (simp; done) | (simp; rfl) | rfl
@[simp] theorem State.announce_tallies (b : State) : (s.announce b).tallies = s.tallies := by
  unfold State.announce
  repeat' (first | split | dsimp only)
  all_goals first | (simp; done) | (simp; rfl) | rfl

@[simp] theorem State.waitResponse_now (r : Response) : (s.waitResponse r).now = s.now := by
  unfold State.waitResponse
  repeat' (first | split | dsimp only)
  all_goals simp
@[simp] theorem State.waitResponse_comb (r : Response) : (s.waitResponse r).comb = s.comb := by
  unfold State.waitResponse
  repeat' (first | split | dsimp only)
  all_goals simp
@[simp] theorem State.waitResponse_sense (r : Response) : (s.waitResponse r).sense = s.sense := by
  unfold State.waitResponse
  repeat' (first | split | dsimp only)
  all_goals simp
@[simp] theorem State.waitResponse_line (r : Response) : (s.waitResponse r).line = s.line := by
  unfold State.waitResponse
  repeat' (first | split | dsimp only)
  all_goals simp
@[simp] theorem State.waitResponse_walker (r : Response) : (s.waitResponse r).walker = s.walker := by
  unfold State.waitResponse
  repeat' (first | split | dsimp only)
  all_goals simp
@[simp] theorem State.waitResponse_units (r : Response) : (s.waitResponse r).units = s.units := by
  unfold State.waitResponse
  repeat' (first | split | dsimp only)
  all_goals simp
@[simp] theorem State.waitResponse_cache (r : Response) : (s.waitResponse r).cache = s.cache := by
  unfold State.waitResponse
  repeat' (first | split | dsimp only)
  all_goals simp
@[simp] theorem State.waitResponse_lamps (r : Response) : (s.waitResponse r).lamps = s.lamps := by
  unfold State.waitResponse
  repeat' (first | split | dsimp only)
  all_goals simp
@[simp] theorem State.waitResponse_flash (r : Response) : (s.waitResponse r).flash = s.flash := by
  unfold State.waitResponse
  repeat' (first | split | dsimp only)
  all_goals simp
@[simp] theorem State.waitResponse_claims (r : Response) : (s.waitResponse r).claims = s.claims := by
  unfold State.waitResponse
  repeat' (first | split | dsimp only)
  all_goals simp
@[simp] theorem State.waitResponse_settings (r : Response) : (s.waitResponse r).settings = s.settings := by
  unfold State.waitResponse
  repeat' (first | split | dsimp only)
  all_goals simp
@[simp] theorem State.waitResponse_setup (r : Response) : (s.waitResponse r).setup = s.setup := by
  unfold State.waitResponse
  repeat' (first | split | dsimp only)
  all_goals simp
@[simp] theorem State.waitResponse_counters (r : Response) : (s.waitResponse r).counters = s.counters := by
  unfold State.waitResponse
  repeat' (first | split | dsimp only)
  all_goals simp
@[simp] theorem State.waitResponse_pending (r : Response) : (s.waitResponse r).pending = s.pending := by
  unfold State.waitResponse
  repeat' (first | split | dsimp only)
  all_goals simp
@[simp] theorem State.waitResponse_inlets (r : Response) : (s.waitResponse r).inlets = s.inlets := by
  unfold State.waitResponse
  repeat' (first | split | dsimp only)
  all_goals first | (simp; done) | (simp; rfl) | rfl
@[simp] theorem State.waitResponse_tallies (r : Response) : (s.waitResponse r).tallies = s.tallies := by
  unfold State.waitResponse
  repeat' (first | split | dsimp only)
  all_goals first | (simp; done) | (simp; rfl) | rfl

@[simp] theorem State.deferResponse_now (r : Response) : (s.deferResponse r).now = s.now := by
  unfold State.deferResponse
  repeat' (first | split | dsimp only)
  all_goals simp
@[simp] theorem State.deferResponse_comb (r : Response) : (s.deferResponse r).comb = s.comb := by
  unfold State.deferResponse
  repeat' (first | split | dsimp only)
  all_goals simp
@[simp] theorem State.deferResponse_sense (r : Response) : (s.deferResponse r).sense = s.sense := by
  unfold State.deferResponse
  repeat' (first | split | dsimp only)
  all_goals simp
@[simp] theorem State.deferResponse_line (r : Response) : (s.deferResponse r).line = s.line := by
  unfold State.deferResponse
  repeat' (first | split | dsimp only)
  all_goals simp
@[simp] theorem State.deferResponse_walker (r : Response) : (s.deferResponse r).walker = s.walker := by
  unfold State.deferResponse
  repeat' (first | split | dsimp only)
  all_goals simp
@[simp] theorem State.deferResponse_units (r : Response) : (s.deferResponse r).units = s.units := by
  unfold State.deferResponse
  repeat' (first | split | dsimp only)
  all_goals simp
@[simp] theorem State.deferResponse_cache (r : Response) : (s.deferResponse r).cache = s.cache := by
  unfold State.deferResponse
  repeat' (first | split | dsimp only)
  all_goals simp
@[simp] theorem State.deferResponse_lamps (r : Response) : (s.deferResponse r).lamps = s.lamps := by
  unfold State.deferResponse
  repeat' (first | split | dsimp only)
  all_goals simp
@[simp] theorem State.deferResponse_flash (r : Response) : (s.deferResponse r).flash = s.flash := by
  unfold State.deferResponse
  repeat' (first | split | dsimp only)
  all_goals simp
@[simp] theorem State.deferResponse_claims (r : Response) : (s.deferResponse r).claims = s.claims := by
  unfold State.deferResponse
  repeat' (first | split | dsimp only)
  all_goals simp
@[simp] theorem State.deferResponse_settings (r : Response) : (s.deferResponse r).settings = s.settings := by
  unfold State.deferResponse
  repeat' (first | split | dsimp only)
  all_goals simp
@[simp] theorem State.deferResponse_setup (r : Response) : (s.deferResponse r).setup = s.setup := by
  unfold State.deferResponse
  repeat' (first | split | dsimp only)
  all_goals simp
@[simp] theorem State.deferResponse_counters (r : Response) : (s.deferResponse r).counters = s.counters := by
  unfold State.deferResponse
  repeat' (first | split | dsimp only)
  all_goals simp
@[simp] theorem State.deferResponse_pending (r : Response) : (s.deferResponse r).pending = s.pending := by
  unfold State.deferResponse
  repeat' (first | split | dsimp only)
  all_goals simp
@[simp] theorem State.deferResponse_inlets (r : Response) : (s.deferResponse r).inlets = s.inlets := by
  unfold State.deferResponse
  repeat' (first | split | dsimp only)
  all_goals first | (simp; done) | (simp; rfl) | rfl
@[simp] theorem State.deferResponse_tallies (r : Response) : (s.deferResponse r).tallies = s.tallies := by
  unfold State.deferResponse
  repeat' (first | split | dsimp only)
  all_goals first | (simp; done) | (simp; rfl) | rfl

@[simp] theorem State.deferAll_now (rs : List Response) : (s.deferAll rs).now = s.now := foldl_keeps (fun t => State.now t) _ (fun t r => t.deferResponse_now r) _ _
@[simp] theorem State.deferAll_comb (rs : List Response) : (s.deferAll rs).comb = s.comb := foldl_keeps (fun t => State.comb t) _ (fun t r => t.deferResponse_comb r) _ _
@[simp] theorem State.deferAll_sense (rs : List Response) : (s.deferAll rs).sense = s.sense := foldl_keeps (fun t => State.sense t) _ (fun t r => t.deferResponse_sense r) _ _
@[simp] theorem State.deferAll_line (rs : List Response) : (s.deferAll rs).line = s.line := foldl_keeps (fun t => State.line t) _ (fun t r => t.deferResponse_line r) _ _
@[simp] theorem State.deferAll_walker (rs : List Response) : (s.deferAll rs).walker = s.walker := foldl_keeps (fun t => State.walker t) _ (fun t r => t.deferResponse_walker r) _ _
@[simp] theorem State.deferAll_units (rs : List Response) : (s.deferAll rs).units = s.units := foldl_keeps (fun t => State.units t) _ (fun t r => t.deferResponse_units r) _ _
@[simp] theorem State.deferAll_cache (rs : List Response) : (s.deferAll rs).cache = s.cache := foldl_keeps (fun t => State.cache t) _ (fun t r => t.deferResponse_cache r) _ _
@[simp] theorem State.deferAll_lamps (rs : List Response) : (s.deferAll rs).lamps = s.lamps := foldl_keeps (fun t => State.lamps t) _ (fun t r => t.deferResponse_lamps r) _ _
@[simp] theorem State.deferAll_flash (rs : List Response) : (s.deferAll rs).flash = s.flash := foldl_keeps (fun t => State.flash t) _ (fun t r => t.deferResponse_flash r) _ _
@[simp] theorem State.deferAll_claims (rs : List Response) : (s.deferAll rs).claims = s.claims := foldl_keeps (fun t => State.claims t) _ (fun t r => t.deferResponse_claims r) _ _
@[simp] theorem State.deferAll_settings (rs : List Response) : (s.deferAll rs).settings = s.settings := foldl_keeps (fun t => State.settings t) _ (fun t r => t.deferResponse_settings r) _ _
@[simp] theorem State.deferAll_setup (rs : List Response) : (s.deferAll rs).setup = s.setup := foldl_keeps (fun t => State.setup t) _ (fun t r => t.deferResponse_setup r) _ _
@[simp] theorem State.deferAll_counters (rs : List Response) : (s.deferAll rs).counters = s.counters := foldl_keeps (fun t => State.counters t) _ (fun t r => t.deferResponse_counters r) _ _
@[simp] theorem State.deferAll_pending (rs : List Response) : (s.deferAll rs).pending = s.pending := foldl_keeps (fun t => State.pending t) _ (fun t r => t.deferResponse_pending r) _ _
@[simp] theorem State.deferAll_inlets (rs : List Response) : (s.deferAll rs).inlets = s.inlets := foldl_keeps (fun t => State.inlets t) _ (fun t r => t.deferResponse_inlets r) _ _
@[simp] theorem State.deferAll_tallies (rs : List Response) : (s.deferAll rs).tallies = s.tallies := foldl_keeps (fun t => State.tallies t) _ (fun t r => t.deferResponse_tallies r) _ _

@[simp] theorem State.serveDeferred_now : (s.serveDeferred).now = s.now := by
  unfold State.serveDeferred
  repeat' (first | split | dsimp only)
  all_goals simp
@[simp] theorem State.serveDeferred_comb : (s.serveDeferred).comb = s.comb := by
  unfold State.serveDeferred
  repeat' (first | split | dsimp only)
  all_goals simp
@[simp] theorem State.serveDeferred_sense : (s.serveDeferred).sense = s.sense := by
  unfold State.serveDeferred
  repeat' (first | split | dsimp only)
  all_goals simp
@[simp] theorem State.serveDeferred_line : (s.serveDeferred).line = s.line := by
  unfold State.serveDeferred
  repeat' (first | split | dsimp only)
  all_goals simp
@[simp] theorem State.serveDeferred_walker : (s.serveDeferred).walker = s.walker := by
  unfold State.serveDeferred
  repeat' (first | split | dsimp only)
  all_goals simp
@[simp] theorem State.serveDeferred_units : (s.serveDeferred).units = s.units := by
  unfold State.serveDeferred
  repeat' (first | split | dsimp only)
  all_goals simp
@[simp] theorem State.serveDeferred_cache : (s.serveDeferred).cache = s.cache := by
  unfold State.serveDeferred
  repeat' (first | split | dsimp only)
  all_goals simp
@[simp] theorem State.serveDeferred_lamps : (s.serveDeferred).lamps = s.lamps := by
  unfold State.serveDeferred
  repeat' (first | split | dsimp only)
  all_goals simp
@[simp] theorem State.serveDeferred_flash : (s.serveDeferred).flash = s.flash := by
  unfold State.serveDeferred
  repeat' (first | split | dsimp only)
  all_goals simp
@[simp] theorem State.serveDeferred_claims : (s.serveDeferred).claims = s.claims := by
  unfold State.serveDeferred
  repeat' (first | split | dsimp only)
  all_goals simp
@[simp] theorem State.serveDeferred_settings : (s.serveDeferred).settings = s.settings := by
  unfold State.serveDeferred
  repeat' (first | split | dsimp only)
  all_goals simp
@[simp] theorem State.serveDeferred_setup : (s.serveDeferred).setup = s.setup := by
  unfold State.serveDeferred
  repeat' (first | split | dsimp only)
  all_goals simp
@[simp] theorem State.serveDeferred_counters : (s.serveDeferred).counters = s.counters := by
  unfold State.serveDeferred
  repeat' (first | split | dsimp only)
  all_goals simp
@[simp] theorem State.serveDeferred_pending : (s.serveDeferred).pending = s.pending := by
  unfold State.serveDeferred
  repeat' (first | split | dsimp only)
  all_goals simp
@[simp] theorem State.serveDeferred_inlets : (s.serveDeferred).inlets = s.inlets := by
  unfold State.serveDeferred
  repeat' (first | split | dsimp only)
  all_goals first | (simp; done) | (simp; rfl) | rfl
@[simp] theorem State.serveDeferred_tallies : (s.serveDeferred).tallies = s.tallies := by
  unfold State.serveDeferred
  repeat' (first | split | dsimp only)
  all_goals first | (simp; done) | (simp; rfl) | rfl

@[simp] theorem State.noticeUnit_now (p c : Nat) (w : Word32) : (s.noticeUnit p c w).now = s.now := by simp [State.noticeUnit]
@[simp] theorem State.noticeUnit_comb (p c : Nat) (w : Word32) : (s.noticeUnit p c w).comb = s.comb := by simp [State.noticeUnit]
@[simp] theorem State.noticeUnit_sense (p c : Nat) (w : Word32) : (s.noticeUnit p c w).sense = s.sense := by simp [State.noticeUnit]
@[simp] theorem State.noticeUnit_line (p c : Nat) (w : Word32) : (s.noticeUnit p c w).line = s.line := by simp [State.noticeUnit]
@[simp] theorem State.noticeUnit_walker (p c : Nat) (w : Word32) : (s.noticeUnit p c w).walker = s.walker := by simp [State.noticeUnit]
@[simp] theorem State.noticeUnit_units (p c : Nat) (w : Word32) : (s.noticeUnit p c w).units = s.units := by simp [State.noticeUnit]
@[simp] theorem State.noticeUnit_cache (p c : Nat) (w : Word32) : (s.noticeUnit p c w).cache = s.cache := by simp [State.noticeUnit]
@[simp] theorem State.noticeUnit_lamps (p c : Nat) (w : Word32) : (s.noticeUnit p c w).lamps = s.lamps := by simp [State.noticeUnit]
@[simp] theorem State.noticeUnit_flash (p c : Nat) (w : Word32) : (s.noticeUnit p c w).flash = s.flash := by simp [State.noticeUnit]
@[simp] theorem State.noticeUnit_claims (p c : Nat) (w : Word32) : (s.noticeUnit p c w).claims = s.claims := by simp [State.noticeUnit]
@[simp] theorem State.noticeUnit_settings (p c : Nat) (w : Word32) : (s.noticeUnit p c w).settings = s.settings := by simp [State.noticeUnit]
@[simp] theorem State.noticeUnit_setup (p c : Nat) (w : Word32) : (s.noticeUnit p c w).setup = s.setup := by simp [State.noticeUnit]
@[simp] theorem State.noticeUnit_pending (p c : Nat) (w : Word32) : (s.noticeUnit p c w).pending = s.pending := by simp [State.noticeUnit]
@[simp] theorem State.noticeUnit_inlets (p c : Nat) (w : Word32) : (s.noticeUnit p c w).inlets = s.inlets := by first | (simp [State.noticeUnit]; done) | (simp [State.noticeUnit]; rfl) | (unfold State.noticeUnit; rfl)
@[simp] theorem State.noticeUnit_tallies (p c : Nat) (w : Word32) : (s.noticeUnit p c w).tallies = s.tallies := by first | (simp [State.noticeUnit]; done) | (simp [State.noticeUnit]; rfl) | (unfold State.noticeUnit; rfl)

@[simp] theorem State.noticeUnitAt_now (p : Nat) : (s.noticeUnitAt p).now = s.now := by
  unfold State.noticeUnitAt
  repeat' (first | split | dsimp only)
  all_goals simp
@[simp] theorem State.noticeUnitAt_comb (p : Nat) : (s.noticeUnitAt p).comb = s.comb := by
  unfold State.noticeUnitAt
  repeat' (first | split | dsimp only)
  all_goals simp
@[simp] theorem State.noticeUnitAt_sense (p : Nat) : (s.noticeUnitAt p).sense = s.sense := by
  unfold State.noticeUnitAt
  repeat' (first | split | dsimp only)
  all_goals simp
@[simp] theorem State.noticeUnitAt_line (p : Nat) : (s.noticeUnitAt p).line = s.line := by
  unfold State.noticeUnitAt
  repeat' (first | split | dsimp only)
  all_goals simp
@[simp] theorem State.noticeUnitAt_walker (p : Nat) : (s.noticeUnitAt p).walker = s.walker := by
  unfold State.noticeUnitAt
  repeat' (first | split | dsimp only)
  all_goals simp
@[simp] theorem State.noticeUnitAt_units (p : Nat) : (s.noticeUnitAt p).units = s.units := by
  unfold State.noticeUnitAt
  repeat' (first | split | dsimp only)
  all_goals simp
@[simp] theorem State.noticeUnitAt_cache (p : Nat) : (s.noticeUnitAt p).cache = s.cache := by
  unfold State.noticeUnitAt
  repeat' (first | split | dsimp only)
  all_goals simp
@[simp] theorem State.noticeUnitAt_lamps (p : Nat) : (s.noticeUnitAt p).lamps = s.lamps := by
  unfold State.noticeUnitAt
  repeat' (first | split | dsimp only)
  all_goals simp
@[simp] theorem State.noticeUnitAt_flash (p : Nat) : (s.noticeUnitAt p).flash = s.flash := by
  unfold State.noticeUnitAt
  repeat' (first | split | dsimp only)
  all_goals simp
@[simp] theorem State.noticeUnitAt_claims (p : Nat) : (s.noticeUnitAt p).claims = s.claims := by
  unfold State.noticeUnitAt
  repeat' (first | split | dsimp only)
  all_goals simp
@[simp] theorem State.noticeUnitAt_settings (p : Nat) : (s.noticeUnitAt p).settings = s.settings := by
  unfold State.noticeUnitAt
  repeat' (first | split | dsimp only)
  all_goals simp
@[simp] theorem State.noticeUnitAt_setup (p : Nat) : (s.noticeUnitAt p).setup = s.setup := by
  unfold State.noticeUnitAt
  repeat' (first | split | dsimp only)
  all_goals simp
@[simp] theorem State.noticeUnitAt_pending (p : Nat) : (s.noticeUnitAt p).pending = s.pending := by
  unfold State.noticeUnitAt
  repeat' (first | split | dsimp only)
  all_goals simp
@[simp] theorem State.noticeUnitAt_inlets (p : Nat) : (s.noticeUnitAt p).inlets = s.inlets := by
  unfold State.noticeUnitAt
  repeat' (first | split | dsimp only)
  all_goals first | (simp; done) | (simp; rfl) | rfl
@[simp] theorem State.noticeUnitAt_tallies (p : Nat) : (s.noticeUnitAt p).tallies = s.tallies := by
  unfold State.noticeUnitAt
  repeat' (first | split | dsimp only)
  all_goals first | (simp; done) | (simp; rfl) | rfl

@[simp] theorem State.setUnitState_now (p : Nat) (u : UnitState) : (s.setUnitState p u).now = s.now := by simp [State.setUnitState]
@[simp] theorem State.setUnitState_sense (p : Nat) (u : UnitState) : (s.setUnitState p u).sense = s.sense := by simp [State.setUnitState]
@[simp] theorem State.setUnitState_line (p : Nat) (u : UnitState) : (s.setUnitState p u).line = s.line := by simp [State.setUnitState]
@[simp] theorem State.setUnitState_walker (p : Nat) (u : UnitState) : (s.setUnitState p u).walker = s.walker := by simp [State.setUnitState]
@[simp] theorem State.setUnitState_cache (p : Nat) (u : UnitState) : (s.setUnitState p u).cache = s.cache := by simp [State.setUnitState]
@[simp] theorem State.setUnitState_lamps (p : Nat) (u : UnitState) : (s.setUnitState p u).lamps = s.lamps := by simp [State.setUnitState]
@[simp] theorem State.setUnitState_flash (p : Nat) (u : UnitState) : (s.setUnitState p u).flash = s.flash := by simp [State.setUnitState]
@[simp] theorem State.setUnitState_claims (p : Nat) (u : UnitState) : (s.setUnitState p u).claims = s.claims := by simp [State.setUnitState]
@[simp] theorem State.setUnitState_settings (p : Nat) (u : UnitState) : (s.setUnitState p u).settings = s.settings := by simp [State.setUnitState]
@[simp] theorem State.setUnitState_setup (p : Nat) (u : UnitState) : (s.setUnitState p u).setup = s.setup := by simp [State.setUnitState]
@[simp] theorem State.setUnitState_pending (p : Nat) (u : UnitState) : (s.setUnitState p u).pending = s.pending := by simp [State.setUnitState]
@[simp] theorem State.setUnitState_inlets (p : Nat) (u : UnitState) : (s.setUnitState p u).inlets = s.inlets := by first | (simp [State.setUnitState]; done) | (simp [State.setUnitState]; rfl) | (unfold State.setUnitState; rfl)
@[simp] theorem State.setUnitState_tallies (p : Nat) (u : UnitState) : (s.setUnitState p u).tallies = s.tallies := by first | (simp [State.setUnitState]; done) | (simp [State.setUnitState]; rfl) | (unfold State.setUnitState; rfl)

@[simp] theorem State.retireUnit_now (u : UnitRecord) : (s.retireUnit u).now = s.now := by
  unfold State.retireUnit
  repeat' (first | split | dsimp only)
@[simp] theorem State.retireUnit_comb (u : UnitRecord) : (s.retireUnit u).comb = s.comb := by
  unfold State.retireUnit
  repeat' (first | split | dsimp only)
@[simp] theorem State.retireUnit_sense (u : UnitRecord) : (s.retireUnit u).sense = s.sense := by
  unfold State.retireUnit
  repeat' (first | split | dsimp only)
@[simp] theorem State.retireUnit_line (u : UnitRecord) : (s.retireUnit u).line = s.line := by
  unfold State.retireUnit
  repeat' (first | split | dsimp only)
@[simp] theorem State.retireUnit_walker (u : UnitRecord) : (s.retireUnit u).walker = s.walker := by
  unfold State.retireUnit
  repeat' (first | split | dsimp only)
@[simp] theorem State.retireUnit_lamps (u : UnitRecord) : (s.retireUnit u).lamps = s.lamps := by
  unfold State.retireUnit
  repeat' (first | split | dsimp only)
@[simp] theorem State.retireUnit_flash (u : UnitRecord) : (s.retireUnit u).flash = s.flash := by
  unfold State.retireUnit
  repeat' (first | split | dsimp only)
@[simp] theorem State.retireUnit_claims (u : UnitRecord) : (s.retireUnit u).claims = s.claims := by
  unfold State.retireUnit
  repeat' (first | split | dsimp only)
@[simp] theorem State.retireUnit_slots (u : UnitRecord) : (s.retireUnit u).slots = s.slots := by
  unfold State.retireUnit
  repeat' (first | split | dsimp only)
@[simp] theorem State.retireUnit_settings (u : UnitRecord) : (s.retireUnit u).settings = s.settings := by
  unfold State.retireUnit
  repeat' (first | split | dsimp only)
@[simp] theorem State.retireUnit_setup (u : UnitRecord) : (s.retireUnit u).setup = s.setup := by
  unfold State.retireUnit
  repeat' (first | split | dsimp only)
@[simp] theorem State.retireUnit_port (u : UnitRecord) : (s.retireUnit u).port = s.port := by
  unfold State.retireUnit
  repeat' (first | split | dsimp only)
@[simp] theorem State.retireUnit_counters (u : UnitRecord) : (s.retireUnit u).counters = s.counters := by
  unfold State.retireUnit
  repeat' (first | split | dsimp only)
@[simp] theorem State.retireUnit_pending (u : UnitRecord) : (s.retireUnit u).pending = s.pending := by
  unfold State.retireUnit
  repeat' (first | split | dsimp only)
@[simp] theorem State.retireUnit_inlets (u : UnitRecord) : (s.retireUnit u).inlets = s.inlets := by
  unfold State.retireUnit
  repeat' (first | split | dsimp only)
  all_goals rfl
@[simp] theorem State.retireUnit_tallies (u : UnitRecord) : (s.retireUnit u).tallies = s.tallies := by
  unfold State.retireUnit
  repeat' (first | split | dsimp only)
  all_goals rfl

theorem makeRoomUpTo_now (n : Nat) : (Machine.makeRoom n s).now = s.now := by
  induction n generalizing s with
  | zero => rfl
  | succ n ih => unfold Machine.makeRoom; split <;> simp [ih]
theorem makeRoomUpTo_comb (n : Nat) : (Machine.makeRoom n s).comb = s.comb := by
  induction n generalizing s with
  | zero => rfl
  | succ n ih => unfold Machine.makeRoom; split <;> simp [ih]
theorem makeRoomUpTo_sense (n : Nat) : (Machine.makeRoom n s).sense = s.sense := by
  induction n generalizing s with
  | zero => rfl
  | succ n ih => unfold Machine.makeRoom; split <;> simp [ih]
theorem makeRoomUpTo_line (n : Nat) : (Machine.makeRoom n s).line = s.line := by
  induction n generalizing s with
  | zero => rfl
  | succ n ih => unfold Machine.makeRoom; split <;> simp [ih]
theorem makeRoomUpTo_walker (n : Nat) : (Machine.makeRoom n s).walker = s.walker := by
  induction n generalizing s with
  | zero => rfl
  | succ n ih => unfold Machine.makeRoom; split <;> simp [ih]
theorem makeRoomUpTo_units (n : Nat) : (Machine.makeRoom n s).units = s.units := by
  induction n generalizing s with
  | zero => rfl
  | succ n ih => unfold Machine.makeRoom; split <;> simp [ih]
theorem makeRoomUpTo_lamps (n : Nat) : (Machine.makeRoom n s).lamps = s.lamps := by
  induction n generalizing s with
  | zero => rfl
  | succ n ih => unfold Machine.makeRoom; split <;> simp [ih]
theorem makeRoomUpTo_flash (n : Nat) : (Machine.makeRoom n s).flash = s.flash := by
  induction n generalizing s with
  | zero => rfl
  | succ n ih => unfold Machine.makeRoom; split <;> simp [ih]
theorem makeRoomUpTo_claims (n : Nat) : (Machine.makeRoom n s).claims = s.claims := by
  induction n generalizing s with
  | zero => rfl
  | succ n ih => unfold Machine.makeRoom; split <;> simp [ih]
theorem makeRoomUpTo_slots (n : Nat) : (Machine.makeRoom n s).slots = s.slots := by
  induction n generalizing s with
  | zero => rfl
  | succ n ih => unfold Machine.makeRoom; split <;> simp [ih]
theorem makeRoomUpTo_settings (n : Nat) : (Machine.makeRoom n s).settings = s.settings := by
  induction n generalizing s with
  | zero => rfl
  | succ n ih => unfold Machine.makeRoom; split <;> simp [ih]
theorem makeRoomUpTo_setup (n : Nat) : (Machine.makeRoom n s).setup = s.setup := by
  induction n generalizing s with
  | zero => rfl
  | succ n ih => unfold Machine.makeRoom; split <;> simp [ih]
theorem makeRoomUpTo_port (n : Nat) : (Machine.makeRoom n s).port = s.port := by
  induction n generalizing s with
  | zero => rfl
  | succ n ih => unfold Machine.makeRoom; split <;> simp [ih]
theorem makeRoomUpTo_counters (n : Nat) : (Machine.makeRoom n s).counters = s.counters := by
  induction n generalizing s with
  | zero => rfl
  | succ n ih => unfold Machine.makeRoom; split <;> simp [ih]
theorem makeRoomUpTo_pending (n : Nat) : (Machine.makeRoom n s).pending = s.pending := by
  induction n generalizing s with
  | zero => rfl
  | succ n ih => unfold Machine.makeRoom; split <;> simp [ih]
theorem makeRoomUpTo_inlets (n : Nat) : (Machine.makeRoom n s).inlets = s.inlets := by
  induction n generalizing s with
  | zero => rfl
  | succ n ih => unfold Machine.makeRoom; split <;> first | rfl | (rw [ih]; rfl)
theorem makeRoomUpTo_tallies (n : Nat) : (Machine.makeRoom n s).tallies = s.tallies := by
  induction n generalizing s with
  | zero => rfl
  | succ n ih => unfold Machine.makeRoom; split <;> first | rfl | (rw [ih]; rfl)
@[simp] theorem State.makeRoom_now : (s.makeRoom).now = s.now := makeRoomUpTo_now s _
@[simp] theorem State.makeRoom_comb : (s.makeRoom).comb = s.comb := makeRoomUpTo_comb s _
@[simp] theorem State.makeRoom_sense : (s.makeRoom).sense = s.sense := makeRoomUpTo_sense s _
@[simp] theorem State.makeRoom_line : (s.makeRoom).line = s.line := makeRoomUpTo_line s _
@[simp] theorem State.makeRoom_walker : (s.makeRoom).walker = s.walker := makeRoomUpTo_walker s _
@[simp] theorem State.makeRoom_units : (s.makeRoom).units = s.units := makeRoomUpTo_units s _
@[simp] theorem State.makeRoom_lamps : (s.makeRoom).lamps = s.lamps := makeRoomUpTo_lamps s _
@[simp] theorem State.makeRoom_flash : (s.makeRoom).flash = s.flash := makeRoomUpTo_flash s _
@[simp] theorem State.makeRoom_claims : (s.makeRoom).claims = s.claims := makeRoomUpTo_claims s _
@[simp] theorem State.makeRoom_slots : (s.makeRoom).slots = s.slots := makeRoomUpTo_slots s _
@[simp] theorem State.makeRoom_settings : (s.makeRoom).settings = s.settings := makeRoomUpTo_settings s _
@[simp] theorem State.makeRoom_setup : (s.makeRoom).setup = s.setup := makeRoomUpTo_setup s _
@[simp] theorem State.makeRoom_port : (s.makeRoom).port = s.port := makeRoomUpTo_port s _
@[simp] theorem State.makeRoom_counters : (s.makeRoom).counters = s.counters := makeRoomUpTo_counters s _
@[simp] theorem State.makeRoom_pending : (s.makeRoom).pending = s.pending := makeRoomUpTo_pending s _
@[simp] theorem State.makeRoom_inlets : (s.makeRoom).inlets = s.inlets := makeRoomUpTo_inlets s _
@[simp] theorem State.makeRoom_tallies : (s.makeRoom).tallies = s.tallies := makeRoomUpTo_tallies s _

@[simp] theorem State.handCommand_now (c : Claim) (e : UrgentEntry) : (s.handCommand c e).now = s.now := by
  unfold State.handCommand
  repeat' (first | split | dsimp only)
  all_goals simp
@[simp] theorem State.handCommand_comb (c : Claim) (e : UrgentEntry) : (s.handCommand c e).comb = s.comb := by
  unfold State.handCommand
  repeat' (first | split | dsimp only)
  all_goals simp
@[simp] theorem State.handCommand_sense (c : Claim) (e : UrgentEntry) : (s.handCommand c e).sense = s.sense := by
  unfold State.handCommand
  repeat' (first | split | dsimp only)
  all_goals simp
@[simp] theorem State.handCommand_walker (c : Claim) (e : UrgentEntry) : (s.handCommand c e).walker = s.walker := by
  unfold State.handCommand
  repeat' (first | split | dsimp only)
  all_goals simp
@[simp] theorem State.handCommand_units (c : Claim) (e : UrgentEntry) : (s.handCommand c e).units = s.units := by
  unfold State.handCommand
  repeat' (first | split | dsimp only)
  all_goals simp
@[simp] theorem State.handCommand_cache (c : Claim) (e : UrgentEntry) : (s.handCommand c e).cache = s.cache := by
  unfold State.handCommand
  repeat' (first | split | dsimp only)
  all_goals simp
@[simp] theorem State.handCommand_lamps (c : Claim) (e : UrgentEntry) : (s.handCommand c e).lamps = s.lamps := by
  unfold State.handCommand
  repeat' (first | split | dsimp only)
  all_goals simp
@[simp] theorem State.handCommand_flash (c : Claim) (e : UrgentEntry) : (s.handCommand c e).flash = s.flash := by
  unfold State.handCommand
  repeat' (first | split | dsimp only)
  all_goals simp
@[simp] theorem State.handCommand_settings (c : Claim) (e : UrgentEntry) : (s.handCommand c e).settings = s.settings := by
  unfold State.handCommand
  repeat' (first | split | dsimp only)
  all_goals simp
@[simp] theorem State.handCommand_setup (c : Claim) (e : UrgentEntry) : (s.handCommand c e).setup = s.setup := by
  unfold State.handCommand
  repeat' (first | split | dsimp only)
  all_goals simp
@[simp] theorem State.handCommand_counters (c : Claim) (e : UrgentEntry) : (s.handCommand c e).counters = s.counters := by
  unfold State.handCommand
  repeat' (first | split | dsimp only)
  all_goals simp
@[simp] theorem State.handCommand_pending (c : Claim) (e : UrgentEntry) : (s.handCommand c e).pending = s.pending := by
  unfold State.handCommand
  repeat' (first | split | dsimp only)
  all_goals simp
@[simp] theorem State.handCommand_inlets (c : Claim) (e : UrgentEntry) : (s.handCommand c e).inlets = s.inlets := by
  unfold State.handCommand
  repeat' (first | split | dsimp only)
  all_goals first | (simp; done) | (simp; rfl) | rfl
@[simp] theorem State.handCommand_tallies (c : Claim) (e : UrgentEntry) : (s.handCommand c e).tallies = s.tallies := by
  unfold State.handCommand
  repeat' (first | split | dsimp only)
  all_goals first | (simp; done) | (simp; rfl) | rfl

@[simp] theorem State.endClaim_now (c : Claim) : (s.endClaim c).now = s.now := by
  unfold State.endClaim
  repeat' (first | split | dsimp only)
  all_goals simp
@[simp] theorem State.endClaim_comb (c : Claim) : (s.endClaim c).comb = s.comb := by
  unfold State.endClaim
  repeat' (first | split | dsimp only)
  all_goals simp
@[simp] theorem State.endClaim_sense (c : Claim) : (s.endClaim c).sense = s.sense := by
  unfold State.endClaim
  repeat' (first | split | dsimp only)
  all_goals simp
@[simp] theorem State.endClaim_walker (c : Claim) : (s.endClaim c).walker = s.walker := by
  unfold State.endClaim
  repeat' (first | split | dsimp only)
  all_goals simp
@[simp] theorem State.endClaim_units (c : Claim) : (s.endClaim c).units = s.units := by
  unfold State.endClaim
  repeat' (first | split | dsimp only)
  all_goals simp
@[simp] theorem State.endClaim_cache (c : Claim) : (s.endClaim c).cache = s.cache := by
  unfold State.endClaim
  repeat' (first | split | dsimp only)
  all_goals simp
@[simp] theorem State.endClaim_lamps (c : Claim) : (s.endClaim c).lamps = s.lamps := by
  unfold State.endClaim
  repeat' (first | split | dsimp only)
  all_goals simp
@[simp] theorem State.endClaim_flash (c : Claim) : (s.endClaim c).flash = s.flash := by
  unfold State.endClaim
  repeat' (first | split | dsimp only)
  all_goals simp
@[simp] theorem State.endClaim_settings (c : Claim) : (s.endClaim c).settings = s.settings := by
  unfold State.endClaim
  repeat' (first | split | dsimp only)
  all_goals simp
@[simp] theorem State.endClaim_setup (c : Claim) : (s.endClaim c).setup = s.setup := by
  unfold State.endClaim
  repeat' (first | split | dsimp only)
  all_goals simp
@[simp] theorem State.endClaim_counters (c : Claim) : (s.endClaim c).counters = s.counters := by
  unfold State.endClaim
  repeat' (first | split | dsimp only)
  all_goals simp
@[simp] theorem State.endClaim_pending (c : Claim) : (s.endClaim c).pending = s.pending := by
  unfold State.endClaim
  repeat' (first | split | dsimp only)
  all_goals simp
@[simp] theorem State.endClaim_inlets (c : Claim) : (s.endClaim c).inlets = s.inlets := by
  unfold State.endClaim
  repeat' (first | split | dsimp only)
  all_goals first | (simp; done) | (simp; rfl) | rfl
@[simp] theorem State.endClaim_tallies (c : Claim) : (s.endClaim c).tallies = s.tallies := by
  unfold State.endClaim
  repeat' (first | split | dsimp only)
  all_goals first | (simp; done) | (simp; rfl) | rfl

@[simp] theorem State.noticeClaimEnd_now (c : Claim) (r : EndReason) : (s.noticeClaimEnd c r).now = s.now := by simp [State.noticeClaimEnd]
@[simp] theorem State.noticeClaimEnd_comb (c : Claim) (r : EndReason) : (s.noticeClaimEnd c r).comb = s.comb := by simp [State.noticeClaimEnd]
@[simp] theorem State.noticeClaimEnd_sense (c : Claim) (r : EndReason) : (s.noticeClaimEnd c r).sense = s.sense := by simp [State.noticeClaimEnd]
@[simp] theorem State.noticeClaimEnd_line (c : Claim) (r : EndReason) : (s.noticeClaimEnd c r).line = s.line := by simp [State.noticeClaimEnd]
@[simp] theorem State.noticeClaimEnd_walker (c : Claim) (r : EndReason) : (s.noticeClaimEnd c r).walker = s.walker := by simp [State.noticeClaimEnd]
@[simp] theorem State.noticeClaimEnd_units (c : Claim) (r : EndReason) : (s.noticeClaimEnd c r).units = s.units := by simp [State.noticeClaimEnd]
@[simp] theorem State.noticeClaimEnd_cache (c : Claim) (r : EndReason) : (s.noticeClaimEnd c r).cache = s.cache := by simp [State.noticeClaimEnd]
@[simp] theorem State.noticeClaimEnd_lamps (c : Claim) (r : EndReason) : (s.noticeClaimEnd c r).lamps = s.lamps := by simp [State.noticeClaimEnd]
@[simp] theorem State.noticeClaimEnd_flash (c : Claim) (r : EndReason) : (s.noticeClaimEnd c r).flash = s.flash := by simp [State.noticeClaimEnd]
@[simp] theorem State.noticeClaimEnd_claims (c : Claim) (r : EndReason) : (s.noticeClaimEnd c r).claims = s.claims := by simp [State.noticeClaimEnd]
@[simp] theorem State.noticeClaimEnd_settings (c : Claim) (r : EndReason) : (s.noticeClaimEnd c r).settings = s.settings := by simp [State.noticeClaimEnd]
@[simp] theorem State.noticeClaimEnd_setup (c : Claim) (r : EndReason) : (s.noticeClaimEnd c r).setup = s.setup := by simp [State.noticeClaimEnd]
@[simp] theorem State.noticeClaimEnd_pending (c : Claim) (r : EndReason) : (s.noticeClaimEnd c r).pending = s.pending := by simp [State.noticeClaimEnd]
@[simp] theorem State.noticeClaimEnd_inlets (c : Claim) (r : EndReason) : (s.noticeClaimEnd c r).inlets = s.inlets := by first | (simp [State.noticeClaimEnd]; done) | (simp [State.noticeClaimEnd]; rfl) | (unfold State.noticeClaimEnd; rfl)
@[simp] theorem State.noticeClaimEnd_tallies (c : Claim) (r : EndReason) : (s.noticeClaimEnd c r).tallies = s.tallies := by first | (simp [State.noticeClaimEnd]; done) | (simp [State.noticeClaimEnd]; rfl) | (unfold State.noticeClaimEnd; rfl)

@[simp] theorem State.stopClaim_now (c : Claim) (q : Option Requester) (b : Bool) : (s.stopClaim c q b).now = s.now := by simp [State.stopClaim]
@[simp] theorem State.stopClaim_comb (c : Claim) (q : Option Requester) (b : Bool) : (s.stopClaim c q b).comb = s.comb := by simp [State.stopClaim]
@[simp] theorem State.stopClaim_sense (c : Claim) (q : Option Requester) (b : Bool) : (s.stopClaim c q b).sense = s.sense := by simp [State.stopClaim]
@[simp] theorem State.stopClaim_walker (c : Claim) (q : Option Requester) (b : Bool) : (s.stopClaim c q b).walker = s.walker := by simp [State.stopClaim]
@[simp] theorem State.stopClaim_units (c : Claim) (q : Option Requester) (b : Bool) : (s.stopClaim c q b).units = s.units := by simp [State.stopClaim]
@[simp] theorem State.stopClaim_cache (c : Claim) (q : Option Requester) (b : Bool) : (s.stopClaim c q b).cache = s.cache := by simp [State.stopClaim]
@[simp] theorem State.stopClaim_lamps (c : Claim) (q : Option Requester) (b : Bool) : (s.stopClaim c q b).lamps = s.lamps := by simp [State.stopClaim]
@[simp] theorem State.stopClaim_flash (c : Claim) (q : Option Requester) (b : Bool) : (s.stopClaim c q b).flash = s.flash := by simp [State.stopClaim]
@[simp] theorem State.stopClaim_settings (c : Claim) (q : Option Requester) (b : Bool) : (s.stopClaim c q b).settings = s.settings := by simp [State.stopClaim]
@[simp] theorem State.stopClaim_setup (c : Claim) (q : Option Requester) (b : Bool) : (s.stopClaim c q b).setup = s.setup := by simp [State.stopClaim]
@[simp] theorem State.stopClaim_counters (c : Claim) (q : Option Requester) (b : Bool) : (s.stopClaim c q b).counters = s.counters := by simp [State.stopClaim]
@[simp] theorem State.stopClaim_pending (c : Claim) (q : Option Requester) (b : Bool) : (s.stopClaim c q b).pending = s.pending := by simp [State.stopClaim]
@[simp] theorem State.stopClaim_inlets (c : Claim) (q : Option Requester) (b : Bool) : (s.stopClaim c q b).inlets = s.inlets := by first | (simp [State.stopClaim]; done) | (simp [State.stopClaim]; rfl) | (unfold State.stopClaim; rfl)
@[simp] theorem State.stopClaim_tallies (c : Claim) (q : Option Requester) (b : Bool) : (s.stopClaim c q b).tallies = s.tallies := by first | (simp [State.stopClaim]; done) | (simp [State.stopClaim]; rfl) | (unfold State.stopClaim; rfl)

@[simp] theorem State.claimCompleted_now (p i : Nat) : (s.claimCompleted p i).now = s.now := by
  unfold State.claimCompleted
  repeat' (first | split | dsimp only)
  all_goals simp
@[simp] theorem State.claimCompleted_comb (p i : Nat) : (s.claimCompleted p i).comb = s.comb := by
  unfold State.claimCompleted
  repeat' (first | split | dsimp only)
  all_goals simp
@[simp] theorem State.claimCompleted_sense (p i : Nat) : (s.claimCompleted p i).sense = s.sense := by
  unfold State.claimCompleted
  repeat' (first | split | dsimp only)
  all_goals simp
@[simp] theorem State.claimCompleted_line (p i : Nat) : (s.claimCompleted p i).line = s.line := by
  unfold State.claimCompleted
  repeat' (first | split | dsimp only)
  all_goals simp
@[simp] theorem State.claimCompleted_walker (p i : Nat) : (s.claimCompleted p i).walker = s.walker := by
  unfold State.claimCompleted
  repeat' (first | split | dsimp only)
  all_goals simp
@[simp] theorem State.claimCompleted_units (p i : Nat) : (s.claimCompleted p i).units = s.units := by
  unfold State.claimCompleted
  repeat' (first | split | dsimp only)
  all_goals simp
@[simp] theorem State.claimCompleted_cache (p i : Nat) : (s.claimCompleted p i).cache = s.cache := by
  unfold State.claimCompleted
  repeat' (first | split | dsimp only)
  all_goals simp
@[simp] theorem State.claimCompleted_lamps (p i : Nat) : (s.claimCompleted p i).lamps = s.lamps := by
  unfold State.claimCompleted
  repeat' (first | split | dsimp only)
  all_goals simp
@[simp] theorem State.claimCompleted_flash (p i : Nat) : (s.claimCompleted p i).flash = s.flash := by
  unfold State.claimCompleted
  repeat' (first | split | dsimp only)
  all_goals simp
@[simp] theorem State.claimCompleted_settings (p i : Nat) : (s.claimCompleted p i).settings = s.settings := by
  unfold State.claimCompleted
  repeat' (first | split | dsimp only)
  all_goals simp
@[simp] theorem State.claimCompleted_setup (p i : Nat) : (s.claimCompleted p i).setup = s.setup := by
  unfold State.claimCompleted
  repeat' (first | split | dsimp only)
  all_goals simp
@[simp] theorem State.claimCompleted_pending (p i : Nat) : (s.claimCompleted p i).pending = s.pending := by
  unfold State.claimCompleted
  repeat' (first | split | dsimp only)
  all_goals simp
@[simp] theorem State.claimCompleted_inlets (p i : Nat) : (s.claimCompleted p i).inlets = s.inlets := by
  unfold State.claimCompleted
  repeat' (first | split | dsimp only)
  all_goals first | (simp; done) | (simp; rfl) | rfl
@[simp] theorem State.claimCompleted_tallies (p i : Nat) : (s.claimCompleted p i).tallies = s.tallies := by
  unfold State.claimCompleted
  repeat' (first | split | dsimp only)
  all_goals first | (simp; done) | (simp; rfl) | rfl

@[simp] theorem State.endClaims_now (f : Claim → Bool) (r : EndReason) : (s.endClaims f r).now = s.now := foldl_keeps (fun t => State.now t) _ (fun t c => t.noticeClaimEnd_now c r) _ _
@[simp] theorem State.endClaims_comb (f : Claim → Bool) (r : EndReason) : (s.endClaims f r).comb = s.comb := foldl_keeps (fun t => State.comb t) _ (fun t c => t.noticeClaimEnd_comb c r) _ _
@[simp] theorem State.endClaims_sense (f : Claim → Bool) (r : EndReason) : (s.endClaims f r).sense = s.sense := foldl_keeps (fun t => State.sense t) _ (fun t c => t.noticeClaimEnd_sense c r) _ _
@[simp] theorem State.endClaims_line (f : Claim → Bool) (r : EndReason) : (s.endClaims f r).line = s.line := foldl_keeps (fun t => State.line t) _ (fun t c => t.noticeClaimEnd_line c r) _ _
@[simp] theorem State.endClaims_walker (f : Claim → Bool) (r : EndReason) : (s.endClaims f r).walker = s.walker := foldl_keeps (fun t => State.walker t) _ (fun t c => t.noticeClaimEnd_walker c r) _ _
@[simp] theorem State.endClaims_units (f : Claim → Bool) (r : EndReason) : (s.endClaims f r).units = s.units := foldl_keeps (fun t => State.units t) _ (fun t c => t.noticeClaimEnd_units c r) _ _
@[simp] theorem State.endClaims_cache (f : Claim → Bool) (r : EndReason) : (s.endClaims f r).cache = s.cache := foldl_keeps (fun t => State.cache t) _ (fun t c => t.noticeClaimEnd_cache c r) _ _
@[simp] theorem State.endClaims_lamps (f : Claim → Bool) (r : EndReason) : (s.endClaims f r).lamps = s.lamps := foldl_keeps (fun t => State.lamps t) _ (fun t c => t.noticeClaimEnd_lamps c r) _ _
@[simp] theorem State.endClaims_flash (f : Claim → Bool) (r : EndReason) : (s.endClaims f r).flash = s.flash := foldl_keeps (fun t => State.flash t) _ (fun t c => t.noticeClaimEnd_flash c r) _ _
@[simp] theorem State.endClaims_settings (f : Claim → Bool) (r : EndReason) : (s.endClaims f r).settings = s.settings := foldl_keeps (fun t => State.settings t) _ (fun t c => t.noticeClaimEnd_settings c r) _ _
@[simp] theorem State.endClaims_setup (f : Claim → Bool) (r : EndReason) : (s.endClaims f r).setup = s.setup := foldl_keeps (fun t => State.setup t) _ (fun t c => t.noticeClaimEnd_setup c r) _ _
@[simp] theorem State.endClaims_pending (f : Claim → Bool) (r : EndReason) : (s.endClaims f r).pending = s.pending := foldl_keeps (fun t => State.pending t) _ (fun t c => t.noticeClaimEnd_pending c r) _ _
@[simp] theorem State.endClaims_inlets (f : Claim → Bool) (r : EndReason) : (s.endClaims f r).inlets = s.inlets := foldl_keeps (fun t => State.inlets t) _ (fun t c => t.noticeClaimEnd_inlets c r) _ _
@[simp] theorem State.endClaims_tallies (f : Claim → Bool) (r : EndReason) : (s.endClaims f r).tallies = s.tallies := foldl_keeps (fun t => State.tallies t) _ (fun t c => t.noticeClaimEnd_tallies c r) _ _

@[simp] theorem State.noticeVerdict_now (l : Line) : (s.noticeVerdict l).now = s.now := by simp [State.noticeVerdict]
@[simp] theorem State.noticeVerdict_comb (l : Line) : (s.noticeVerdict l).comb = s.comb := by simp [State.noticeVerdict]
@[simp] theorem State.noticeVerdict_sense (l : Line) : (s.noticeVerdict l).sense = s.sense := by simp [State.noticeVerdict]
@[simp] theorem State.noticeVerdict_line (l : Line) : (s.noticeVerdict l).line = s.line := by simp [State.noticeVerdict]
@[simp] theorem State.noticeVerdict_walker (l : Line) : (s.noticeVerdict l).walker = s.walker := by simp [State.noticeVerdict]
@[simp] theorem State.noticeVerdict_units (l : Line) : (s.noticeVerdict l).units = s.units := by simp [State.noticeVerdict]
@[simp] theorem State.noticeVerdict_cache (l : Line) : (s.noticeVerdict l).cache = s.cache := by simp [State.noticeVerdict]
@[simp] theorem State.noticeVerdict_lamps (l : Line) : (s.noticeVerdict l).lamps = s.lamps := by simp [State.noticeVerdict]
@[simp] theorem State.noticeVerdict_flash (l : Line) : (s.noticeVerdict l).flash = s.flash := by simp [State.noticeVerdict]
@[simp] theorem State.noticeVerdict_claims (l : Line) : (s.noticeVerdict l).claims = s.claims := by simp [State.noticeVerdict]
@[simp] theorem State.noticeVerdict_settings (l : Line) : (s.noticeVerdict l).settings = s.settings := by simp [State.noticeVerdict]
@[simp] theorem State.noticeVerdict_setup (l : Line) : (s.noticeVerdict l).setup = s.setup := by simp [State.noticeVerdict]
@[simp] theorem State.noticeVerdict_pending (l : Line) : (s.noticeVerdict l).pending = s.pending := by simp [State.noticeVerdict]
@[simp] theorem State.noticeVerdict_inlets (l : Line) : (s.noticeVerdict l).inlets = s.inlets := by first | (simp [State.noticeVerdict]; done) | (simp [State.noticeVerdict]; rfl) | (unfold State.noticeVerdict; rfl)
@[simp] theorem State.noticeVerdict_tallies (l : Line) : (s.noticeVerdict l).tallies = s.tallies := by first | (simp [State.noticeVerdict]; done) | (simp [State.noticeVerdict]; rfl) | (unfold State.noticeVerdict; rfl)

@[simp] theorem State.verdictChanged_now (l : Line) : (s.verdictChanged l).now = s.now := by simp [State.verdictChanged]
@[simp] theorem State.verdictChanged_sense (l : Line) : (s.verdictChanged l).sense = s.sense := by simp [State.verdictChanged]
@[simp] theorem State.verdictChanged_line (l : Line) : (s.verdictChanged l).line = s.line := by simp [State.verdictChanged]
@[simp] theorem State.verdictChanged_walker (l : Line) : (s.verdictChanged l).walker = s.walker := by simp [State.verdictChanged]
@[simp] theorem State.verdictChanged_units (l : Line) : (s.verdictChanged l).units = s.units := by simp [State.verdictChanged]
@[simp] theorem State.verdictChanged_cache (l : Line) : (s.verdictChanged l).cache = s.cache := by simp [State.verdictChanged]
@[simp] theorem State.verdictChanged_lamps (l : Line) : (s.verdictChanged l).lamps = s.lamps := by simp [State.verdictChanged]
@[simp] theorem State.verdictChanged_flash (l : Line) : (s.verdictChanged l).flash = s.flash := by simp [State.verdictChanged]
@[simp] theorem State.verdictChanged_claims (l : Line) : (s.verdictChanged l).claims = s.claims := by simp [State.verdictChanged]
@[simp] theorem State.verdictChanged_settings (l : Line) : (s.verdictChanged l).settings = s.settings := by simp [State.verdictChanged]
@[simp] theorem State.verdictChanged_setup (l : Line) : (s.verdictChanged l).setup = s.setup := by simp [State.verdictChanged]
@[simp] theorem State.verdictChanged_pending (l : Line) : (s.verdictChanged l).pending = s.pending := by simp [State.verdictChanged]
@[simp] theorem State.verdictChanged_inlets (l : Line) : (s.verdictChanged l).inlets = s.inlets := by first | (simp [State.verdictChanged]; done) | (simp [State.verdictChanged]; rfl) | (unfold State.verdictChanged; rfl)

@[simp] theorem State.shortVerdict_now (l : Line) (m : Option (Nat × Nat)) : (s.shortVerdict l m).now = s.now := by
  unfold State.shortVerdict
  repeat' (first | split | dsimp only)
  all_goals simp
@[simp] theorem State.shortVerdict_sense (l : Line) (m : Option (Nat × Nat)) : (s.shortVerdict l m).sense = s.sense := by
  unfold State.shortVerdict
  repeat' (first | split | dsimp only)
  all_goals simp
@[simp] theorem State.shortVerdict_line (l : Line) (m : Option (Nat × Nat)) : (s.shortVerdict l m).line = s.line := by
  unfold State.shortVerdict
  repeat' (first | split | dsimp only)
  all_goals simp
@[simp] theorem State.shortVerdict_walker (l : Line) (m : Option (Nat × Nat)) : (s.shortVerdict l m).walker = s.walker := by
  unfold State.shortVerdict
  repeat' (first | split | dsimp only)
  all_goals simp
@[simp] theorem State.shortVerdict_units (l : Line) (m : Option (Nat × Nat)) : (s.shortVerdict l m).units = s.units := by
  unfold State.shortVerdict
  repeat' (first | split | dsimp only)
  all_goals simp
@[simp] theorem State.shortVerdict_cache (l : Line) (m : Option (Nat × Nat)) : (s.shortVerdict l m).cache = s.cache := by
  unfold State.shortVerdict
  repeat' (first | split | dsimp only)
  all_goals simp
@[simp] theorem State.shortVerdict_flash (l : Line) (m : Option (Nat × Nat)) : (s.shortVerdict l m).flash = s.flash := by
  unfold State.shortVerdict
  repeat' (first | split | dsimp only)
  all_goals simp
@[simp] theorem State.shortVerdict_claims (l : Line) (m : Option (Nat × Nat)) : (s.shortVerdict l m).claims = s.claims := by
  unfold State.shortVerdict
  repeat' (first | split | dsimp only)
  all_goals simp
@[simp] theorem State.shortVerdict_settings (l : Line) (m : Option (Nat × Nat)) : (s.shortVerdict l m).settings = s.settings := by
  unfold State.shortVerdict
  repeat' (first | split | dsimp only)
  all_goals simp
@[simp] theorem State.shortVerdict_setup (l : Line) (m : Option (Nat × Nat)) : (s.shortVerdict l m).setup = s.setup := by
  unfold State.shortVerdict
  repeat' (first | split | dsimp only)
  all_goals simp
@[simp] theorem State.shortVerdict_pending (l : Line) (m : Option (Nat × Nat)) : (s.shortVerdict l m).pending = s.pending := by
  unfold State.shortVerdict
  repeat' (first | split | dsimp only)
  all_goals simp
@[simp] theorem State.shortVerdict_inlets (l : Line) (m : Option (Nat × Nat)) : (s.shortVerdict l m).inlets = s.inlets := by
  unfold State.shortVerdict
  repeat' (first | split | dsimp only)
  all_goals first | (simp; done) | (simp; rfl) | rfl

@[simp] theorem State.classified_now (l : Line) (m u : Nat) : (s.classified l m u).now = s.now := by
  unfold State.classified
  repeat' (first | split | dsimp only)
  all_goals simp
@[simp] theorem State.classified_sense (l : Line) (m u : Nat) : (s.classified l m u).sense = s.sense := by
  unfold State.classified
  repeat' (first | split | dsimp only)
  all_goals simp
@[simp] theorem State.classified_line (l : Line) (m u : Nat) : (s.classified l m u).line = s.line := by
  unfold State.classified
  repeat' (first | split | dsimp only)
  all_goals simp
@[simp] theorem State.classified_walker (l : Line) (m u : Nat) : (s.classified l m u).walker = s.walker := by
  unfold State.classified
  repeat' (first | split | dsimp only)
  all_goals simp
@[simp] theorem State.classified_units (l : Line) (m u : Nat) : (s.classified l m u).units = s.units := by
  unfold State.classified
  repeat' (first | split | dsimp only)
  all_goals simp
@[simp] theorem State.classified_cache (l : Line) (m u : Nat) : (s.classified l m u).cache = s.cache := by
  unfold State.classified
  repeat' (first | split | dsimp only)
  all_goals simp
@[simp] theorem State.classified_flash (l : Line) (m u : Nat) : (s.classified l m u).flash = s.flash := by
  unfold State.classified
  repeat' (first | split | dsimp only)
  all_goals simp
@[simp] theorem State.classified_claims (l : Line) (m u : Nat) : (s.classified l m u).claims = s.claims := by
  unfold State.classified
  repeat' (first | split | dsimp only)
  all_goals simp
@[simp] theorem State.classified_settings (l : Line) (m u : Nat) : (s.classified l m u).settings = s.settings := by
  unfold State.classified
  repeat' (first | split | dsimp only)
  all_goals simp
@[simp] theorem State.classified_setup (l : Line) (m u : Nat) : (s.classified l m u).setup = s.setup := by
  unfold State.classified
  repeat' (first | split | dsimp only)
  all_goals simp
@[simp] theorem State.classified_pending (l : Line) (m u : Nat) : (s.classified l m u).pending = s.pending := by
  unfold State.classified
  repeat' (first | split | dsimp only)
  all_goals simp
@[simp] theorem State.classified_inlets (l : Line) (m u : Nat) : (s.classified l m u).inlets = s.inlets := by
  unfold State.classified
  repeat' (first | split | dsimp only)
  all_goals first | (simp; done) | (simp; rfl) | rfl

@[simp] theorem State.noticeTrip_now (l : Line) : (s.noticeTrip l).now = s.now := by simp [State.noticeTrip]
@[simp] theorem State.noticeTrip_comb (l : Line) : (s.noticeTrip l).comb = s.comb := by simp [State.noticeTrip]
@[simp] theorem State.noticeTrip_sense (l : Line) : (s.noticeTrip l).sense = s.sense := by simp [State.noticeTrip]
@[simp] theorem State.noticeTrip_line (l : Line) : (s.noticeTrip l).line = s.line := by simp [State.noticeTrip]
@[simp] theorem State.noticeTrip_walker (l : Line) : (s.noticeTrip l).walker = s.walker := by simp [State.noticeTrip]
@[simp] theorem State.noticeTrip_units (l : Line) : (s.noticeTrip l).units = s.units := by simp [State.noticeTrip]
@[simp] theorem State.noticeTrip_cache (l : Line) : (s.noticeTrip l).cache = s.cache := by simp [State.noticeTrip]
@[simp] theorem State.noticeTrip_lamps (l : Line) : (s.noticeTrip l).lamps = s.lamps := by simp [State.noticeTrip]
@[simp] theorem State.noticeTrip_flash (l : Line) : (s.noticeTrip l).flash = s.flash := by simp [State.noticeTrip]
@[simp] theorem State.noticeTrip_claims (l : Line) : (s.noticeTrip l).claims = s.claims := by simp [State.noticeTrip]
@[simp] theorem State.noticeTrip_settings (l : Line) : (s.noticeTrip l).settings = s.settings := by simp [State.noticeTrip]
@[simp] theorem State.noticeTrip_setup (l : Line) : (s.noticeTrip l).setup = s.setup := by simp [State.noticeTrip]
@[simp] theorem State.noticeTrip_pending (l : Line) : (s.noticeTrip l).pending = s.pending := by simp [State.noticeTrip]
@[simp] theorem State.noticeTrip_inlets (l : Line) : (s.noticeTrip l).inlets = s.inlets := by first | (simp [State.noticeTrip]; done) | (simp [State.noticeTrip]; rfl) | (unfold State.noticeTrip; rfl)
@[simp] theorem State.noticeTrip_tallies (l : Line) : (s.noticeTrip l).tallies = s.tallies := by first | (simp [State.noticeTrip]; done) | (simp [State.noticeTrip]; rfl) | (unfold State.noticeTrip; rfl)

@[simp] theorem State.tripLine_now (l : Line) (m : Option (Nat × Nat)) : (s.tripLine l m).now = s.now := by simp [State.tripLine]
@[simp] theorem State.tripLine_sense (l : Line) (m : Option (Nat × Nat)) : (s.tripLine l m).sense = s.sense := by simp [State.tripLine]
@[simp] theorem State.tripLine_line (l : Line) (m : Option (Nat × Nat)) : (s.tripLine l m).line = s.line := by simp [State.tripLine]
@[simp] theorem State.tripLine_walker (l : Line) (m : Option (Nat × Nat)) : (s.tripLine l m).walker = s.walker := by simp [State.tripLine]
@[simp] theorem State.tripLine_units (l : Line) (m : Option (Nat × Nat)) : (s.tripLine l m).units = s.units := by simp [State.tripLine]
@[simp] theorem State.tripLine_cache (l : Line) (m : Option (Nat × Nat)) : (s.tripLine l m).cache = s.cache := by simp [State.tripLine]
@[simp] theorem State.tripLine_flash (l : Line) (m : Option (Nat × Nat)) : (s.tripLine l m).flash = s.flash := by simp [State.tripLine]
@[simp] theorem State.tripLine_claims (l : Line) (m : Option (Nat × Nat)) : (s.tripLine l m).claims = s.claims := by simp [State.tripLine]
@[simp] theorem State.tripLine_settings (l : Line) (m : Option (Nat × Nat)) : (s.tripLine l m).settings = s.settings := by simp [State.tripLine]
@[simp] theorem State.tripLine_setup (l : Line) (m : Option (Nat × Nat)) : (s.tripLine l m).setup = s.setup := by simp [State.tripLine]
@[simp] theorem State.tripLine_pending (l : Line) (m : Option (Nat × Nat)) : (s.tripLine l m).pending = s.pending := by simp [State.tripLine]
@[simp] theorem State.tripLine_inlets (l : Line) (m : Option (Nat × Nat)) : (s.tripLine l m).inlets = s.inlets := by first | (simp [State.tripLine]; done) | (simp [State.tripLine]; rfl) | (unfold State.tripLine; rfl)

@[simp] theorem State.measure_now (l : Line) (m u : Nat) : (s.measure l m u).now = s.now := by
  unfold State.measure
  repeat' (first | split | dsimp only)
  all_goals simp
@[simp] theorem State.measure_sense (l : Line) (m u : Nat) : (s.measure l m u).sense = s.sense := by
  unfold State.measure
  repeat' (first | split | dsimp only)
  all_goals simp
@[simp] theorem State.measure_line (l : Line) (m u : Nat) : (s.measure l m u).line = s.line := by
  unfold State.measure
  repeat' (first | split | dsimp only)
  all_goals simp
@[simp] theorem State.measure_walker (l : Line) (m u : Nat) : (s.measure l m u).walker = s.walker := by
  unfold State.measure
  repeat' (first | split | dsimp only)
  all_goals simp
@[simp] theorem State.measure_units (l : Line) (m u : Nat) : (s.measure l m u).units = s.units := by
  unfold State.measure
  repeat' (first | split | dsimp only)
  all_goals simp
@[simp] theorem State.measure_cache (l : Line) (m u : Nat) : (s.measure l m u).cache = s.cache := by
  unfold State.measure
  repeat' (first | split | dsimp only)
  all_goals simp
@[simp] theorem State.measure_flash (l : Line) (m u : Nat) : (s.measure l m u).flash = s.flash := by
  unfold State.measure
  repeat' (first | split | dsimp only)
  all_goals simp
@[simp] theorem State.measure_claims (l : Line) (m u : Nat) : (s.measure l m u).claims = s.claims := by
  unfold State.measure
  repeat' (first | split | dsimp only)
  all_goals simp
@[simp] theorem State.measure_settings (l : Line) (m u : Nat) : (s.measure l m u).settings = s.settings := by
  unfold State.measure
  repeat' (first | split | dsimp only)
  all_goals simp
@[simp] theorem State.measure_setup (l : Line) (m u : Nat) : (s.measure l m u).setup = s.setup := by
  unfold State.measure
  repeat' (first | split | dsimp only)
  all_goals simp
@[simp] theorem State.measure_pending (l : Line) (m u : Nat) : (s.measure l m u).pending = s.pending := by
  unfold State.measure
  repeat' (first | split | dsimp only)
  all_goals simp
@[simp] theorem State.measure_inlets (l : Line) (m u : Nat) : (s.measure l m u).inlets = s.inlets := by
  unfold State.measure
  repeat' (first | split | dsimp only)
  all_goals first | (simp; done) | (simp; rfl) | rfl

@[simp] theorem State.testSubscription_now (p i : Nat) (q : Quality) (k : Slot) : (State.testSubscription p i q s k).now = s.now := by
  unfold State.testSubscription
  repeat' (first | split | dsimp only)
  all_goals simp
@[simp] theorem State.testSubscription_comb (p i : Nat) (q : Quality) (k : Slot) : (State.testSubscription p i q s k).comb = s.comb := by
  unfold State.testSubscription
  repeat' (first | split | dsimp only)
  all_goals simp
@[simp] theorem State.testSubscription_sense (p i : Nat) (q : Quality) (k : Slot) : (State.testSubscription p i q s k).sense = s.sense := by
  unfold State.testSubscription
  repeat' (first | split | dsimp only)
  all_goals simp
@[simp] theorem State.testSubscription_line (p i : Nat) (q : Quality) (k : Slot) : (State.testSubscription p i q s k).line = s.line := by
  unfold State.testSubscription
  repeat' (first | split | dsimp only)
  all_goals simp
@[simp] theorem State.testSubscription_walker (p i : Nat) (q : Quality) (k : Slot) : (State.testSubscription p i q s k).walker = s.walker := by
  unfold State.testSubscription
  repeat' (first | split | dsimp only)
  all_goals simp
@[simp] theorem State.testSubscription_cache (p i : Nat) (q : Quality) (k : Slot) : (State.testSubscription p i q s k).cache = s.cache := by
  unfold State.testSubscription
  repeat' (first | split | dsimp only)
  all_goals simp
@[simp] theorem State.testSubscription_lamps (p i : Nat) (q : Quality) (k : Slot) : (State.testSubscription p i q s k).lamps = s.lamps := by
  unfold State.testSubscription
  repeat' (first | split | dsimp only)
  all_goals simp
@[simp] theorem State.testSubscription_flash (p i : Nat) (q : Quality) (k : Slot) : (State.testSubscription p i q s k).flash = s.flash := by
  unfold State.testSubscription
  repeat' (first | split | dsimp only)
  all_goals simp
@[simp] theorem State.testSubscription_claims (p i : Nat) (q : Quality) (k : Slot) : (State.testSubscription p i q s k).claims = s.claims := by
  unfold State.testSubscription
  repeat' (first | split | dsimp only)
  all_goals simp
@[simp] theorem State.testSubscription_settings (p i : Nat) (q : Quality) (k : Slot) : (State.testSubscription p i q s k).settings = s.settings := by
  unfold State.testSubscription
  repeat' (first | split | dsimp only)
  all_goals simp
@[simp] theorem State.testSubscription_setup (p i : Nat) (q : Quality) (k : Slot) : (State.testSubscription p i q s k).setup = s.setup := by
  unfold State.testSubscription
  repeat' (first | split | dsimp only)
  all_goals simp
@[simp] theorem State.testSubscription_pending (p i : Nat) (q : Quality) (k : Slot) : (State.testSubscription p i q s k).pending = s.pending := by
  unfold State.testSubscription
  repeat' (first | split | dsimp only)
  all_goals simp
@[simp] theorem State.testSubscription_inlets (p i : Nat) (q : Quality) (k : Slot) : (State.testSubscription p i q s k).inlets = s.inlets := by
  unfold State.testSubscription
  repeat' (first | split | dsimp only)
  all_goals simp
@[simp] theorem State.testSubscription_tallies (p i : Nat) (q : Quality) (k : Slot) : (State.testSubscription p i q s k).tallies = s.tallies := by
  unfold State.testSubscription
  repeat' (first | split | dsimp only)
  all_goals simp
@[simp] theorem State.testSubscriptions_now (p i : Nat) (q : Quality) : (s.testSubscriptions p i q).now = s.now := foldl_keeps (fun t => State.now t) _ (fun t k => t.testSubscription_now p i q k) _ _
@[simp] theorem State.testSubscriptions_comb (p i : Nat) (q : Quality) : (s.testSubscriptions p i q).comb = s.comb := foldl_keeps (fun t => State.comb t) _ (fun t k => t.testSubscription_comb p i q k) _ _
@[simp] theorem State.testSubscriptions_sense (p i : Nat) (q : Quality) : (s.testSubscriptions p i q).sense = s.sense := foldl_keeps (fun t => State.sense t) _ (fun t k => t.testSubscription_sense p i q k) _ _
@[simp] theorem State.testSubscriptions_line (p i : Nat) (q : Quality) : (s.testSubscriptions p i q).line = s.line := foldl_keeps (fun t => State.line t) _ (fun t k => t.testSubscription_line p i q k) _ _
@[simp] theorem State.testSubscriptions_walker (p i : Nat) (q : Quality) : (s.testSubscriptions p i q).walker = s.walker := foldl_keeps (fun t => State.walker t) _ (fun t k => t.testSubscription_walker p i q k) _ _
@[simp] theorem State.testSubscriptions_cache (p i : Nat) (q : Quality) : (s.testSubscriptions p i q).cache = s.cache := foldl_keeps (fun t => State.cache t) _ (fun t k => t.testSubscription_cache p i q k) _ _
@[simp] theorem State.testSubscriptions_lamps (p i : Nat) (q : Quality) : (s.testSubscriptions p i q).lamps = s.lamps := foldl_keeps (fun t => State.lamps t) _ (fun t k => t.testSubscription_lamps p i q k) _ _
@[simp] theorem State.testSubscriptions_flash (p i : Nat) (q : Quality) : (s.testSubscriptions p i q).flash = s.flash := foldl_keeps (fun t => State.flash t) _ (fun t k => t.testSubscription_flash p i q k) _ _
@[simp] theorem State.testSubscriptions_claims (p i : Nat) (q : Quality) : (s.testSubscriptions p i q).claims = s.claims := foldl_keeps (fun t => State.claims t) _ (fun t k => t.testSubscription_claims p i q k) _ _
@[simp] theorem State.testSubscriptions_settings (p i : Nat) (q : Quality) : (s.testSubscriptions p i q).settings = s.settings := foldl_keeps (fun t => State.settings t) _ (fun t k => t.testSubscription_settings p i q k) _ _
@[simp] theorem State.testSubscriptions_setup (p i : Nat) (q : Quality) : (s.testSubscriptions p i q).setup = s.setup := foldl_keeps (fun t => State.setup t) _ (fun t k => t.testSubscription_setup p i q k) _ _
@[simp] theorem State.testSubscriptions_pending (p i : Nat) (q : Quality) : (s.testSubscriptions p i q).pending = s.pending := foldl_keeps (fun t => State.pending t) _ (fun t k => t.testSubscription_pending p i q k) _ _
@[simp] theorem State.testSubscriptions_inlets (p i : Nat) (q : Quality) : (s.testSubscriptions p i q).inlets = s.inlets := foldl_keeps (fun t => State.inlets t) _ (fun t k => t.testSubscription_inlets p i q k) _ _
@[simp] theorem State.testSubscriptions_tallies (p i : Nat) (q : Quality) : (s.testSubscriptions p i q).tallies = s.tallies := foldl_keeps (fun t => State.tallies t) _ (fun t k => t.testSubscription_tallies p i q k) _ _

@[simp] theorem State.pollAnswered_now (p i : Nat) (d : List Byte) (b : Bool) : (s.pollAnswered p i d b).now = s.now := by
  unfold State.pollAnswered
  repeat' (first | split | dsimp only)
  all_goals simp
@[simp] theorem State.pollAnswered_comb (p i : Nat) (d : List Byte) (b : Bool) : (s.pollAnswered p i d b).comb = s.comb := by
  unfold State.pollAnswered
  repeat' (first | split | dsimp only)
  all_goals simp
@[simp] theorem State.pollAnswered_sense (p i : Nat) (d : List Byte) (b : Bool) : (s.pollAnswered p i d b).sense = s.sense := by
  unfold State.pollAnswered
  repeat' (first | split | dsimp only)
  all_goals simp
@[simp] theorem State.pollAnswered_line (p i : Nat) (d : List Byte) (b : Bool) : (s.pollAnswered p i d b).line = s.line := by
  unfold State.pollAnswered
  repeat' (first | split | dsimp only)
  all_goals simp
@[simp] theorem State.pollAnswered_walker (p i : Nat) (d : List Byte) (b : Bool) : (s.pollAnswered p i d b).walker = s.walker := by
  unfold State.pollAnswered
  repeat' (first | split | dsimp only)
  all_goals simp
@[simp] theorem State.pollAnswered_cache (p i : Nat) (d : List Byte) (b : Bool) : (s.pollAnswered p i d b).cache = s.cache := by
  unfold State.pollAnswered
  repeat' (first | split | dsimp only)
  all_goals simp
@[simp] theorem State.pollAnswered_lamps (p i : Nat) (d : List Byte) (b : Bool) : (s.pollAnswered p i d b).lamps = s.lamps := by
  unfold State.pollAnswered
  repeat' (first | split | dsimp only)
  all_goals simp
@[simp] theorem State.pollAnswered_flash (p i : Nat) (d : List Byte) (b : Bool) : (s.pollAnswered p i d b).flash = s.flash := by
  unfold State.pollAnswered
  repeat' (first | split | dsimp only)
  all_goals simp
@[simp] theorem State.pollAnswered_claims (p i : Nat) (d : List Byte) (b : Bool) : (s.pollAnswered p i d b).claims = s.claims := by
  unfold State.pollAnswered
  repeat' (first | split | dsimp only)
  all_goals simp
@[simp] theorem State.pollAnswered_settings (p i : Nat) (d : List Byte) (b : Bool) : (s.pollAnswered p i d b).settings = s.settings := by
  unfold State.pollAnswered
  repeat' (first | split | dsimp only)
  all_goals simp
@[simp] theorem State.pollAnswered_setup (p i : Nat) (d : List Byte) (b : Bool) : (s.pollAnswered p i d b).setup = s.setup := by
  unfold State.pollAnswered
  repeat' (first | split | dsimp only)
  all_goals simp
@[simp] theorem State.pollAnswered_pending (p i : Nat) (d : List Byte) (b : Bool) : (s.pollAnswered p i d b).pending = s.pending := by
  unfold State.pollAnswered
  repeat' (first | split | dsimp only)
  all_goals simp
@[simp] theorem State.pollAnswered_inlets (p i : Nat) (d : List Byte) (b : Bool) : (s.pollAnswered p i d b).inlets = s.inlets := by
  unfold State.pollAnswered
  repeat' (first | split | dsimp only)
  all_goals first | (simp; done) | (simp; rfl) | rfl
@[simp] theorem State.pollAnswered_tallies (p i : Nat) (d : List Byte) (b : Bool) : (s.pollAnswered p i d b).tallies = s.tallies := by
  unfold State.pollAnswered
  repeat' (first | split | dsimp only)
  all_goals first | (simp; done) | (simp; rfl) | rfl

@[simp] theorem State.pollUnanswered_now (p i : Nat) : (s.pollUnanswered p i).now = s.now := by
  unfold State.pollUnanswered
  repeat' (first | split | dsimp only)
  all_goals simp
@[simp] theorem State.pollUnanswered_comb (p i : Nat) : (s.pollUnanswered p i).comb = s.comb := by
  unfold State.pollUnanswered
  repeat' (first | split | dsimp only)
  all_goals simp
@[simp] theorem State.pollUnanswered_sense (p i : Nat) : (s.pollUnanswered p i).sense = s.sense := by
  unfold State.pollUnanswered
  repeat' (first | split | dsimp only)
  all_goals simp
@[simp] theorem State.pollUnanswered_line (p i : Nat) : (s.pollUnanswered p i).line = s.line := by
  unfold State.pollUnanswered
  repeat' (first | split | dsimp only)
  all_goals simp
@[simp] theorem State.pollUnanswered_walker (p i : Nat) : (s.pollUnanswered p i).walker = s.walker := by
  unfold State.pollUnanswered
  repeat' (first | split | dsimp only)
  all_goals simp
@[simp] theorem State.pollUnanswered_cache (p i : Nat) : (s.pollUnanswered p i).cache = s.cache := by
  unfold State.pollUnanswered
  repeat' (first | split | dsimp only)
  all_goals simp
@[simp] theorem State.pollUnanswered_lamps (p i : Nat) : (s.pollUnanswered p i).lamps = s.lamps := by
  unfold State.pollUnanswered
  repeat' (first | split | dsimp only)
  all_goals simp
@[simp] theorem State.pollUnanswered_flash (p i : Nat) : (s.pollUnanswered p i).flash = s.flash := by
  unfold State.pollUnanswered
  repeat' (first | split | dsimp only)
  all_goals simp
@[simp] theorem State.pollUnanswered_claims (p i : Nat) : (s.pollUnanswered p i).claims = s.claims := by
  unfold State.pollUnanswered
  repeat' (first | split | dsimp only)
  all_goals simp
@[simp] theorem State.pollUnanswered_slots (p i : Nat) : (s.pollUnanswered p i).slots = s.slots := by
  unfold State.pollUnanswered
  repeat' (first | split | dsimp only)
  all_goals simp
@[simp] theorem State.pollUnanswered_settings (p i : Nat) : (s.pollUnanswered p i).settings = s.settings := by
  unfold State.pollUnanswered
  repeat' (first | split | dsimp only)
  all_goals simp
@[simp] theorem State.pollUnanswered_setup (p i : Nat) : (s.pollUnanswered p i).setup = s.setup := by
  unfold State.pollUnanswered
  repeat' (first | split | dsimp only)
  all_goals simp
@[simp] theorem State.pollUnanswered_port (p i : Nat) : (s.pollUnanswered p i).port = s.port := by
  unfold State.pollUnanswered
  repeat' (first | split | dsimp only)
  all_goals simp
@[simp] theorem State.pollUnanswered_counters (p i : Nat) : (s.pollUnanswered p i).counters = s.counters := by
  unfold State.pollUnanswered
  repeat' (first | split | dsimp only)
  all_goals simp
@[simp] theorem State.pollUnanswered_pending (p i : Nat) : (s.pollUnanswered p i).pending = s.pending := by
  unfold State.pollUnanswered
  repeat' (first | split | dsimp only)
  all_goals simp
@[simp] theorem State.pollUnanswered_inlets (p i : Nat) : (s.pollUnanswered p i).inlets = s.inlets := by
  unfold State.pollUnanswered
  repeat' (first | split | dsimp only)
  all_goals first | (simp; done) | (simp; rfl) | rfl
@[simp] theorem State.pollUnanswered_tallies (p i : Nat) : (s.pollUnanswered p i).tallies = s.tallies := by
  unfold State.pollUnanswered
  repeat' (first | split | dsimp only)
  all_goals first | (simp; done) | (simp; rfl) | rfl

@[simp] theorem State.handRear_now (p : Nat) (b : Bool) : (s.handRear p b).now = s.now := by
  unfold State.handRear
  repeat' (first | split | dsimp only)
  all_goals simp
@[simp] theorem State.handRear_comb (p : Nat) (b : Bool) : (s.handRear p b).comb = s.comb := by
  unfold State.handRear
  repeat' (first | split | dsimp only)
  all_goals simp
@[simp] theorem State.handRear_sense (p : Nat) (b : Bool) : (s.handRear p b).sense = s.sense := by
  unfold State.handRear
  repeat' (first | split | dsimp only)
  all_goals simp
@[simp] theorem State.handRear_line (p : Nat) (b : Bool) : (s.handRear p b).line = s.line := by
  unfold State.handRear
  repeat' (first | split | dsimp only)
  all_goals simp
@[simp] theorem State.handRear_units (p : Nat) (b : Bool) : (s.handRear p b).units = s.units := by
  unfold State.handRear
  repeat' (first | split | dsimp only)
  all_goals simp
@[simp] theorem State.handRear_cache (p : Nat) (b : Bool) : (s.handRear p b).cache = s.cache := by
  unfold State.handRear
  repeat' (first | split | dsimp only)
  all_goals simp
@[simp] theorem State.handRear_lamps (p : Nat) (b : Bool) : (s.handRear p b).lamps = s.lamps := by
  unfold State.handRear
  repeat' (first | split | dsimp only)
  all_goals simp
@[simp] theorem State.handRear_flash (p : Nat) (b : Bool) : (s.handRear p b).flash = s.flash := by
  unfold State.handRear
  repeat' (first | split | dsimp only)
  all_goals simp
@[simp] theorem State.handRear_claims (p : Nat) (b : Bool) : (s.handRear p b).claims = s.claims := by
  unfold State.handRear
  repeat' (first | split | dsimp only)
  all_goals simp
@[simp] theorem State.handRear_slots (p : Nat) (b : Bool) : (s.handRear p b).slots = s.slots := by
  unfold State.handRear
  repeat' (first | split | dsimp only)
  all_goals simp
@[simp] theorem State.handRear_settings (p : Nat) (b : Bool) : (s.handRear p b).settings = s.settings := by
  unfold State.handRear
  repeat' (first | split | dsimp only)
  all_goals simp
@[simp] theorem State.handRear_setup (p : Nat) (b : Bool) : (s.handRear p b).setup = s.setup := by
  unfold State.handRear
  repeat' (first | split | dsimp only)
  all_goals simp
@[simp] theorem State.handRear_port (p : Nat) (b : Bool) : (s.handRear p b).port = s.port := by
  unfold State.handRear
  repeat' (first | split | dsimp only)
  all_goals simp
@[simp] theorem State.handRear_counters (p : Nat) (b : Bool) : (s.handRear p b).counters = s.counters := by
  unfold State.handRear
  repeat' (first | split | dsimp only)
  all_goals simp
@[simp] theorem State.handRear_pending (p : Nat) (b : Bool) : (s.handRear p b).pending = s.pending := by
  unfold State.handRear
  repeat' (first | split | dsimp only)
  all_goals simp
@[simp] theorem State.handRear_inlets (p : Nat) (b : Bool) : (s.handRear p b).inlets = s.inlets := by
  unfold State.handRear
  repeat' (first | split | dsimp only)
  all_goals first | (simp; done) | (simp; rfl) | rfl
@[simp] theorem State.handRear_tallies (p : Nat) (b : Bool) : (s.handRear p b).tallies = s.tallies := by
  unfold State.handRear
  repeat' (first | split | dsimp only)
  all_goals first | (simp; done) | (simp; rfl) | rfl

@[simp] theorem State.handLampFault_now (p : Nat) (b : Bool) : (s.handLampFault p b).now = s.now := by
  unfold State.handLampFault
  repeat' (first | split | dsimp only)
  all_goals simp
@[simp] theorem State.handLampFault_comb (p : Nat) (b : Bool) : (s.handLampFault p b).comb = s.comb := by
  unfold State.handLampFault
  repeat' (first | split | dsimp only)
  all_goals simp
@[simp] theorem State.handLampFault_sense (p : Nat) (b : Bool) : (s.handLampFault p b).sense = s.sense := by
  unfold State.handLampFault
  repeat' (first | split | dsimp only)
  all_goals simp
@[simp] theorem State.handLampFault_line (p : Nat) (b : Bool) : (s.handLampFault p b).line = s.line := by
  unfold State.handLampFault
  repeat' (first | split | dsimp only)
  all_goals simp
@[simp] theorem State.handLampFault_units (p : Nat) (b : Bool) : (s.handLampFault p b).units = s.units := by
  unfold State.handLampFault
  repeat' (first | split | dsimp only)
  all_goals simp
@[simp] theorem State.handLampFault_cache (p : Nat) (b : Bool) : (s.handLampFault p b).cache = s.cache := by
  unfold State.handLampFault
  repeat' (first | split | dsimp only)
  all_goals simp
@[simp] theorem State.handLampFault_lamps (p : Nat) (b : Bool) : (s.handLampFault p b).lamps = s.lamps := by
  unfold State.handLampFault
  repeat' (first | split | dsimp only)
  all_goals simp
@[simp] theorem State.handLampFault_flash (p : Nat) (b : Bool) : (s.handLampFault p b).flash = s.flash := by
  unfold State.handLampFault
  repeat' (first | split | dsimp only)
  all_goals simp
@[simp] theorem State.handLampFault_claims (p : Nat) (b : Bool) : (s.handLampFault p b).claims = s.claims := by
  unfold State.handLampFault
  repeat' (first | split | dsimp only)
  all_goals simp
@[simp] theorem State.handLampFault_slots (p : Nat) (b : Bool) : (s.handLampFault p b).slots = s.slots := by
  unfold State.handLampFault
  repeat' (first | split | dsimp only)
  all_goals simp
@[simp] theorem State.handLampFault_settings (p : Nat) (b : Bool) : (s.handLampFault p b).settings = s.settings := by
  unfold State.handLampFault
  repeat' (first | split | dsimp only)
  all_goals simp
@[simp] theorem State.handLampFault_setup (p : Nat) (b : Bool) : (s.handLampFault p b).setup = s.setup := by
  unfold State.handLampFault
  repeat' (first | split | dsimp only)
  all_goals simp
@[simp] theorem State.handLampFault_port (p : Nat) (b : Bool) : (s.handLampFault p b).port = s.port := by
  unfold State.handLampFault
  repeat' (first | split | dsimp only)
  all_goals simp
@[simp] theorem State.handLampFault_counters (p : Nat) (b : Bool) : (s.handLampFault p b).counters = s.counters := by
  unfold State.handLampFault
  repeat' (first | split | dsimp only)
  all_goals simp
@[simp] theorem State.handLampFault_pending (p : Nat) (b : Bool) : (s.handLampFault p b).pending = s.pending := by
  unfold State.handLampFault
  repeat' (first | split | dsimp only)
  all_goals simp
@[simp] theorem State.handLampFault_inlets (p : Nat) (b : Bool) : (s.handLampFault p b).inlets = s.inlets := by
  unfold State.handLampFault
  repeat' (first | split | dsimp only)
  all_goals first | (simp; done) | (simp; rfl) | rfl
@[simp] theorem State.handLampFault_tallies (p : Nat) (b : Bool) : (s.handLampFault p b).tallies = s.tallies := by
  unfold State.handLampFault
  repeat' (first | split | dsimp only)
  all_goals first | (simp; done) | (simp; rfl) | rfl

@[simp] theorem State.handFlags_now (p : Nat) (b : Byte) : (s.handFlags p b).now = s.now := by
  unfold State.handFlags
  repeat' (first | split | dsimp only)
  all_goals simp
@[simp] theorem State.handFlags_comb (p : Nat) (b : Byte) : (s.handFlags p b).comb = s.comb := by
  unfold State.handFlags
  repeat' (first | split | dsimp only)
  all_goals simp
@[simp] theorem State.handFlags_sense (p : Nat) (b : Byte) : (s.handFlags p b).sense = s.sense := by
  unfold State.handFlags
  repeat' (first | split | dsimp only)
  all_goals simp
@[simp] theorem State.handFlags_line (p : Nat) (b : Byte) : (s.handFlags p b).line = s.line := by
  unfold State.handFlags
  repeat' (first | split | dsimp only)
  all_goals simp
@[simp] theorem State.handFlags_units (p : Nat) (b : Byte) : (s.handFlags p b).units = s.units := by
  unfold State.handFlags
  repeat' (first | split | dsimp only)
  all_goals simp
@[simp] theorem State.handFlags_cache (p : Nat) (b : Byte) : (s.handFlags p b).cache = s.cache := by
  unfold State.handFlags
  repeat' (first | split | dsimp only)
  all_goals simp
@[simp] theorem State.handFlags_lamps (p : Nat) (b : Byte) : (s.handFlags p b).lamps = s.lamps := by
  unfold State.handFlags
  repeat' (first | split | dsimp only)
  all_goals simp
@[simp] theorem State.handFlags_flash (p : Nat) (b : Byte) : (s.handFlags p b).flash = s.flash := by
  unfold State.handFlags
  repeat' (first | split | dsimp only)
  all_goals simp
@[simp] theorem State.handFlags_claims (p : Nat) (b : Byte) : (s.handFlags p b).claims = s.claims := by
  unfold State.handFlags
  repeat' (first | split | dsimp only)
  all_goals simp
@[simp] theorem State.handFlags_slots (p : Nat) (b : Byte) : (s.handFlags p b).slots = s.slots := by
  unfold State.handFlags
  repeat' (first | split | dsimp only)
  all_goals simp
@[simp] theorem State.handFlags_settings (p : Nat) (b : Byte) : (s.handFlags p b).settings = s.settings := by
  unfold State.handFlags
  repeat' (first | split | dsimp only)
  all_goals simp
@[simp] theorem State.handFlags_setup (p : Nat) (b : Byte) : (s.handFlags p b).setup = s.setup := by
  unfold State.handFlags
  repeat' (first | split | dsimp only)
  all_goals simp
@[simp] theorem State.handFlags_port (p : Nat) (b : Byte) : (s.handFlags p b).port = s.port := by
  unfold State.handFlags
  repeat' (first | split | dsimp only)
  all_goals simp
@[simp] theorem State.handFlags_counters (p : Nat) (b : Byte) : (s.handFlags p b).counters = s.counters := by
  unfold State.handFlags
  repeat' (first | split | dsimp only)
  all_goals simp
@[simp] theorem State.handFlags_pending (p : Nat) (b : Byte) : (s.handFlags p b).pending = s.pending := by
  unfold State.handFlags
  repeat' (first | split | dsimp only)
  all_goals simp
@[simp] theorem State.handFlags_inlets (p : Nat) (b : Byte) : (s.handFlags p b).inlets = s.inlets := by
  unfold State.handFlags
  repeat' (first | split | dsimp only)
  all_goals first | (simp; done) | (simp; rfl) | rfl
@[simp] theorem State.handFlags_tallies (p : Nat) (b : Byte) : (s.handFlags p b).tallies = s.tallies := by
  unfold State.handFlags
  repeat' (first | split | dsimp only)
  all_goals first | (simp; done) | (simp; rfl) | rfl

@[simp] theorem State.offerNext_now : (s.offerNext).now = s.now := by
  unfold State.offerNext
  repeat' (first | split | dsimp only)
  all_goals simp
@[simp] theorem State.offerNext_comb : (s.offerNext).comb = s.comb := by
  unfold State.offerNext
  repeat' (first | split | dsimp only)
  all_goals simp
@[simp] theorem State.offerNext_sense : (s.offerNext).sense = s.sense := by
  unfold State.offerNext
  repeat' (first | split | dsimp only)
  all_goals simp
@[simp] theorem State.offerNext_line : (s.offerNext).line = s.line := by
  unfold State.offerNext
  repeat' (first | split | dsimp only)
  all_goals simp
@[simp] theorem State.offerNext_units : (s.offerNext).units = s.units := by
  unfold State.offerNext
  repeat' (first | split | dsimp only)
  all_goals simp
@[simp] theorem State.offerNext_cache : (s.offerNext).cache = s.cache := by
  unfold State.offerNext
  repeat' (first | split | dsimp only)
  all_goals simp
@[simp] theorem State.offerNext_lamps : (s.offerNext).lamps = s.lamps := by
  unfold State.offerNext
  repeat' (first | split | dsimp only)
  all_goals simp
@[simp] theorem State.offerNext_flash : (s.offerNext).flash = s.flash := by
  unfold State.offerNext
  repeat' (first | split | dsimp only)
  all_goals simp
@[simp] theorem State.offerNext_claims : (s.offerNext).claims = s.claims := by
  unfold State.offerNext
  repeat' (first | split | dsimp only)
  all_goals simp
@[simp] theorem State.offerNext_slots : (s.offerNext).slots = s.slots := by
  unfold State.offerNext
  repeat' (first | split | dsimp only)
  all_goals simp
@[simp] theorem State.offerNext_settings : (s.offerNext).settings = s.settings := by
  unfold State.offerNext
  repeat' (first | split | dsimp only)
  all_goals simp
@[simp] theorem State.offerNext_setup : (s.offerNext).setup = s.setup := by
  unfold State.offerNext
  repeat' (first | split | dsimp only)
  all_goals simp
@[simp] theorem State.offerNext_port : (s.offerNext).port = s.port := by
  unfold State.offerNext
  repeat' (first | split | dsimp only)
  all_goals simp
@[simp] theorem State.offerNext_counters : (s.offerNext).counters = s.counters := by
  unfold State.offerNext
  repeat' (first | split | dsimp only)
  all_goals simp
@[simp] theorem State.offerNext_pending : (s.offerNext).pending = s.pending := by
  unfold State.offerNext
  repeat' (first | split | dsimp only)
  all_goals simp
@[simp] theorem State.offerNext_inlets : (s.offerNext).inlets = s.inlets := by
  unfold State.offerNext
  repeat' (first | split | dsimp only)
  all_goals first | (simp; done) | (simp; rfl) | rfl
@[simp] theorem State.offerNext_tallies : (s.offerNext).tallies = s.tallies := by
  unfold State.offerNext
  repeat' (first | split | dsimp only)
  all_goals first | (simp; done) | (simp; rfl) | rfl

@[simp] theorem State.claimStarted_now (p i : Nat) : (s.claimStarted p i).now = s.now := by
  unfold State.claimStarted
  repeat' (first | split | dsimp only)
  all_goals simp
@[simp] theorem State.claimStarted_comb (p i : Nat) : (s.claimStarted p i).comb = s.comb := by
  unfold State.claimStarted
  repeat' (first | split | dsimp only)
  all_goals simp
@[simp] theorem State.claimStarted_sense (p i : Nat) : (s.claimStarted p i).sense = s.sense := by
  unfold State.claimStarted
  repeat' (first | split | dsimp only)
  all_goals simp
@[simp] theorem State.claimStarted_line (p i : Nat) : (s.claimStarted p i).line = s.line := by
  unfold State.claimStarted
  repeat' (first | split | dsimp only)
  all_goals simp
@[simp] theorem State.claimStarted_walker (p i : Nat) : (s.claimStarted p i).walker = s.walker := by
  unfold State.claimStarted
  repeat' (first | split | dsimp only)
  all_goals simp
@[simp] theorem State.claimStarted_units (p i : Nat) : (s.claimStarted p i).units = s.units := by
  unfold State.claimStarted
  repeat' (first | split | dsimp only)
  all_goals simp
@[simp] theorem State.claimStarted_cache (p i : Nat) : (s.claimStarted p i).cache = s.cache := by
  unfold State.claimStarted
  repeat' (first | split | dsimp only)
  all_goals simp
@[simp] theorem State.claimStarted_lamps (p i : Nat) : (s.claimStarted p i).lamps = s.lamps := by
  unfold State.claimStarted
  repeat' (first | split | dsimp only)
  all_goals simp
@[simp] theorem State.claimStarted_flash (p i : Nat) : (s.claimStarted p i).flash = s.flash := by
  unfold State.claimStarted
  repeat' (first | split | dsimp only)
  all_goals simp
@[simp] theorem State.claimStarted_slots (p i : Nat) : (s.claimStarted p i).slots = s.slots := by
  unfold State.claimStarted
  repeat' (first | split | dsimp only)
  all_goals simp
@[simp] theorem State.claimStarted_settings (p i : Nat) : (s.claimStarted p i).settings = s.settings := by
  unfold State.claimStarted
  repeat' (first | split | dsimp only)
  all_goals simp
@[simp] theorem State.claimStarted_setup (p i : Nat) : (s.claimStarted p i).setup = s.setup := by
  unfold State.claimStarted
  repeat' (first | split | dsimp only)
  all_goals simp
@[simp] theorem State.claimStarted_port (p i : Nat) : (s.claimStarted p i).port = s.port := by
  unfold State.claimStarted
  repeat' (first | split | dsimp only)
  all_goals simp
@[simp] theorem State.claimStarted_counters (p i : Nat) : (s.claimStarted p i).counters = s.counters := by
  unfold State.claimStarted
  repeat' (first | split | dsimp only)
  all_goals simp
@[simp] theorem State.claimStarted_pending (p i : Nat) : (s.claimStarted p i).pending = s.pending := by
  unfold State.claimStarted
  repeat' (first | split | dsimp only)
  all_goals simp
@[simp] theorem State.claimStarted_inlets (p i : Nat) : (s.claimStarted p i).inlets = s.inlets := by
  unfold State.claimStarted
  repeat' (first | split | dsimp only)
  all_goals first | (simp; done) | (simp; rfl) | rfl
@[simp] theorem State.claimStarted_tallies (p i : Nat) : (s.claimStarted p i).tallies = s.tallies := by
  unfold State.claimStarted
  repeat' (first | split | dsimp only)
  all_goals first | (simp; done) | (simp; rfl) | rfl

@[simp] theorem State.schedule_now : (s.schedule).now = s.now := by
  unfold State.schedule
  repeat' (first | split | dsimp only)
  all_goals simp
@[simp] theorem State.schedule_comb : (s.schedule).comb = s.comb := by
  unfold State.schedule
  repeat' (first | split | dsimp only)
  all_goals simp
@[simp] theorem State.schedule_sense : (s.schedule).sense = s.sense := by
  unfold State.schedule
  repeat' (first | split | dsimp only)
  all_goals simp
@[simp] theorem State.schedule_cache : (s.schedule).cache = s.cache := by
  unfold State.schedule
  repeat' (first | split | dsimp only)
  all_goals simp
@[simp] theorem State.schedule_lamps : (s.schedule).lamps = s.lamps := by
  unfold State.schedule
  repeat' (first | split | dsimp only)
  all_goals simp
@[simp] theorem State.schedule_flash : (s.schedule).flash = s.flash := by
  unfold State.schedule
  repeat' (first | split | dsimp only)
  all_goals simp
@[simp] theorem State.schedule_slots : (s.schedule).slots = s.slots := by
  unfold State.schedule
  repeat' (first | split | dsimp only)
  all_goals simp
@[simp] theorem State.schedule_settings : (s.schedule).settings = s.settings := by
  unfold State.schedule
  repeat' (first | split | dsimp only)
  all_goals simp
@[simp] theorem State.schedule_setup : (s.schedule).setup = s.setup := by
  unfold State.schedule
  repeat' (first | split | dsimp only)
  all_goals simp
@[simp] theorem State.schedule_port : (s.schedule).port = s.port := by
  unfold State.schedule
  repeat' (first | split | dsimp only)
  all_goals simp
@[simp] theorem State.schedule_counters : (s.schedule).counters = s.counters := by
  unfold State.schedule
  repeat' (first | split | dsimp only)
  all_goals simp
@[simp] theorem State.schedule_pending : (s.schedule).pending = s.pending := by
  unfold State.schedule
  repeat' (first | split | dsimp only)
  all_goals simp
@[simp] theorem State.schedule_inlets : (s.schedule).inlets = s.inlets := by
  unfold State.schedule
  repeat' (first | split | dsimp only)
  all_goals first | (simp; done) | (simp; rfl) | rfl
@[simp] theorem State.schedule_tallies : (s.schedule).tallies = s.tallies := by
  unfold State.schedule
  repeat' (first | split | dsimp only)
  all_goals first | (simp; done) | (simp; rfl) | rfl

@[simp] theorem State.lineWork_now : (s.lineWork).now = s.now := by simp [State.lineWork]
@[simp] theorem State.lineWork_comb : (s.lineWork).comb = s.comb := by simp [State.lineWork]
@[simp] theorem State.lineWork_sense : (s.lineWork).sense = s.sense := by simp [State.lineWork]
@[simp] theorem State.lineWork_cache : (s.lineWork).cache = s.cache := by simp [State.lineWork]
@[simp] theorem State.lineWork_lamps : (s.lineWork).lamps = s.lamps := by simp [State.lineWork]
@[simp] theorem State.lineWork_flash : (s.lineWork).flash = s.flash := by simp [State.lineWork]
@[simp] theorem State.lineWork_slots : (s.lineWork).slots = s.slots := by simp [State.lineWork]
@[simp] theorem State.lineWork_settings : (s.lineWork).settings = s.settings := by simp [State.lineWork]
@[simp] theorem State.lineWork_setup : (s.lineWork).setup = s.setup := by simp [State.lineWork]
@[simp] theorem State.lineWork_port : (s.lineWork).port = s.port := by simp [State.lineWork]
@[simp] theorem State.lineWork_counters : (s.lineWork).counters = s.counters := by simp [State.lineWork]
@[simp] theorem State.lineWork_pending : (s.lineWork).pending = s.pending := by simp [State.lineWork]
@[simp] theorem State.lineWork_inlets : (s.lineWork).inlets = s.inlets := by first | (simp [State.lineWork]; done) | (simp [State.lineWork]; rfl) | (unfold State.lineWork; rfl)
@[simp] theorem State.lineWork_tallies : (s.lineWork).tallies = s.tallies := by first | (simp [State.lineWork]; done) | (simp [State.lineWork]; rfl) | (unfold State.lineWork; rfl)

@[simp] theorem State.endWalk_now : (s.endWalk).now = s.now := by
  unfold State.endWalk
  repeat' (first | split | dsimp only)
  all_goals simp
@[simp] theorem State.endWalk_sense : (s.endWalk).sense = s.sense := by
  unfold State.endWalk
  repeat' (first | split | dsimp only)
  all_goals simp
@[simp] theorem State.endWalk_line : (s.endWalk).line = s.line := by
  unfold State.endWalk
  repeat' (first | split | dsimp only)
  all_goals simp
@[simp] theorem State.endWalk_units : (s.endWalk).units = s.units := by
  unfold State.endWalk
  repeat' (first | split | dsimp only)
  all_goals simp
@[simp] theorem State.endWalk_cache : (s.endWalk).cache = s.cache := by
  unfold State.endWalk
  repeat' (first | split | dsimp only)
  all_goals simp
@[simp] theorem State.endWalk_lamps : (s.endWalk).lamps = s.lamps := by
  unfold State.endWalk
  repeat' (first | split | dsimp only)
  all_goals simp
@[simp] theorem State.endWalk_flash : (s.endWalk).flash = s.flash := by
  unfold State.endWalk
  repeat' (first | split | dsimp only)
  all_goals simp
@[simp] theorem State.endWalk_claims : (s.endWalk).claims = s.claims := by
  unfold State.endWalk
  repeat' (first | split | dsimp only)
  all_goals simp
@[simp] theorem State.endWalk_slots : (s.endWalk).slots = s.slots := by
  unfold State.endWalk
  repeat' (first | split | dsimp only)
  all_goals simp
@[simp] theorem State.endWalk_settings : (s.endWalk).settings = s.settings := by
  unfold State.endWalk
  repeat' (first | split | dsimp only)
  all_goals simp
@[simp] theorem State.endWalk_setup : (s.endWalk).setup = s.setup := by
  unfold State.endWalk
  repeat' (first | split | dsimp only)
  all_goals simp
@[simp] theorem State.endWalk_port : (s.endWalk).port = s.port := by
  unfold State.endWalk
  repeat' (first | split | dsimp only)
  all_goals simp
@[simp] theorem State.endWalk_pending : (s.endWalk).pending = s.pending := by
  unfold State.endWalk
  repeat' (first | split | dsimp only)
  all_goals simp
@[simp] theorem State.endWalk_inlets : (s.endWalk).inlets = s.inlets := by
  unfold State.endWalk
  repeat' (first | split | dsimp only)
  all_goals first | (simp; done) | (simp; rfl) | rfl

@[simp] theorem State.probeUnanswered_now : (s.probeUnanswered).now = s.now := by simp [State.probeUnanswered]
@[simp] theorem State.probeUnanswered_sense : (s.probeUnanswered).sense = s.sense := by simp [State.probeUnanswered]
@[simp] theorem State.probeUnanswered_line : (s.probeUnanswered).line = s.line := by simp [State.probeUnanswered]
@[simp] theorem State.probeUnanswered_units : (s.probeUnanswered).units = s.units := by simp [State.probeUnanswered]
@[simp] theorem State.probeUnanswered_cache : (s.probeUnanswered).cache = s.cache := by simp [State.probeUnanswered]
@[simp] theorem State.probeUnanswered_lamps : (s.probeUnanswered).lamps = s.lamps := by simp [State.probeUnanswered]
@[simp] theorem State.probeUnanswered_flash : (s.probeUnanswered).flash = s.flash := by simp [State.probeUnanswered]
@[simp] theorem State.probeUnanswered_claims : (s.probeUnanswered).claims = s.claims := by simp [State.probeUnanswered]
@[simp] theorem State.probeUnanswered_slots : (s.probeUnanswered).slots = s.slots := by simp [State.probeUnanswered]
@[simp] theorem State.probeUnanswered_settings : (s.probeUnanswered).settings = s.settings := by simp [State.probeUnanswered]
@[simp] theorem State.probeUnanswered_setup : (s.probeUnanswered).setup = s.setup := by simp [State.probeUnanswered]
@[simp] theorem State.probeUnanswered_port : (s.probeUnanswered).port = s.port := by simp [State.probeUnanswered]
@[simp] theorem State.probeUnanswered_pending : (s.probeUnanswered).pending = s.pending := by simp [State.probeUnanswered]
@[simp] theorem State.probeUnanswered_inlets : (s.probeUnanswered).inlets = s.inlets := by first | (simp [State.probeUnanswered]; done) | (simp [State.probeUnanswered]; rfl) | (unfold State.probeUnanswered; rfl)

@[simp] theorem State.probeAnswered_now (w : Word32) (g : Generation) (x : Word16) : (s.probeAnswered w g x).now = s.now := by
  unfold State.probeAnswered
  repeat' (first | split | dsimp only)
  all_goals simp
@[simp] theorem State.probeAnswered_sense (w : Word32) (g : Generation) (x : Word16) : (s.probeAnswered w g x).sense = s.sense := by
  unfold State.probeAnswered
  repeat' (first | split | dsimp only)
  all_goals simp
@[simp] theorem State.probeAnswered_line (w : Word32) (g : Generation) (x : Word16) : (s.probeAnswered w g x).line = s.line := by
  unfold State.probeAnswered
  repeat' (first | split | dsimp only)
  all_goals simp
@[simp] theorem State.probeAnswered_units (w : Word32) (g : Generation) (x : Word16) : (s.probeAnswered w g x).units = s.units := by
  unfold State.probeAnswered
  repeat' (first | split | dsimp only)
  all_goals simp
@[simp] theorem State.probeAnswered_cache (w : Word32) (g : Generation) (x : Word16) : (s.probeAnswered w g x).cache = s.cache := by
  unfold State.probeAnswered
  repeat' (first | split | dsimp only)
  all_goals simp
@[simp] theorem State.probeAnswered_lamps (w : Word32) (g : Generation) (x : Word16) : (s.probeAnswered w g x).lamps = s.lamps := by
  unfold State.probeAnswered
  repeat' (first | split | dsimp only)
  all_goals simp
@[simp] theorem State.probeAnswered_flash (w : Word32) (g : Generation) (x : Word16) : (s.probeAnswered w g x).flash = s.flash := by
  unfold State.probeAnswered
  repeat' (first | split | dsimp only)
  all_goals simp
@[simp] theorem State.probeAnswered_claims (w : Word32) (g : Generation) (x : Word16) : (s.probeAnswered w g x).claims = s.claims := by
  unfold State.probeAnswered
  repeat' (first | split | dsimp only)
  all_goals simp
@[simp] theorem State.probeAnswered_slots (w : Word32) (g : Generation) (x : Word16) : (s.probeAnswered w g x).slots = s.slots := by
  unfold State.probeAnswered
  repeat' (first | split | dsimp only)
  all_goals simp
@[simp] theorem State.probeAnswered_settings (w : Word32) (g : Generation) (x : Word16) : (s.probeAnswered w g x).settings = s.settings := by
  unfold State.probeAnswered
  repeat' (first | split | dsimp only)
  all_goals simp
@[simp] theorem State.probeAnswered_setup (w : Word32) (g : Generation) (x : Word16) : (s.probeAnswered w g x).setup = s.setup := by
  unfold State.probeAnswered
  repeat' (first | split | dsimp only)
  all_goals simp
@[simp] theorem State.probeAnswered_port (w : Word32) (g : Generation) (x : Word16) : (s.probeAnswered w g x).port = s.port := by
  unfold State.probeAnswered
  repeat' (first | split | dsimp only)
  all_goals simp
@[simp] theorem State.probeAnswered_pending (w : Word32) (g : Generation) (x : Word16) : (s.probeAnswered w g x).pending = s.pending := by
  unfold State.probeAnswered
  repeat' (first | split | dsimp only)
  all_goals simp
@[simp] theorem State.probeAnswered_inlets (w : Word32) (g : Generation) (x : Word16) : (s.probeAnswered w g x).inlets = s.inlets := by
  unfold State.probeAnswered
  repeat' (first | split | dsimp only)
  all_goals first | (simp; done) | (simp; rfl) | rfl

@[simp] theorem State.placeRecord_now (u : UnitRecord) : (s.placeRecord u).now = s.now := by
  unfold State.placeRecord
  repeat' (first | split | dsimp only)
  all_goals simp
@[simp] theorem State.placeRecord_comb (u : UnitRecord) : (s.placeRecord u).comb = s.comb := by
  unfold State.placeRecord
  repeat' (first | split | dsimp only)
  all_goals simp
@[simp] theorem State.placeRecord_sense (u : UnitRecord) : (s.placeRecord u).sense = s.sense := by
  unfold State.placeRecord
  repeat' (first | split | dsimp only)
  all_goals simp
@[simp] theorem State.placeRecord_line (u : UnitRecord) : (s.placeRecord u).line = s.line := by
  unfold State.placeRecord
  repeat' (first | split | dsimp only)
  all_goals simp
@[simp] theorem State.placeRecord_walker (u : UnitRecord) : (s.placeRecord u).walker = s.walker := by
  unfold State.placeRecord
  repeat' (first | split | dsimp only)
  all_goals simp
@[simp] theorem State.placeRecord_lamps (u : UnitRecord) : (s.placeRecord u).lamps = s.lamps := by
  unfold State.placeRecord
  repeat' (first | split | dsimp only)
  all_goals simp
@[simp] theorem State.placeRecord_flash (u : UnitRecord) : (s.placeRecord u).flash = s.flash := by
  unfold State.placeRecord
  repeat' (first | split | dsimp only)
  all_goals simp
@[simp] theorem State.placeRecord_claims (u : UnitRecord) : (s.placeRecord u).claims = s.claims := by
  unfold State.placeRecord
  repeat' (first | split | dsimp only)
  all_goals simp
@[simp] theorem State.placeRecord_slots (u : UnitRecord) : (s.placeRecord u).slots = s.slots := by
  unfold State.placeRecord
  repeat' (first | split | dsimp only)
  all_goals simp
@[simp] theorem State.placeRecord_settings (u : UnitRecord) : (s.placeRecord u).settings = s.settings := by
  unfold State.placeRecord
  repeat' (first | split | dsimp only)
  all_goals simp
@[simp] theorem State.placeRecord_setup (u : UnitRecord) : (s.placeRecord u).setup = s.setup := by
  unfold State.placeRecord
  repeat' (first | split | dsimp only)
  all_goals simp
@[simp] theorem State.placeRecord_port (u : UnitRecord) : (s.placeRecord u).port = s.port := by
  unfold State.placeRecord
  repeat' (first | split | dsimp only)
  all_goals simp
@[simp] theorem State.placeRecord_pending (u : UnitRecord) : (s.placeRecord u).pending = s.pending := by
  unfold State.placeRecord
  repeat' (first | split | dsimp only)
  all_goals simp
@[simp] theorem State.placeRecord_inlets (u : UnitRecord) : (s.placeRecord u).inlets = s.inlets := by
  unfold State.placeRecord
  repeat' (first | split | dsimp only)
  all_goals first | (simp; done) | (simp; rfl) | rfl

@[simp] theorem State.placeAccepted_now (p : Nat) (w : Word32) (g : Generation) (x : Word16) : (s.placeAccepted p w g x).now = s.now := by
  unfold State.placeAccepted
  repeat' (first | split | dsimp only)
  all_goals simp
@[simp] theorem State.placeAccepted_sense (p : Nat) (w : Word32) (g : Generation) (x : Word16) : (s.placeAccepted p w g x).sense = s.sense := by
  unfold State.placeAccepted
  repeat' (first | split | dsimp only)
  all_goals simp
@[simp] theorem State.placeAccepted_line (p : Nat) (w : Word32) (g : Generation) (x : Word16) : (s.placeAccepted p w g x).line = s.line := by
  unfold State.placeAccepted
  repeat' (first | split | dsimp only)
  all_goals simp
@[simp] theorem State.placeAccepted_lamps (p : Nat) (w : Word32) (g : Generation) (x : Word16) : (s.placeAccepted p w g x).lamps = s.lamps := by
  unfold State.placeAccepted
  repeat' (first | split | dsimp only)
  all_goals simp
@[simp] theorem State.placeAccepted_flash (p : Nat) (w : Word32) (g : Generation) (x : Word16) : (s.placeAccepted p w g x).flash = s.flash := by
  unfold State.placeAccepted
  repeat' (first | split | dsimp only)
  all_goals simp
@[simp] theorem State.placeAccepted_claims (p : Nat) (w : Word32) (g : Generation) (x : Word16) : (s.placeAccepted p w g x).claims = s.claims := by
  unfold State.placeAccepted
  repeat' (first | split | dsimp only)
  all_goals simp
@[simp] theorem State.placeAccepted_settings (p : Nat) (w : Word32) (g : Generation) (x : Word16) : (s.placeAccepted p w g x).settings = s.settings := by
  unfold State.placeAccepted
  repeat' (first | split | dsimp only)
  all_goals simp
@[simp] theorem State.placeAccepted_setup (p : Nat) (w : Word32) (g : Generation) (x : Word16) : (s.placeAccepted p w g x).setup = s.setup := by
  unfold State.placeAccepted
  repeat' (first | split | dsimp only)
  all_goals simp
@[simp] theorem State.placeAccepted_pending (p : Nat) (w : Word32) (g : Generation) (x : Word16) : (s.placeAccepted p w g x).pending = s.pending := by
  unfold State.placeAccepted
  repeat' (first | split | dsimp only)
  all_goals simp
@[simp] theorem State.placeAccepted_inlets (p : Nat) (w : Word32) (g : Generation) (x : Word16) : (s.placeAccepted p w g x).inlets = s.inlets := by
  unfold State.placeAccepted
  repeat' (first | split | dsimp only)
  all_goals first | (simp; done) | (simp; rfl) | rfl

@[simp] theorem State.refuseUnit_now (p : Nat) (c : RefusalCause) (n : Nat) : (s.refuseUnit p c n).now = s.now := by simp [State.refuseUnit]
@[simp] theorem State.refuseUnit_sense (p : Nat) (c : RefusalCause) (n : Nat) : (s.refuseUnit p c n).sense = s.sense := by simp [State.refuseUnit]
@[simp] theorem State.refuseUnit_line (p : Nat) (c : RefusalCause) (n : Nat) : (s.refuseUnit p c n).line = s.line := by simp [State.refuseUnit]
@[simp] theorem State.refuseUnit_cache (p : Nat) (c : RefusalCause) (n : Nat) : (s.refuseUnit p c n).cache = s.cache := by simp [State.refuseUnit]
@[simp] theorem State.refuseUnit_lamps (p : Nat) (c : RefusalCause) (n : Nat) : (s.refuseUnit p c n).lamps = s.lamps := by simp [State.refuseUnit]
@[simp] theorem State.refuseUnit_flash (p : Nat) (c : RefusalCause) (n : Nat) : (s.refuseUnit p c n).flash = s.flash := by simp [State.refuseUnit]
@[simp] theorem State.refuseUnit_claims (p : Nat) (c : RefusalCause) (n : Nat) : (s.refuseUnit p c n).claims = s.claims := by simp [State.refuseUnit]
@[simp] theorem State.refuseUnit_settings (p : Nat) (c : RefusalCause) (n : Nat) : (s.refuseUnit p c n).settings = s.settings := by simp [State.refuseUnit]
@[simp] theorem State.refuseUnit_setup (p : Nat) (c : RefusalCause) (n : Nat) : (s.refuseUnit p c n).setup = s.setup := by simp [State.refuseUnit]
@[simp] theorem State.refuseUnit_pending (p : Nat) (c : RefusalCause) (n : Nat) : (s.refuseUnit p c n).pending = s.pending := by simp [State.refuseUnit]
@[simp] theorem State.refuseUnit_inlets (p : Nat) (c : RefusalCause) (n : Nat) : (s.refuseUnit p c n).inlets = s.inlets := by first | (simp [State.refuseUnit]; done) | (simp [State.refuseUnit]; rfl) | (unfold State.refuseUnit; rfl)
@[simp] theorem State.refuseUnit_tallies (p : Nat) (c : RefusalCause) (n : Nat) : (s.refuseUnit p c n).tallies = s.tallies := by first | (simp [State.refuseUnit]; done) | (simp [State.refuseUnit]; rfl) | (unfold State.refuseUnit; rfl)

@[simp] theorem State.endListing_now (p : Nat) : (s.endListing p).now = s.now := by simp [State.endListing]
@[simp] theorem State.endListing_sense (p : Nat) : (s.endListing p).sense = s.sense := by simp [State.endListing]
@[simp] theorem State.endListing_line (p : Nat) : (s.endListing p).line = s.line := by simp [State.endListing]
@[simp] theorem State.endListing_cache (p : Nat) : (s.endListing p).cache = s.cache := by simp [State.endListing]
@[simp] theorem State.endListing_lamps (p : Nat) : (s.endListing p).lamps = s.lamps := by simp [State.endListing]
@[simp] theorem State.endListing_flash (p : Nat) : (s.endListing p).flash = s.flash := by simp [State.endListing]
@[simp] theorem State.endListing_claims (p : Nat) : (s.endListing p).claims = s.claims := by simp [State.endListing]
@[simp] theorem State.endListing_settings (p : Nat) : (s.endListing p).settings = s.settings := by simp [State.endListing]
@[simp] theorem State.endListing_setup (p : Nat) : (s.endListing p).setup = s.setup := by simp [State.endListing]
@[simp] theorem State.endListing_pending (p : Nat) : (s.endListing p).pending = s.pending := by simp [State.endListing]
@[simp] theorem State.endListing_inlets (p : Nat) : (s.endListing p).inlets = s.inlets := by first | (simp [State.endListing]; done) | (simp [State.endListing]; rfl) | (unfold State.endListing; rfl)
@[simp] theorem State.endListing_tallies (p : Nat) : (s.endListing p).tallies = s.tallies := by first | (simp [State.endListing]; done) | (simp [State.endListing]; rfl) | (unfold State.endListing; rfl)

@[simp] theorem State.listFrom_now (p i : Nat) : (s.listFrom p i).now = s.now := by
  unfold State.listFrom
  repeat' (first | split | dsimp only)
  all_goals simp
@[simp] theorem State.listFrom_sense (p i : Nat) : (s.listFrom p i).sense = s.sense := by
  unfold State.listFrom
  repeat' (first | split | dsimp only)
  all_goals simp
@[simp] theorem State.listFrom_line (p i : Nat) : (s.listFrom p i).line = s.line := by
  unfold State.listFrom
  repeat' (first | split | dsimp only)
  all_goals simp
@[simp] theorem State.listFrom_cache (p i : Nat) : (s.listFrom p i).cache = s.cache := by
  unfold State.listFrom
  repeat' (first | split | dsimp only)
  all_goals simp
@[simp] theorem State.listFrom_lamps (p i : Nat) : (s.listFrom p i).lamps = s.lamps := by
  unfold State.listFrom
  repeat' (first | split | dsimp only)
  all_goals simp
@[simp] theorem State.listFrom_flash (p i : Nat) : (s.listFrom p i).flash = s.flash := by
  unfold State.listFrom
  repeat' (first | split | dsimp only)
  all_goals simp
@[simp] theorem State.listFrom_claims (p i : Nat) : (s.listFrom p i).claims = s.claims := by
  unfold State.listFrom
  repeat' (first | split | dsimp only)
  all_goals simp
@[simp] theorem State.listFrom_settings (p i : Nat) : (s.listFrom p i).settings = s.settings := by
  unfold State.listFrom
  repeat' (first | split | dsimp only)
  all_goals simp
@[simp] theorem State.listFrom_setup (p i : Nat) : (s.listFrom p i).setup = s.setup := by
  unfold State.listFrom
  repeat' (first | split | dsimp only)
  all_goals simp
@[simp] theorem State.listFrom_pending (p i : Nat) : (s.listFrom p i).pending = s.pending := by
  unfold State.listFrom
  repeat' (first | split | dsimp only)
  all_goals simp
@[simp] theorem State.listFrom_inlets (p i : Nat) : (s.listFrom p i).inlets = s.inlets := by
  unfold State.listFrom
  repeat' (first | split | dsimp only)
  all_goals first | (simp; done) | (simp; rfl) | rfl
@[simp] theorem State.listFrom_tallies (p i : Nat) : (s.listFrom p i).tallies = s.tallies := by
  unfold State.listFrom
  repeat' (first | split | dsimp only)
  all_goals first | (simp; done) | (simp; rfl) | rfl

@[simp] theorem State.listOpened_now (p : Nat) (d : List Byte) : (s.listOpened p d).now = s.now := by simp [State.listOpened]
@[simp] theorem State.listOpened_comb (p : Nat) (d : List Byte) : (s.listOpened p d).comb = s.comb := by simp [State.listOpened]
@[simp] theorem State.listOpened_sense (p : Nat) (d : List Byte) : (s.listOpened p d).sense = s.sense := by simp [State.listOpened]
@[simp] theorem State.listOpened_line (p : Nat) (d : List Byte) : (s.listOpened p d).line = s.line := by simp [State.listOpened]
@[simp] theorem State.listOpened_cache (p : Nat) (d : List Byte) : (s.listOpened p d).cache = s.cache := by simp [State.listOpened]
@[simp] theorem State.listOpened_lamps (p : Nat) (d : List Byte) : (s.listOpened p d).lamps = s.lamps := by simp [State.listOpened]
@[simp] theorem State.listOpened_flash (p : Nat) (d : List Byte) : (s.listOpened p d).flash = s.flash := by simp [State.listOpened]
@[simp] theorem State.listOpened_claims (p : Nat) (d : List Byte) : (s.listOpened p d).claims = s.claims := by simp [State.listOpened]
@[simp] theorem State.listOpened_slots (p : Nat) (d : List Byte) : (s.listOpened p d).slots = s.slots := by simp [State.listOpened]
@[simp] theorem State.listOpened_settings (p : Nat) (d : List Byte) : (s.listOpened p d).settings = s.settings := by simp [State.listOpened]
@[simp] theorem State.listOpened_setup (p : Nat) (d : List Byte) : (s.listOpened p d).setup = s.setup := by simp [State.listOpened]
@[simp] theorem State.listOpened_port (p : Nat) (d : List Byte) : (s.listOpened p d).port = s.port := by simp [State.listOpened]
@[simp] theorem State.listOpened_counters (p : Nat) (d : List Byte) : (s.listOpened p d).counters = s.counters := by simp [State.listOpened]
@[simp] theorem State.listOpened_pending (p : Nat) (d : List Byte) : (s.listOpened p d).pending = s.pending := by simp [State.listOpened]
@[simp] theorem State.listOpened_inlets (p : Nat) (d : List Byte) : (s.listOpened p d).inlets = s.inlets := by first | (simp [State.listOpened]; done) | (simp [State.listOpened]; rfl) | (unfold State.listOpened; rfl)
@[simp] theorem State.listOpened_tallies (p : Nat) (d : List Byte) : (s.listOpened p d).tallies = s.tallies := by first | (simp [State.listOpened]; done) | (simp [State.listOpened]; rfl) | (unfold State.listOpened; rfl)

@[simp] theorem State.loadRead_now (p : Nat) (l : Line) (d : List Byte) : (s.loadRead p l d).now = s.now := by
  unfold State.loadRead
  repeat' (first | split | dsimp only)
  all_goals simp
@[simp] theorem State.loadRead_sense (p : Nat) (l : Line) (d : List Byte) : (s.loadRead p l d).sense = s.sense := by
  unfold State.loadRead
  repeat' (first | split | dsimp only)
  all_goals simp
@[simp] theorem State.loadRead_line (p : Nat) (l : Line) (d : List Byte) : (s.loadRead p l d).line = s.line := by
  unfold State.loadRead
  repeat' (first | split | dsimp only)
  all_goals simp
@[simp] theorem State.loadRead_cache (p : Nat) (l : Line) (d : List Byte) : (s.loadRead p l d).cache = s.cache := by
  unfold State.loadRead
  repeat' (first | split | dsimp only)
  all_goals simp
@[simp] theorem State.loadRead_lamps (p : Nat) (l : Line) (d : List Byte) : (s.loadRead p l d).lamps = s.lamps := by
  unfold State.loadRead
  repeat' (first | split | dsimp only)
  all_goals simp
@[simp] theorem State.loadRead_flash (p : Nat) (l : Line) (d : List Byte) : (s.loadRead p l d).flash = s.flash := by
  unfold State.loadRead
  repeat' (first | split | dsimp only)
  all_goals simp
@[simp] theorem State.loadRead_claims (p : Nat) (l : Line) (d : List Byte) : (s.loadRead p l d).claims = s.claims := by
  unfold State.loadRead
  repeat' (first | split | dsimp only)
  all_goals simp
@[simp] theorem State.loadRead_settings (p : Nat) (l : Line) (d : List Byte) : (s.loadRead p l d).settings = s.settings := by
  unfold State.loadRead
  repeat' (first | split | dsimp only)
  all_goals simp
@[simp] theorem State.loadRead_setup (p : Nat) (l : Line) (d : List Byte) : (s.loadRead p l d).setup = s.setup := by
  unfold State.loadRead
  repeat' (first | split | dsimp only)
  all_goals simp
@[simp] theorem State.loadRead_pending (p : Nat) (l : Line) (d : List Byte) : (s.loadRead p l d).pending = s.pending := by
  unfold State.loadRead
  repeat' (first | split | dsimp only)
  all_goals simp
@[simp] theorem State.loadRead_inlets (p : Nat) (l : Line) (d : List Byte) : (s.loadRead p l d).inlets = s.inlets := by
  unfold State.loadRead
  repeat' (first | split | dsimp only)
  all_goals first | (simp; done) | (simp; rfl) | rfl
@[simp] theorem State.loadRead_tallies (p : Nat) (l : Line) (d : List Byte) : (s.loadRead p l d).tallies = s.tallies := by
  unfold State.loadRead
  repeat' (first | split | dsimp only)
  all_goals first | (simp; done) | (simp; rfl) | rfl

@[simp] theorem State.admitFunction_now (p i : Nat) (r : FunctionRecord) : (s.admitFunction p i r).now = s.now := by
  unfold State.admitFunction
  repeat' (first | split | dsimp only)
  all_goals simp
@[simp] theorem State.admitFunction_sense (p i : Nat) (r : FunctionRecord) : (s.admitFunction p i r).sense = s.sense := by
  unfold State.admitFunction
  repeat' (first | split | dsimp only)
  all_goals simp
@[simp] theorem State.admitFunction_line (p i : Nat) (r : FunctionRecord) : (s.admitFunction p i r).line = s.line := by
  unfold State.admitFunction
  repeat' (first | split | dsimp only)
  all_goals simp
@[simp] theorem State.admitFunction_lamps (p i : Nat) (r : FunctionRecord) : (s.admitFunction p i r).lamps = s.lamps := by
  unfold State.admitFunction
  repeat' (first | split | dsimp only)
  all_goals simp
@[simp] theorem State.admitFunction_flash (p i : Nat) (r : FunctionRecord) : (s.admitFunction p i r).flash = s.flash := by
  unfold State.admitFunction
  repeat' (first | split | dsimp only)
  all_goals simp
@[simp] theorem State.admitFunction_claims (p i : Nat) (r : FunctionRecord) : (s.admitFunction p i r).claims = s.claims := by
  unfold State.admitFunction
  repeat' (first | split | dsimp only)
  all_goals simp
@[simp] theorem State.admitFunction_settings (p i : Nat) (r : FunctionRecord) : (s.admitFunction p i r).settings = s.settings := by
  unfold State.admitFunction
  repeat' (first | split | dsimp only)
  all_goals simp
@[simp] theorem State.admitFunction_setup (p i : Nat) (r : FunctionRecord) : (s.admitFunction p i r).setup = s.setup := by
  unfold State.admitFunction
  repeat' (first | split | dsimp only)
  all_goals simp
@[simp] theorem State.admitFunction_pending (p i : Nat) (r : FunctionRecord) : (s.admitFunction p i r).pending = s.pending := by
  unfold State.admitFunction
  repeat' (first | split | dsimp only)
  all_goals simp
@[simp] theorem State.admitFunction_inlets (p i : Nat) (r : FunctionRecord) : (s.admitFunction p i r).inlets = s.inlets := by
  unfold State.admitFunction
  repeat' (first | split | dsimp only)
  all_goals first | (simp; done) | (simp; rfl) | rfl
@[simp] theorem State.admitFunction_tallies (p i : Nat) (r : FunctionRecord) : (s.admitFunction p i r).tallies = s.tallies := by
  unfold State.admitFunction
  repeat' (first | split | dsimp only)
  all_goals first | (simp; done) | (simp; rfl) | rfl

@[simp] theorem State.entryListed_now (p i : Nat) (d : List Byte) : (s.entryListed p i d).now = s.now := by
  unfold State.entryListed
  repeat' (first | split | dsimp only)
  all_goals simp
@[simp] theorem State.entryListed_sense (p i : Nat) (d : List Byte) : (s.entryListed p i d).sense = s.sense := by
  unfold State.entryListed
  repeat' (first | split | dsimp only)
  all_goals simp
@[simp] theorem State.entryListed_line (p i : Nat) (d : List Byte) : (s.entryListed p i d).line = s.line := by
  unfold State.entryListed
  repeat' (first | split | dsimp only)
  all_goals simp
@[simp] theorem State.entryListed_lamps (p i : Nat) (d : List Byte) : (s.entryListed p i d).lamps = s.lamps := by
  unfold State.entryListed
  repeat' (first | split | dsimp only)
  all_goals simp
@[simp] theorem State.entryListed_flash (p i : Nat) (d : List Byte) : (s.entryListed p i d).flash = s.flash := by
  unfold State.entryListed
  repeat' (first | split | dsimp only)
  all_goals simp
@[simp] theorem State.entryListed_claims (p i : Nat) (d : List Byte) : (s.entryListed p i d).claims = s.claims := by
  unfold State.entryListed
  repeat' (first | split | dsimp only)
  all_goals simp
@[simp] theorem State.entryListed_settings (p i : Nat) (d : List Byte) : (s.entryListed p i d).settings = s.settings := by
  unfold State.entryListed
  repeat' (first | split | dsimp only)
  all_goals simp
@[simp] theorem State.entryListed_setup (p i : Nat) (d : List Byte) : (s.entryListed p i d).setup = s.setup := by
  unfold State.entryListed
  repeat' (first | split | dsimp only)
  all_goals simp
@[simp] theorem State.entryListed_pending (p i : Nat) (d : List Byte) : (s.entryListed p i d).pending = s.pending := by
  unfold State.entryListed
  repeat' (first | split | dsimp only)
  all_goals simp
@[simp] theorem State.entryListed_inlets (p i : Nat) (d : List Byte) : (s.entryListed p i d).inlets = s.inlets := by
  unfold State.entryListed
  repeat' (first | split | dsimp only)
  all_goals first | (simp; done) | (simp; rfl) | rfl
@[simp] theorem State.entryListed_tallies (p i : Nat) (d : List Byte) : (s.entryListed p i d).tallies = s.tallies := by
  unfold State.entryListed
  repeat' (first | split | dsimp only)
  all_goals first | (simp; done) | (simp; rfl) | rfl

@[simp] theorem State.entryDeclined_now (p i : Nat) : (s.entryDeclined p i).now = s.now := by simp [State.entryDeclined]
@[simp] theorem State.entryDeclined_sense (p i : Nat) : (s.entryDeclined p i).sense = s.sense := by simp [State.entryDeclined]
@[simp] theorem State.entryDeclined_line (p i : Nat) : (s.entryDeclined p i).line = s.line := by simp [State.entryDeclined]
@[simp] theorem State.entryDeclined_cache (p i : Nat) : (s.entryDeclined p i).cache = s.cache := by simp [State.entryDeclined]
@[simp] theorem State.entryDeclined_lamps (p i : Nat) : (s.entryDeclined p i).lamps = s.lamps := by simp [State.entryDeclined]
@[simp] theorem State.entryDeclined_flash (p i : Nat) : (s.entryDeclined p i).flash = s.flash := by simp [State.entryDeclined]
@[simp] theorem State.entryDeclined_claims (p i : Nat) : (s.entryDeclined p i).claims = s.claims := by simp [State.entryDeclined]
@[simp] theorem State.entryDeclined_settings (p i : Nat) : (s.entryDeclined p i).settings = s.settings := by simp [State.entryDeclined]
@[simp] theorem State.entryDeclined_setup (p i : Nat) : (s.entryDeclined p i).setup = s.setup := by simp [State.entryDeclined]
@[simp] theorem State.entryDeclined_pending (p i : Nat) : (s.entryDeclined p i).pending = s.pending := by simp [State.entryDeclined]
@[simp] theorem State.entryDeclined_inlets (p i : Nat) : (s.entryDeclined p i).inlets = s.inlets := by first | (simp [State.entryDeclined]; done) | (simp [State.entryDeclined]; rfl) | (unfold State.entryDeclined; rfl)
@[simp] theorem State.entryDeclined_tallies (p i : Nat) : (s.entryDeclined p i).tallies = s.tallies := by first | (simp [State.entryDeclined]; done) | (simp [State.entryDeclined]; rfl) | (unfold State.entryDeclined; rfl)

@[simp] theorem State.bridged_now (p : Nat) : (s.bridged p).now = s.now := by
  unfold State.bridged
  repeat' (first | split | dsimp only)
  all_goals simp
@[simp] theorem State.bridged_sense (p : Nat) : (s.bridged p).sense = s.sense := by
  unfold State.bridged
  repeat' (first | split | dsimp only)
  all_goals simp
@[simp] theorem State.bridged_line (p : Nat) : (s.bridged p).line = s.line := by
  unfold State.bridged
  repeat' (first | split | dsimp only)
  all_goals simp
@[simp] theorem State.bridged_cache (p : Nat) : (s.bridged p).cache = s.cache := by
  unfold State.bridged
  repeat' (first | split | dsimp only)
  all_goals simp
@[simp] theorem State.bridged_lamps (p : Nat) : (s.bridged p).lamps = s.lamps := by
  unfold State.bridged
  repeat' (first | split | dsimp only)
  all_goals simp
@[simp] theorem State.bridged_flash (p : Nat) : (s.bridged p).flash = s.flash := by
  unfold State.bridged
  repeat' (first | split | dsimp only)
  all_goals simp
@[simp] theorem State.bridged_claims (p : Nat) : (s.bridged p).claims = s.claims := by
  unfold State.bridged
  repeat' (first | split | dsimp only)
  all_goals simp
@[simp] theorem State.bridged_settings (p : Nat) : (s.bridged p).settings = s.settings := by
  unfold State.bridged
  repeat' (first | split | dsimp only)
  all_goals simp
@[simp] theorem State.bridged_setup (p : Nat) : (s.bridged p).setup = s.setup := by
  unfold State.bridged
  repeat' (first | split | dsimp only)
  all_goals simp
@[simp] theorem State.bridged_pending (p : Nat) : (s.bridged p).pending = s.pending := by
  unfold State.bridged
  repeat' (first | split | dsimp only)
  all_goals simp
@[simp] theorem State.bridged_inlets (p : Nat) : (s.bridged p).inlets = s.inlets := by
  unfold State.bridged
  repeat' (first | split | dsimp only)
  all_goals first | (simp; done) | (simp; rfl) | rfl
@[simp] theorem State.bridged_tallies (p : Nat) : (s.bridged p).tallies = s.tallies := by
  unfold State.bridged
  repeat' (first | split | dsimp only)
  all_goals first | (simp; done) | (simp; rfl) | rfl

@[simp] theorem State.discardWork_now (k : Nat) (t : Option Transaction) : (s.discardWork k t).now = s.now := by simp [State.discardWork]
@[simp] theorem State.discardWork_comb (k : Nat) (t : Option Transaction) : (s.discardWork k t).comb = s.comb := by simp [State.discardWork]
@[simp] theorem State.discardWork_sense (k : Nat) (t : Option Transaction) : (s.discardWork k t).sense = s.sense := by simp [State.discardWork]
@[simp] theorem State.discardWork_walker (k : Nat) (t : Option Transaction) : (s.discardWork k t).walker = s.walker := by simp [State.discardWork]
@[simp] theorem State.discardWork_units (k : Nat) (t : Option Transaction) : (s.discardWork k t).units = s.units := by simp [State.discardWork]
@[simp] theorem State.discardWork_cache (k : Nat) (t : Option Transaction) : (s.discardWork k t).cache = s.cache := by simp [State.discardWork]
@[simp] theorem State.discardWork_lamps (k : Nat) (t : Option Transaction) : (s.discardWork k t).lamps = s.lamps := by simp [State.discardWork]
@[simp] theorem State.discardWork_flash (k : Nat) (t : Option Transaction) : (s.discardWork k t).flash = s.flash := by simp [State.discardWork]
@[simp] theorem State.discardWork_claims (k : Nat) (t : Option Transaction) : (s.discardWork k t).claims = s.claims := by simp [State.discardWork]
@[simp] theorem State.discardWork_settings (k : Nat) (t : Option Transaction) : (s.discardWork k t).settings = s.settings := by simp [State.discardWork]
@[simp] theorem State.discardWork_setup (k : Nat) (t : Option Transaction) : (s.discardWork k t).setup = s.setup := by simp [State.discardWork]
@[simp] theorem State.discardWork_counters (k : Nat) (t : Option Transaction) : (s.discardWork k t).counters = s.counters := by simp [State.discardWork]
@[simp] theorem State.discardWork_pending (k : Nat) (t : Option Transaction) : (s.discardWork k t).pending = s.pending := by simp [State.discardWork]
@[simp] theorem State.discardWork_inlets (k : Nat) (t : Option Transaction) : (s.discardWork k t).inlets = s.inlets := by first | (simp [State.discardWork]; done) | (simp [State.discardWork]; rfl) | (unfold State.discardWork; rfl)
@[simp] theorem State.discardWork_tallies (k : Nat) (t : Option Transaction) : (s.discardWork k t).tallies = s.tallies := by first | (simp [State.discardWork]; done) | (simp [State.discardWork]; rfl) | (unfold State.discardWork; rfl)

@[simp] theorem State.withdrawStep_now (k : Nat) : (s.withdrawStep k).now = s.now := by
  unfold State.withdrawStep
  repeat' (first | split | dsimp only)
  all_goals simp
@[simp] theorem State.withdrawStep_comb (k : Nat) : (s.withdrawStep k).comb = s.comb := by
  unfold State.withdrawStep
  repeat' (first | split | dsimp only)
  all_goals simp
@[simp] theorem State.withdrawStep_sense (k : Nat) : (s.withdrawStep k).sense = s.sense := by
  unfold State.withdrawStep
  repeat' (first | split | dsimp only)
  all_goals simp
@[simp] theorem State.withdrawStep_line (k : Nat) : (s.withdrawStep k).line = s.line := by
  unfold State.withdrawStep
  repeat' (first | split | dsimp only)
  all_goals simp
@[simp] theorem State.withdrawStep_units (k : Nat) : (s.withdrawStep k).units = s.units := by
  unfold State.withdrawStep
  repeat' (first | split | dsimp only)
  all_goals simp
@[simp] theorem State.withdrawStep_cache (k : Nat) : (s.withdrawStep k).cache = s.cache := by
  unfold State.withdrawStep
  repeat' (first | split | dsimp only)
  all_goals simp
@[simp] theorem State.withdrawStep_lamps (k : Nat) : (s.withdrawStep k).lamps = s.lamps := by
  unfold State.withdrawStep
  repeat' (first | split | dsimp only)
  all_goals simp
@[simp] theorem State.withdrawStep_flash (k : Nat) : (s.withdrawStep k).flash = s.flash := by
  unfold State.withdrawStep
  repeat' (first | split | dsimp only)
  all_goals simp
@[simp] theorem State.withdrawStep_claims (k : Nat) : (s.withdrawStep k).claims = s.claims := by
  unfold State.withdrawStep
  repeat' (first | split | dsimp only)
  all_goals simp
@[simp] theorem State.withdrawStep_slots (k : Nat) : (s.withdrawStep k).slots = s.slots := by
  unfold State.withdrawStep
  repeat' (first | split | dsimp only)
  all_goals simp
@[simp] theorem State.withdrawStep_settings (k : Nat) : (s.withdrawStep k).settings = s.settings := by
  unfold State.withdrawStep
  repeat' (first | split | dsimp only)
  all_goals simp
@[simp] theorem State.withdrawStep_setup (k : Nat) : (s.withdrawStep k).setup = s.setup := by
  unfold State.withdrawStep
  repeat' (first | split | dsimp only)
  all_goals simp
@[simp] theorem State.withdrawStep_port (k : Nat) : (s.withdrawStep k).port = s.port := by
  unfold State.withdrawStep
  repeat' (first | split | dsimp only)
  all_goals simp
@[simp] theorem State.withdrawStep_counters (k : Nat) : (s.withdrawStep k).counters = s.counters := by
  unfold State.withdrawStep
  repeat' (first | split | dsimp only)
  all_goals simp
@[simp] theorem State.withdrawStep_pending (k : Nat) : (s.withdrawStep k).pending = s.pending := by
  unfold State.withdrawStep
  repeat' (first | split | dsimp only)
  all_goals simp
@[simp] theorem State.withdrawStep_inlets (k : Nat) : (s.withdrawStep k).inlets = s.inlets := by
  unfold State.withdrawStep
  repeat' (first | split | dsimp only)
  all_goals first | (simp; done) | (simp; rfl) | rfl
@[simp] theorem State.withdrawStep_tallies (k : Nat) : (s.withdrawStep k).tallies = s.tallies := by
  unfold State.withdrawStep
  repeat' (first | split | dsimp only)
  all_goals first | (simp; done) | (simp; rfl) | rfl

@[simp] theorem State.loseRecord_now (u : UnitRecord) : (s.loseRecord u).now = s.now := by simp [State.loseRecord]
@[simp] theorem State.loseRecord_comb (u : UnitRecord) : (s.loseRecord u).comb = s.comb := by simp [State.loseRecord]
@[simp] theorem State.loseRecord_sense (u : UnitRecord) : (s.loseRecord u).sense = s.sense := by simp [State.loseRecord]
@[simp] theorem State.loseRecord_line (u : UnitRecord) : (s.loseRecord u).line = s.line := by simp [State.loseRecord]
@[simp] theorem State.loseRecord_walker (u : UnitRecord) : (s.loseRecord u).walker = s.walker := by simp [State.loseRecord]
@[simp] theorem State.loseRecord_lamps (u : UnitRecord) : (s.loseRecord u).lamps = s.lamps := by simp [State.loseRecord]
@[simp] theorem State.loseRecord_flash (u : UnitRecord) : (s.loseRecord u).flash = s.flash := by simp [State.loseRecord]
@[simp] theorem State.loseRecord_claims (u : UnitRecord) : (s.loseRecord u).claims = s.claims := by simp [State.loseRecord]
@[simp] theorem State.loseRecord_settings (u : UnitRecord) : (s.loseRecord u).settings = s.settings := by simp [State.loseRecord]
@[simp] theorem State.loseRecord_setup (u : UnitRecord) : (s.loseRecord u).setup = s.setup := by simp [State.loseRecord]
@[simp] theorem State.loseRecord_pending (u : UnitRecord) : (s.loseRecord u).pending = s.pending := by simp [State.loseRecord]
@[simp] theorem State.loseRecord_inlets (u : UnitRecord) : (s.loseRecord u).inlets = s.inlets := by first | (simp [State.loseRecord]; done) | (simp [State.loseRecord]; rfl) | (unfold State.loseRecord; rfl)

@[simp] theorem State.probeAfterLoss_now : (s.probeAfterLoss).now = s.now := by
  unfold State.probeAfterLoss
  repeat' (first | split | dsimp only)
  all_goals simp
@[simp] theorem State.probeAfterLoss_comb : (s.probeAfterLoss).comb = s.comb := by
  unfold State.probeAfterLoss
  repeat' (first | split | dsimp only)
  all_goals simp
@[simp] theorem State.probeAfterLoss_sense : (s.probeAfterLoss).sense = s.sense := by
  unfold State.probeAfterLoss
  repeat' (first | split | dsimp only)
  all_goals simp
@[simp] theorem State.probeAfterLoss_line : (s.probeAfterLoss).line = s.line := by
  unfold State.probeAfterLoss
  repeat' (first | split | dsimp only)
  all_goals simp
@[simp] theorem State.probeAfterLoss_units : (s.probeAfterLoss).units = s.units := by
  unfold State.probeAfterLoss
  repeat' (first | split | dsimp only)
  all_goals simp
@[simp] theorem State.probeAfterLoss_cache : (s.probeAfterLoss).cache = s.cache := by
  unfold State.probeAfterLoss
  repeat' (first | split | dsimp only)
  all_goals simp
@[simp] theorem State.probeAfterLoss_lamps : (s.probeAfterLoss).lamps = s.lamps := by
  unfold State.probeAfterLoss
  repeat' (first | split | dsimp only)
  all_goals simp
@[simp] theorem State.probeAfterLoss_flash : (s.probeAfterLoss).flash = s.flash := by
  unfold State.probeAfterLoss
  repeat' (first | split | dsimp only)
  all_goals simp
@[simp] theorem State.probeAfterLoss_claims : (s.probeAfterLoss).claims = s.claims := by
  unfold State.probeAfterLoss
  repeat' (first | split | dsimp only)
  all_goals simp
@[simp] theorem State.probeAfterLoss_slots : (s.probeAfterLoss).slots = s.slots := by
  unfold State.probeAfterLoss
  repeat' (first | split | dsimp only)
  all_goals simp
@[simp] theorem State.probeAfterLoss_settings : (s.probeAfterLoss).settings = s.settings := by
  unfold State.probeAfterLoss
  repeat' (first | split | dsimp only)
  all_goals simp
@[simp] theorem State.probeAfterLoss_setup : (s.probeAfterLoss).setup = s.setup := by
  unfold State.probeAfterLoss
  repeat' (first | split | dsimp only)
  all_goals simp
@[simp] theorem State.probeAfterLoss_port : (s.probeAfterLoss).port = s.port := by
  unfold State.probeAfterLoss
  repeat' (first | split | dsimp only)
  all_goals simp
@[simp] theorem State.probeAfterLoss_counters : (s.probeAfterLoss).counters = s.counters := by
  unfold State.probeAfterLoss
  repeat' (first | split | dsimp only)
  all_goals simp
@[simp] theorem State.probeAfterLoss_pending : (s.probeAfterLoss).pending = s.pending := by
  unfold State.probeAfterLoss
  repeat' (first | split | dsimp only)
  all_goals simp
@[simp] theorem State.probeAfterLoss_inlets : (s.probeAfterLoss).inlets = s.inlets := by
  unfold State.probeAfterLoss
  repeat' (first | split | dsimp only)
  all_goals first | (simp; done) | (simp; rfl) | rfl
@[simp] theorem State.probeAfterLoss_tallies : (s.probeAfterLoss).tallies = s.tallies := by
  unfold State.probeAfterLoss
  repeat' (first | split | dsimp only)
  all_goals first | (simp; done) | (simp; rfl) | rfl

@[simp] theorem State.loseUnits_now (k : Nat) (t : Option Transaction) : (s.loseUnits k t).now = s.now := by
  simp only [State.loseUnits, State.probeAfterLoss_now, State.refreshUnsettled_now, State.setChainFull_now, State.walkerAfterLoss_now]
  exact (foldl_keeps (fun t => State.now t) _ (fun t u => t.loseRecord_now u) _ _).trans (by simp)
@[simp] theorem State.loseUnits_sense (k : Nat) (t : Option Transaction) : (s.loseUnits k t).sense = s.sense := by
  simp only [State.loseUnits, State.probeAfterLoss_sense, State.refreshUnsettled_sense, State.setChainFull_sense, State.walkerAfterLoss_sense]
  exact (foldl_keeps (fun t => State.sense t) _ (fun t u => t.loseRecord_sense u) _ _).trans (by simp)
@[simp] theorem State.loseUnits_lamps (k : Nat) (t : Option Transaction) : (s.loseUnits k t).lamps = s.lamps := by
  simp only [State.loseUnits, State.probeAfterLoss_lamps, State.refreshUnsettled_lamps, State.setChainFull_lamps, State.walkerAfterLoss_lamps]
  exact (foldl_keeps (fun t => State.lamps t) _ (fun t u => t.loseRecord_lamps u) _ _).trans (by simp)
@[simp] theorem State.loseUnits_flash (k : Nat) (t : Option Transaction) : (s.loseUnits k t).flash = s.flash := by
  simp only [State.loseUnits, State.probeAfterLoss_flash, State.refreshUnsettled_flash, State.setChainFull_flash, State.walkerAfterLoss_flash]
  exact (foldl_keeps (fun t => State.flash t) _ (fun t u => t.loseRecord_flash u) _ _).trans (by simp)
@[simp] theorem State.loseUnits_settings (k : Nat) (t : Option Transaction) : (s.loseUnits k t).settings = s.settings := by
  simp only [State.loseUnits, State.probeAfterLoss_settings, State.refreshUnsettled_settings, State.setChainFull_settings, State.walkerAfterLoss_settings]
  exact (foldl_keeps (fun t => State.settings t) _ (fun t u => t.loseRecord_settings u) _ _).trans (by simp)
@[simp] theorem State.loseUnits_setup (k : Nat) (t : Option Transaction) : (s.loseUnits k t).setup = s.setup := by
  simp only [State.loseUnits, State.probeAfterLoss_setup, State.refreshUnsettled_setup, State.setChainFull_setup, State.walkerAfterLoss_setup]
  exact (foldl_keeps (fun t => State.setup t) _ (fun t u => t.loseRecord_setup u) _ _).trans (by simp)
@[simp] theorem State.loseUnits_pending (k : Nat) (t : Option Transaction) : (s.loseUnits k t).pending = s.pending := by
  simp only [State.loseUnits, State.probeAfterLoss_pending, State.refreshUnsettled_pending, State.setChainFull_pending, State.walkerAfterLoss_pending]
  exact (foldl_keeps (fun t => State.pending t) _ (fun t u => t.loseRecord_pending u) _ _).trans (by simp)
@[simp] theorem State.loseUnits_inlets (k : Nat) (t : Option Transaction) : (s.loseUnits k t).inlets = s.inlets := by
  simp only [State.loseUnits, State.probeAfterLoss_inlets, State.refreshUnsettled_inlets, State.setChainFull_inlets, State.walkerAfterLoss_inlets]
  exact (foldl_keeps (fun t => State.inlets t) _ (fun t u => t.loseRecord_inlets u) _ _).trans (by simp)

@[simp] theorem State.stepAnswered_now (x : Step) (a : Option (AnswerResult × List Byte)) : (s.stepAnswered x a).now = s.now := by unfold State.stepAnswered; split <;> first | simp | (split <;> simp)
@[simp] theorem State.stepAnswered_sense (x : Step) (a : Option (AnswerResult × List Byte)) : (s.stepAnswered x a).sense = s.sense := by unfold State.stepAnswered; split <;> first | simp | (split <;> simp)
@[simp] theorem State.stepAnswered_line (x : Step) (a : Option (AnswerResult × List Byte)) : (s.stepAnswered x a).line = s.line := by unfold State.stepAnswered; split <;> first | simp | (split <;> simp)
@[simp] theorem State.stepAnswered_lamps (x : Step) (a : Option (AnswerResult × List Byte)) : (s.stepAnswered x a).lamps = s.lamps := by unfold State.stepAnswered; split <;> first | simp | (split <;> simp)
@[simp] theorem State.stepAnswered_flash (x : Step) (a : Option (AnswerResult × List Byte)) : (s.stepAnswered x a).flash = s.flash := by unfold State.stepAnswered; split <;> first | simp | (split <;> simp)
@[simp] theorem State.stepAnswered_claims (x : Step) (a : Option (AnswerResult × List Byte)) : (s.stepAnswered x a).claims = s.claims := by unfold State.stepAnswered; split <;> first | simp | (split <;> simp)
@[simp] theorem State.stepAnswered_settings (x : Step) (a : Option (AnswerResult × List Byte)) : (s.stepAnswered x a).settings = s.settings := by unfold State.stepAnswered; split <;> first | simp | (split <;> simp)
@[simp] theorem State.stepAnswered_setup (x : Step) (a : Option (AnswerResult × List Byte)) : (s.stepAnswered x a).setup = s.setup := by unfold State.stepAnswered; split <;> first | simp | (split <;> simp)
@[simp] theorem State.stepAnswered_pending (x : Step) (a : Option (AnswerResult × List Byte)) : (s.stepAnswered x a).pending = s.pending := by unfold State.stepAnswered; split <;> first | simp | (split <;> simp)
@[simp] theorem State.stepAnswered_inlets (x : Step) (a : Option (AnswerResult × List Byte)) : (s.stepAnswered x a).inlets = s.inlets := by unfold State.stepAnswered; split <;> first | simp | (split <;> simp)

@[simp] theorem State.handOutcome_now (t : Transaction) (b : Byte) (a : Option (AnswerResult × List Byte)) : (s.handOutcome t b a).now = s.now := by
  unfold State.handOutcome
  repeat' (first | split | dsimp only)
  all_goals simp
@[simp] theorem State.handOutcome_sense (t : Transaction) (b : Byte) (a : Option (AnswerResult × List Byte)) : (s.handOutcome t b a).sense = s.sense := by
  unfold State.handOutcome
  repeat' (first | split | dsimp only)
  all_goals simp
@[simp] theorem State.handOutcome_line (t : Transaction) (b : Byte) (a : Option (AnswerResult × List Byte)) : (s.handOutcome t b a).line = s.line := by
  unfold State.handOutcome
  repeat' (first | split | dsimp only)
  all_goals simp
@[simp] theorem State.handOutcome_lamps (t : Transaction) (b : Byte) (a : Option (AnswerResult × List Byte)) : (s.handOutcome t b a).lamps = s.lamps := by
  unfold State.handOutcome
  repeat' (first | split | dsimp only)
  all_goals simp
@[simp] theorem State.handOutcome_flash (t : Transaction) (b : Byte) (a : Option (AnswerResult × List Byte)) : (s.handOutcome t b a).flash = s.flash := by
  unfold State.handOutcome
  repeat' (first | split | dsimp only)
  all_goals simp
@[simp] theorem State.handOutcome_settings (t : Transaction) (b : Byte) (a : Option (AnswerResult × List Byte)) : (s.handOutcome t b a).settings = s.settings := by
  unfold State.handOutcome
  repeat' (first | split | dsimp only)
  all_goals simp
@[simp] theorem State.handOutcome_setup (t : Transaction) (b : Byte) (a : Option (AnswerResult × List Byte)) : (s.handOutcome t b a).setup = s.setup := by
  unfold State.handOutcome
  repeat' (first | split | dsimp only)
  all_goals simp
@[simp] theorem State.handOutcome_pending (t : Transaction) (b : Byte) (a : Option (AnswerResult × List Byte)) : (s.handOutcome t b a).pending = s.pending := by
  unfold State.handOutcome
  repeat' (first | split | dsimp only)
  all_goals simp
@[simp] theorem State.handOutcome_inlets (t : Transaction) (b : Byte) (a : Option (AnswerResult × List Byte)) : (s.handOutcome t b a).inlets = s.inlets := by
  unfold State.handOutcome
  repeat' (first | split | dsimp only)
  all_goals first | (simp; done) | (simp; rfl) | rfl

@[simp] theorem State.goodAnswer_now (t : Transaction) (b : Byte) (d : List Byte) : (s.goodAnswer t b d).now = s.now := by simp [State.goodAnswer]
@[simp] theorem State.goodAnswer_sense (t : Transaction) (b : Byte) (d : List Byte) : (s.goodAnswer t b d).sense = s.sense := by simp [State.goodAnswer]
@[simp] theorem State.goodAnswer_lamps (t : Transaction) (b : Byte) (d : List Byte) : (s.goodAnswer t b d).lamps = s.lamps := by simp [State.goodAnswer]
@[simp] theorem State.goodAnswer_flash (t : Transaction) (b : Byte) (d : List Byte) : (s.goodAnswer t b d).flash = s.flash := by simp [State.goodAnswer]
@[simp] theorem State.goodAnswer_settings (t : Transaction) (b : Byte) (d : List Byte) : (s.goodAnswer t b d).settings = s.settings := by simp [State.goodAnswer]
@[simp] theorem State.goodAnswer_setup (t : Transaction) (b : Byte) (d : List Byte) : (s.goodAnswer t b d).setup = s.setup := by simp [State.goodAnswer]
@[simp] theorem State.goodAnswer_pending (t : Transaction) (b : Byte) (d : List Byte) : (s.goodAnswer t b d).pending = s.pending := by simp [State.goodAnswer]
@[simp] theorem State.goodAnswer_inlets (t : Transaction) (b : Byte) (d : List Byte) : (s.goodAnswer t b d).inlets = s.inlets := by first | (simp [State.goodAnswer]; done) | (simp [State.goodAnswer]; rfl) | (unfold State.goodAnswer; rfl)

@[simp] theorem State.failedTransaction_now (t : Transaction) : (s.failedTransaction t).now = s.now := by
  unfold State.failedTransaction
  repeat' (first | split | dsimp only)
  all_goals simp
@[simp] theorem State.failedTransaction_sense (t : Transaction) : (s.failedTransaction t).sense = s.sense := by
  unfold State.failedTransaction
  repeat' (first | split | dsimp only)
  all_goals simp
@[simp] theorem State.failedTransaction_lamps (t : Transaction) : (s.failedTransaction t).lamps = s.lamps := by
  unfold State.failedTransaction
  repeat' (first | split | dsimp only)
  all_goals simp
@[simp] theorem State.failedTransaction_flash (t : Transaction) : (s.failedTransaction t).flash = s.flash := by
  unfold State.failedTransaction
  repeat' (first | split | dsimp only)
  all_goals simp
@[simp] theorem State.failedTransaction_settings (t : Transaction) : (s.failedTransaction t).settings = s.settings := by
  unfold State.failedTransaction
  repeat' (first | split | dsimp only)
  all_goals simp
@[simp] theorem State.failedTransaction_setup (t : Transaction) : (s.failedTransaction t).setup = s.setup := by
  unfold State.failedTransaction
  repeat' (first | split | dsimp only)
  all_goals simp
@[simp] theorem State.failedTransaction_pending (t : Transaction) : (s.failedTransaction t).pending = s.pending := by
  unfold State.failedTransaction
  repeat' (first | split | dsimp only)
  all_goals simp
@[simp] theorem State.failedTransaction_inlets (t : Transaction) : (s.failedTransaction t).inlets = s.inlets := by
  unfold State.failedTransaction
  repeat' (first | split | dsimp only)
  all_goals first | (simp; done) | (simp; rfl) | rfl

@[simp] theorem State.attemptFailed_now (t : Transaction) (c : Option Counter) : (s.attemptFailed t c).now = s.now := by
  unfold State.attemptFailed
  repeat' (first | split | dsimp only)
  all_goals simp
@[simp] theorem State.attemptFailed_sense (t : Transaction) (c : Option Counter) : (s.attemptFailed t c).sense = s.sense := by
  unfold State.attemptFailed
  repeat' (first | split | dsimp only)
  all_goals simp
@[simp] theorem State.attemptFailed_lamps (t : Transaction) (c : Option Counter) : (s.attemptFailed t c).lamps = s.lamps := by
  unfold State.attemptFailed
  repeat' (first | split | dsimp only)
  all_goals simp
@[simp] theorem State.attemptFailed_flash (t : Transaction) (c : Option Counter) : (s.attemptFailed t c).flash = s.flash := by
  unfold State.attemptFailed
  repeat' (first | split | dsimp only)
  all_goals simp
@[simp] theorem State.attemptFailed_settings (t : Transaction) (c : Option Counter) : (s.attemptFailed t c).settings = s.settings := by
  unfold State.attemptFailed
  repeat' (first | split | dsimp only)
  all_goals simp
@[simp] theorem State.attemptFailed_setup (t : Transaction) (c : Option Counter) : (s.attemptFailed t c).setup = s.setup := by
  unfold State.attemptFailed
  repeat' (first | split | dsimp only)
  all_goals simp
@[simp] theorem State.attemptFailed_pending (t : Transaction) (c : Option Counter) : (s.attemptFailed t c).pending = s.pending := by
  unfold State.attemptFailed
  repeat' (first | split | dsimp only)
  all_goals simp
@[simp] theorem State.attemptFailed_inlets (t : Transaction) (c : Option Counter) : (s.attemptFailed t c).inlets = s.inlets := by
  unfold State.attemptFailed
  repeat' (first | split | dsimp only)
  all_goals first | (simp; done) | (simp; rfl) | rfl

@[simp] theorem State.judgeFrame_now (t : Transaction) (d : List Byte) : (s.judgeFrame t d).now = s.now := by
  unfold State.judgeFrame
  repeat' (first | split | dsimp only)
  all_goals simp
@[simp] theorem State.judgeFrame_sense (t : Transaction) (d : List Byte) : (s.judgeFrame t d).sense = s.sense := by
  unfold State.judgeFrame
  repeat' (first | split | dsimp only)
  all_goals simp
@[simp] theorem State.judgeFrame_lamps (t : Transaction) (d : List Byte) : (s.judgeFrame t d).lamps = s.lamps := by
  unfold State.judgeFrame
  repeat' (first | split | dsimp only)
  all_goals simp
@[simp] theorem State.judgeFrame_flash (t : Transaction) (d : List Byte) : (s.judgeFrame t d).flash = s.flash := by
  unfold State.judgeFrame
  repeat' (first | split | dsimp only)
  all_goals simp
@[simp] theorem State.judgeFrame_settings (t : Transaction) (d : List Byte) : (s.judgeFrame t d).settings = s.settings := by
  unfold State.judgeFrame
  repeat' (first | split | dsimp only)
  all_goals simp
@[simp] theorem State.judgeFrame_setup (t : Transaction) (d : List Byte) : (s.judgeFrame t d).setup = s.setup := by
  unfold State.judgeFrame
  repeat' (first | split | dsimp only)
  all_goals simp
@[simp] theorem State.judgeFrame_pending (t : Transaction) (d : List Byte) : (s.judgeFrame t d).pending = s.pending := by
  unfold State.judgeFrame
  repeat' (first | split | dsimp only)
  all_goals simp
@[simp] theorem State.judgeFrame_inlets (t : Transaction) (d : List Byte) : (s.judgeFrame t d).inlets = s.inlets := by
  unfold State.judgeFrame
  repeat' (first | split | dsimp only)
  all_goals first | (simp; done) | (simp; rfl) | rfl

@[simp] theorem State.receiveByte_now (b : Byte) : (s.receiveByte b).now = s.now := by
  unfold State.receiveByte
  repeat' (first | split | dsimp only)
  all_goals simp
@[simp] theorem State.receiveByte_sense (b : Byte) : (s.receiveByte b).sense = s.sense := by
  unfold State.receiveByte
  repeat' (first | split | dsimp only)
  all_goals simp
@[simp] theorem State.receiveByte_lamps (b : Byte) : (s.receiveByte b).lamps = s.lamps := by
  unfold State.receiveByte
  repeat' (first | split | dsimp only)
  all_goals simp
@[simp] theorem State.receiveByte_flash (b : Byte) : (s.receiveByte b).flash = s.flash := by
  unfold State.receiveByte
  repeat' (first | split | dsimp only)
  all_goals simp
@[simp] theorem State.receiveByte_settings (b : Byte) : (s.receiveByte b).settings = s.settings := by
  unfold State.receiveByte
  repeat' (first | split | dsimp only)
  all_goals simp
@[simp] theorem State.receiveByte_setup (b : Byte) : (s.receiveByte b).setup = s.setup := by
  unfold State.receiveByte
  repeat' (first | split | dsimp only)
  all_goals simp
@[simp] theorem State.receiveByte_pending (b : Byte) : (s.receiveByte b).pending = s.pending := by
  unfold State.receiveByte
  repeat' (first | split | dsimp only)
  all_goals simp
@[simp] theorem State.receiveByte_inlets (b : Byte) : (s.receiveByte b).inlets = s.inlets := by
  unfold State.receiveByte
  repeat' (first | split | dsimp only)
  all_goals first | (simp; done) | (simp; rfl) | rfl

@[simp] theorem State.receiveBytes_now (d : List Byte) : (s.receiveBytes d).now = s.now := foldl_keeps (fun t => State.now t) _ (fun t b => t.receiveByte_now b) _ _
@[simp] theorem State.receiveBytes_sense (d : List Byte) : (s.receiveBytes d).sense = s.sense := foldl_keeps (fun t => State.sense t) _ (fun t b => t.receiveByte_sense b) _ _
@[simp] theorem State.receiveBytes_lamps (d : List Byte) : (s.receiveBytes d).lamps = s.lamps := foldl_keeps (fun t => State.lamps t) _ (fun t b => t.receiveByte_lamps b) _ _
@[simp] theorem State.receiveBytes_flash (d : List Byte) : (s.receiveBytes d).flash = s.flash := foldl_keeps (fun t => State.flash t) _ (fun t b => t.receiveByte_flash b) _ _
@[simp] theorem State.receiveBytes_settings (d : List Byte) : (s.receiveBytes d).settings = s.settings := foldl_keeps (fun t => State.settings t) _ (fun t b => t.receiveByte_settings b) _ _
@[simp] theorem State.receiveBytes_setup (d : List Byte) : (s.receiveBytes d).setup = s.setup := foldl_keeps (fun t => State.setup t) _ (fun t b => t.receiveByte_setup b) _ _
@[simp] theorem State.receiveBytes_pending (d : List Byte) : (s.receiveBytes d).pending = s.pending := foldl_keeps (fun t => State.pending t) _ (fun t b => t.receiveByte_pending b) _ _
@[simp] theorem State.receiveBytes_inlets (d : List Byte) : (s.receiveBytes d).inlets = s.inlets := foldl_keeps (fun t => State.inlets t) _ (fun t b => t.receiveByte_inlets b) _ _

end Sys2Proof.Machine
end

