-- ==== Sys2Proof/Laws/Requests.lean ====
section
/-! SUPPORT. What the shared frames of a command do: `event`, `powered`, the taking of a request, a response, a notice. -/
namespace Sys2Proof.Machine

theorem keeps_nil (s t : State) : Keeps [] s t := by
  intro p hp
  cases hp

theorem keeps_cons {p : Part} {ps : List Part} {s t : State} (h : p.same s t) (hs : Keeps ps s t) :
    Keeps (p :: ps) s t := by
  intro q hq
  cases hq with
  | head => exact h
  | tail _ h' => exact hs q h'

/-- Equal inlets are the two frames they stand for. -/
theorem slots_same {s t : State} (h : t.inlets = s.inlets) : Part.slots.same s t := by
  intro k
  have h1 := congrArg (fun x => PerSlot.get x.1 k) h
  simpa [State.inlets] using h1

theorem portIn_same {s t : State} (h : t.inlets = s.inlets) : Part.portIn.same s t := by
  simp only [State.inlets, Prod.mk.injEq] at h
  exact h.2

/-- A claim that there is a next state with a property, once the outcome is known. -/
theorem next_exists {P : State → Prop} {a : State} : (∃ t, (Host.Outcome.next a : Result) = .next t ∧ P t) ↔ P a := by
  simp

/-! ### The frame of an event -/

theorem powered_running {f : State → State} {s : State} (h : s.comb.heldInReset = false) :
    powered f s = .next (f s) := by simp [powered, h]

theorem powered_held {f : State → State} {s : State} (h : s.comb.heldInReset = true) : powered f s = .next s := by
  simp [powered, h]

theorem event_running {f : State → State} {s : State} (h : s.comb.heldInReset = false) :
    event f s = .next (((f s).retimeAttach.retimePark).announce s) := by simp [event, h]

theorem event_held {f : State → State} {s : State} (h : s.comb.heldInReset = true) : event f s = .next s := by
  simp [event, h]

/-- An event that leaves the combination state and the flags alone queues no COMBINATION notice (R1). -/
theorem State.announce_same {s before : State} (h : s.combSummary = before.combSummary) : s.announce before = s := by
  simp [State.announce, h]

/-- An event that changes the state or a flag queues one (R1). -/
theorem State.announce_changed {s before : State} (h : s.combSummary ≠ before.combSummary) :
    s.announce before = s.noticeCombination := by simp [State.announce, h]

theorem State.combSummary_eq {s t : State} (h : t.comb.state = s.comb.state) (hu : t.comb.unsettled = s.comb.unsettled)
    (hc : t.comb.chainFull = s.comb.chainFull) (hi : t.comb.identityClash = s.comb.identityClash)
    (hp : t.comb.passiveLoad = s.comb.passiveLoad) : t.combSummary = s.combSummary := by
  simp [State.combSummary, State.combFlags, h, hu, hc, hi, hp]

theorem State.combSummary_ne {s t : State} (h : t.comb.state ≠ s.comb.state) : t.combSummary ≠ s.combSummary := by
  intro e
  exact h (congrArg Prod.fst e)

/-- An event that leaves the combination state and the flags alone: its effect, then the two timers. -/
theorem event_quiet {f : State → State} {s t : State} (hr : s.comb.heldInReset = false) (hf : f s = t)
    (h : t.combSummary = s.combSummary) : event f s = .next (t.retimeAttach.retimePark) := by
  rw [event_running hr, hf, State.announce_same]
  exact h

/-- An event that changes the combination state: its effect, the two timers and a COMBINATION notice. -/
theorem event_loud {f : State → State} {s t : State} (hr : s.comb.heldInReset = false) (hf : f s = t)
    (h : t.comb.state ≠ s.comb.state) : event f s = .next (t.retimeAttach.retimePark).noticeCombination := by
  rw [event_running hr, hf, State.announce_changed]
  exact State.combSummary_ne h

/-- The two timers of chapter 1 are all that `retimeAttach` and `retimePark` write. -/
theorem State.retimed_comb (s : State) :
    (s.retimeAttach.retimePark).comb = { s.comb with
      attachSince := s.retimeAttach.comb.attachSince, entryWaiting := s.retimeAttach.comb.entryWaiting
      parkSince := s.retimePark.comb.parkSince } := rfl

@[simp] theorem State.retimed_state (s : State) : (s.retimeAttach.retimePark).comb.state = s.comb.state := rfl
@[simp] theorem State.retimed_feed (s : State) : (s.retimeAttach.retimePark).comb.feed = s.comb.feed := rfl

/-! ### Requests -/

theorem Takes.takesRequests {s : State} {code : Byte} {e : IntakeEntry} {rest : List IntakeEntry} {n : Nat}
    (h : Takes s code e rest n) : s.takesRequests = true := by
  simp [State.takesRequests, h.awake, h.noWait, h.noDeferred]

theorem Takes.isRequest {s : State} {code : Byte} {e : IntakeEntry} {rest : List IntakeEntry} {n : Nat}
    (h : Takes s code e rest n) : isRequest code e = true := by simp [Machine.isRequest, h.whole, h.carries]

theorem Takes.takeHead {s : State} {code : Byte} {e : IntakeEntry} {rest : List IntakeEntry} {n : Nat}
    (h : Takes s code e rest n) (hn : s.framesNeeded e ≤ n) :
    s.takeHead (Machine.isRequest code) = some (e, { s with port := { s.port with intake := rest } }) := by
  have hr := h.room
  have hf : s.framesNeeded e ≤ s.freeFrames := by simp only [State.freeFrames]; omega
  simp [State.takeHead, h.head, h.takesRequests, h.isRequest, hf]

/-- A request other than the two dumps needs one frame (R161). -/
theorem framesNeeded_one {s : State} {e : IntakeEntry} {code : Byte} (hc : e.code = code)
    (h1 : code ≠ codeCountersDump) (h2 : code ≠ codeCountersDumpReset) : s.framesNeeded e ≤ 1 := by
  simp [State.framesNeeded, hc, h1, h2]

/-- The state a request is decided in: its entry gone and REQUESTS-TAKEN counted (R161). -/
theorem Takes.taking {s : State} {code : Byte} {e : IntakeEntry} {rest : List IntakeEntry}
    (h : Takes s code e rest 1) (h1 : code ≠ codeCountersDump) (h2 : code ≠ codeCountersDumpReset)
    (f : IntakeEntry → State → State) :
    s.taking (Machine.isRequest code) f
      = f e (State.count { s with port := { s.port with intake := rest } } .requestsTaken) := by
  simp [State.taking, h.takeHead (framesNeeded_one h.carries h1 h2)]

/-- Nothing is taken in PARKED (R161). -/
theorem State.taking_parked {s : State} (h : s.comb.state = .parked) (w : IntakeEntry → Bool)
    (f : IntakeEntry → State → State) : s.taking w f = s := by
  have hh : s.takeHead w = none := by
    unfold State.takeHead
    split
    · rfl
    · simp [State.takesRequests, h]
  simp [State.taking, hh]

/-- The bytes of a response as it is queued (11.2, R171). -/
theorem State.queueResponse_eq (s : State) (k : Slot) (code sequence : Byte) (st : Status) (cl : Bool)
    (data : List Byte) (d0 d1 d2 d3 : Byte) (hd : fitBytes 4 data = [d0, d1, d2, d3]) :
    s.queueResponse ⟨k, code, sequence, st, cl, data⟩
      = { s with
          port := { s.port with report := s.port.report ++ [frameTo s k code sequence st cl d0 d1 d2 d3] }
          slots := s.slots.set k { s.slots.get k with missed := false } } := by
  have hf : ∀ m c : Bool, (flagByte m ||| (flagByte c <<< 1)) = (if m then (1#8) else 0) ||| (if c then 2 else 0) := by
    decide
  simp only [State.queueResponse, State.queueFrame, State.setMissed, responseBytes, hd, hf, frameTo, kindResponse]
  rfl

/-- A request taken and answered in the same event leaves `answered` (R161). -/
theorem State.answer_taken (s : State) (e : IntakeEntry) (rest : List IntakeEntry) (st : Status) (cl : Bool)
    (data : List Byte) (d0 d1 d2 d3 : Byte) (hd : fitBytes 4 data = [d0, d1, d2, d3]) :
    (State.count { s with port := { s.port with intake := rest } } .requestsTaken).answer e st data cl
      = answered s e rest [responseFrame s e st cl d0 d1 d2 d3] := by
  rw [State.answer, State.queueResponse_eq _ _ _ _ _ _ _ d0 d1 d2 d3 hd]
  rfl

theorem State.answer_refused (s : State) (e : IntakeEntry) (rest : List IntakeEntry) (st : Status) :
    (State.count { s with port := { s.port with intake := rest } } .requestsTaken).answer e st = refusedWith s e rest st :=
  State.answer_taken s e rest st false [] 0 0 0 0 rfl

/-! ### Timers that are in step -/

/-- With the timers in step, what leaves their conditions alone leaves them alone. -/
theorem TimersFollow.retimed {s : State} (h : TimersFollow s) : s.retimeAttach.retimePark = s := by
  have ha : s.retimeAttach = s := by
    have h1 : (if s.attachDiffers = true then some (s.comb.attachSince.getD s.now) else none) = s.comb.attachSince := by
      rw [← h.attach]
      cases s.comb.attachSince <;> simp
    have h2 : (s.comb.entryWaiting && s.attached && s.comb.state == .detached) = s.comb.entryWaiting := by
      cases hw : s.comb.entryWaiting
      · rfl
      · have := h.waiting hw
        simp [this.1, this.2]
    simp only [State.retimeAttach, h1, h2]
  have hp : s.retimePark = s := by
    have h1 : (if s.mayPark = true then some (s.comb.parkSince.getD s.now) else none) = s.comb.parkSince := by
      rw [← h.park]
      cases s.comb.parkSince <;> simp
    simp only [State.retimePark, h1]
  rw [ha, hp]

@[simp] theorem State.answered_requestSet (s : State) (e : IntakeEntry) (rest : List IntakeEntry) (fs : List Frame) (k : Slot) :
    ((answered s e rest fs).slots.get k).requestSet = (s.slots.get k).requestSet := by
  by_cases h : k = e.slot
  · subst h; simp [answered]
  · simp [answered, h]

/-- An answered request leaves the conditions of the timers alone. -/
theorem TimersFollow.answered {s : State} (h : TimersFollow s) (e : IntakeEntry) (rest : List IntakeEntry)
    (fs : List Frame) : TimersFollow (answered s e rest fs) := by
  have hp : (Machine.answered s e rest fs).mayPark = s.mayPark := by
    simp only [State.mayPark, State.answered_requestSet]
    rfl
  exact ⟨h.attach, h.waiting, by rw [hp]; exact h.park⟩

/-- A request taken as an event and only answered (R161). -/
theorem event_answered {f : State → State} {s : State} {e : IntakeEntry} {rest : List IntakeEntry} {fs : List Frame}
    (hr : s.comb.heldInReset = false) (ht : TimersFollow s) (h : f s = answered s e rest fs) :
    event f s = .next (answered s e rest fs) := by
  rw [event_running hr, h, (ht.answered e rest fs).retimed,
    State.announce_same (s := answered s e rest fs) (before := s) rfl]

end Sys2Proof.Machine
end

