-- ==== Sys2Proof/Laws/Drop.lean ====
section
/-! SUPPORT. What the removals of unit records do: `retireUnit` over a list, and the detach drop. -/
namespace Sys2Proof.Machine

theorem take_four_insert (a b : List CacheRecord) (r : CacheRecord) :
    (a ++ r :: b.take 3).take 4 = (a ++ r :: b).take 4 := by
  simp only [List.take_append]
  congr 1
  rcases h4 : 4 - a.length with _ | n
  · simp
  · have : n ≤ 3 := by omega
    simp [List.take_take, this]

/-- A list of unit records retired one after another: the complete ones stand in the cache, the last retired first (R88), and
no record of their positions is left. -/
theorem retire_fold (l : List UnitRecord) : ∀ s : State, s.cache.length ≤ Config.cacheRecords →
    (l.foldl State.retireUnit s).cache
        = (((l.reverse.filter UnitRecord.complete).map UnitRecord.toCache) ++ s.cache).take 4
      ∧ (l.foldl State.retireUnit s).units = s.units.filter fun v => l.all fun u => v.position ≠ u.position := by
  induction l with
  | nil =>
    intro s h
    simp only [Config.cacheRecords] at h
    simp [List.take_of_length_le h]
  | cons u l ih =>
    intro s h
    simp only [Config.cacheRecords] at h
    have hc : (s.retireUnit u).cache.length ≤ Config.cacheRecords := by
      unfold State.retireUnit
      dsimp only
      split
      · simp [insertCache, Config.cacheRecords]
      · simpa [Config.cacheRecords] using h
    obtain ⟨h1, h2⟩ := ih (s.retireUnit u) hc
    constructor
    · rw [List.foldl_cons, h1]
      by_cases hcu : u.complete = true
      · have : (s.retireUnit u).cache = u.toCache :: s.cache.take 3 := by
          simp [State.retireUnit, hcu, insertCache, Config.cacheRecords]
        rw [this]
        simp only [List.reverse_cons, List.filter_append, List.filter_cons, hcu, if_true, List.filter_nil,
          List.map_append, List.map_cons, List.map_nil, List.append_assoc, List.singleton_append]
        exact take_four_insert _ _ _
      · have : (s.retireUnit u).cache = s.cache := by simp [State.retireUnit, hcu]
        rw [this]
        simp [List.filter_append, hcu]
    · rw [List.foldl_cons, h2]
      have : (s.retireUnit u).units = s.units.filter fun v => v.position ≠ u.position := by
        unfold State.retireUnit
        dsimp only
        split <;> rfl
      rw [this, List.filter_filter]
      simp [Bool.and_comm]

/-- A fold of retirements touches the unit records and the cache alone. -/
theorem retire_keeps {γ : Type} (p : State → γ) (h : ∀ (s : State) (u : UnitRecord), p (s.retireUnit u) = p s)
    (l : List UnitRecord) (s : State) : p (l.foldl State.retireUnit s) = p s := foldl_keeps p _ h l s

/-- The whole Unit Table retired (R12): nothing is left of it. -/
theorem retire_all (s : State) (h : s.cache.length ≤ Config.cacheRecords) :
    ((s.unitsFrom 0).foldl State.retireUnit s).cache
        = (((s.units.filter UnitRecord.complete).map UnitRecord.toCache) ++ s.cache).take 4
      ∧ ((s.unitsFrom 0).foldl State.retireUnit s).units = [] := by
  obtain ⟨h1, h2⟩ := retire_fold (s.unitsFrom 0) s h
  constructor
  · rw [h1]
    simp [State.unitsFrom]
  · rw [h2]
    simp only [State.unitsFrom, List.all_reverse, List.filter_eq_nil_iff]
    intro v hv hall
    have := List.all_eq_true.mp hall v (by simp [hv])
    simp at this

/-! ### The detach drop (R12), field by field -/

variable (s : State) (next : CombState)

/-- The state in which the drop retires the unit records: line silent, claims ended, queues answered. -/
def State.dropped (s : State) : State := (s.abandon.endAllClaims .unitLost).discardAllWork s.line.tx

theorem State.dropped_line : s.dropped.line = { s.line with tx := none, gapSince := none, urgent := [], access := [] } := by
  have h : ∀ (l : List UrgentEntry), l.filter (fun e => decide (e.position < 0)) = [] := by intro l; simp
  have h' : ∀ (l : List AccessEntry), l.filter (fun e => decide (e.position < 0)) = [] := by intro l; simp
  simp [State.dropped, State.discardAllWork, State.discardWork, State.endAllClaims, State.abandon]

theorem State.dropped_claims : s.dropped.claims = [] := by
  simp only [State.dropped, State.discardAllWork, State.discardWork_claims, State.endAllClaims, State.endClaims]
  refine (foldl_keeps (fun t => State.claims t) _ (fun t c => t.noticeClaimEnd_claims c .unitLost) _ _).trans ?_
  simp

@[simp] theorem State.dropped_units : s.dropped.units = s.units := by
  simp [State.dropped, State.discardAllWork, State.endAllClaims]

@[simp] theorem State.dropped_cache : s.dropped.cache = s.cache := by
  simp [State.dropped, State.discardAllWork, State.endAllClaims]

theorem State.drop_eq : s.drop next =
    State.enter
      { (({ ((s.dropped.unitsFrom 0).foldl State.retireUnit s.dropped).setFeed false with walker := .idle }
          : State).clearCandidates.clearWalkFlags) with
        comb := { (({ ((s.dropped.unitsFrom 0).foldl State.retireUnit s.dropped).setFeed false with walker := .idle }
          : State).clearCandidates.clearWalkFlags).comb with feedStartSince := none } } next := rfl

theorem State.drop_units (h : s.cache.length ≤ Config.cacheRecords) : (s.drop next).units = [] := by
  rw [State.drop_eq]
  exact (retire_all s.dropped (by simpa using h)).2

theorem State.drop_cache (h : s.cache.length ≤ Config.cacheRecords) : (s.drop next).cache
    = (((s.units.filter UnitRecord.complete).map UnitRecord.toCache) ++ s.cache).take 4 := by
  rw [State.drop_eq]
  have := (retire_all s.dropped (by simpa using h)).1
  simp only [State.dropped_units, State.dropped_cache] at this
  exact this

theorem State.drop_line :
    (s.drop next).line = { s.line with tx := none, gapSince := none, urgent := [], access := [] } := by
  rw [State.drop_eq]
  simp only [State.enter, State.clearWalkFlags, State.clearCandidates, State.setFeed]
  exact (retire_keeps State.line State.retireUnit_line _ _).trans s.dropped_line

theorem State.drop_claims : (s.drop next).claims = [] := by
  rw [State.drop_eq]
  simp only [State.enter, State.clearWalkFlags, State.clearCandidates, State.setFeed]
  exact (retire_keeps State.claims State.retireUnit_claims _ _).trans s.dropped_claims

@[simp] theorem State.drop_walker : (s.drop next).walker = .idle := rfl

theorem State.dropped_comb : s.dropped.comb = s.comb := by
  simp [State.dropped, State.discardAllWork, State.endAllClaims]

theorem State.drop_comb : (s.drop next).comb =
    { s.comb with state := next, feed := false, feedStartSince := none, unsettled := false, chainFull := false,
                  identityClash := false, attachSince := none } := by
  rw [State.drop_eq]
  have h : ((s.dropped.unitsFrom 0).foldl State.retireUnit s.dropped).comb = s.comb :=
    (retire_keeps State.comb State.retireUnit_comb _ _).trans s.dropped_comb
  simp only [State.enter, State.clearWalkFlags, State.clearCandidates, State.setFeed, h]

theorem State.drop_lamps (l : Line) : (s.drop next).lamps.get l =
    { s.lamps.get l with verdict := { (s.lamps.get l).verdict with candidate := none, repeats := 0 } } := by
  rw [State.drop_eq]
  have h : ((s.dropped.unitsFrom 0).foldl State.retireUnit s.dropped).lamps = s.lamps :=
    (retire_keeps State.lamps State.retireUnit_lamps _ _).trans
      (by simp [State.dropped, State.discardAllWork, State.endAllClaims])
  simp only [State.enter, State.clearWalkFlags, State.clearCandidates, State.setFeed, h, PerLine.get_map]

theorem State.drop_rest : (s.drop next).now = s.now ∧ (s.drop next).sense = s.sense ∧ (s.drop next).flash = s.flash
    ∧ (s.drop next).settings = s.settings ∧ (s.drop next).setup = s.setup ∧ (s.drop next).pending = s.pending
    ∧ (s.drop next).inlets = s.inlets ∧ (s.drop next).tallies = s.tallies := by
  have h {γ : Type} (p : State → γ) (hr : ∀ (t : State) (u : UnitRecord), p (t.retireUnit u) = p t)
      (hd : p s.dropped = p s) : p ((s.dropped.unitsFrom 0).foldl State.retireUnit s.dropped) = p s :=
    (retire_keeps p hr _ _).trans hd
  rw [State.drop_eq]
  simp only [State.enter, State.clearWalkFlags, State.clearCandidates, State.setFeed]
  refine ⟨h State.now State.retireUnit_now ?_, h State.sense State.retireUnit_sense ?_,
    h State.flash State.retireUnit_flash ?_, h State.settings State.retireUnit_settings ?_,
    h State.setup State.retireUnit_setup ?_, h State.pending State.retireUnit_pending ?_,
    h State.inlets State.retireUnit_inlets ?_, h State.tallies State.retireUnit_tallies ?_⟩ <;>
  simp [State.dropped, State.discardAllWork, State.endAllClaims]

end Sys2Proof.Machine
end

