-- ==== Sys2Proof/Laws/Line.lean ====
section
/-! SUPPORT. What the bytes of an answer do: a byte kept, a whole frame judged, a good answer handed on; what a position leaves in
a set, and a switch in its line. -/
namespace Sys2Proof.Machine

/-- A line brought to what the switch law wants is ON exactly when it wants it, and hands on what R97 says. -/
theorem LampLine.follow_switched (x : LampLine) (l : Line) (want : Bool) (now : Nat) (phaseBegin : Bool) :
    (x.follow l want now phaseBegin).on = want ∧ Switched x (x.follow l want now phaseBegin) l now phaseBegin := by
  by_cases h : want = x.on
  · rw [LampLine.follow, if_pos h]
    exact ⟨h.symm, fun _ => ⟨rfl, rfl, rfl⟩, by simp_all, by simp_all, by simp_all, by simp_all⟩
  · rw [LampLine.follow, if_neg h]
    cases want with
    | true =>
      refine ⟨rfl, ?_, ?_, ?_, ?_, ?_⟩ <;> simp_all [LampLine.switchOn]
    | false =>
      refine ⟨rfl, ?_, ?_, ?_, ?_, ?_⟩ <;> simp_all [LampLine.switchOff]

/-- A position set and its bit: bit `p - 1` for position `p`, and none for position 0 (11.2). -/
theorem inPositionSet_positionBit (p q : Nat) : inPositionSet (positionBit p) q = decide (q = p ∧ 1 ≤ p ∧ p ≤ 8) := by
  obtain rfl | hp := Nat.eq_zero_or_pos p
  · simp [inPositionSet, positionBit]
  · simp only [inPositionSet, positionBit, if_neg (Nat.ne_of_gt hp), BitVec.getLsbD_shiftLeft, BitVec.getLsbD_one]
    rw [Bool.eq_iff_iff]
    simp only [Bool.and_eq_true, decide_eq_true_eq, Bool.not_eq_true', decide_eq_false_iff_not]
    omega

/-- A position taken out of a set: it and no other leaves, whatever number it is (R56). -/
theorem inPositionSet_writePosition_false (set : Byte) (p q : Nat) :
    inPositionSet (writePosition set p false) q = (inPositionSet set q && decide (q ≠ p)) := by
  have h := inPositionSet_positionBit p q
  simp only [inPositionSet, writePosition] at h ⊢
  by_cases hq : q = 0
  · simp [hq]
  · by_cases hb : q - 1 < 8
    · simp only [hq, ne_eq, not_false_eq_true, decide_true, Bool.true_and, Bool.false_eq_true, ite_false,
        BitVec.getLsbD_and, BitVec.getLsbD_not, hb] at h ⊢
      rw [h]
      congr 1
      rw [← decide_not, decide_eq_decide]
      omega
    · simp only [Bool.false_eq_true, ite_false, BitVec.getLsbD_and, BitVec.getLsbD_of_ge set (q - 1) (by omega),
        Bool.false_and, Bool.and_false]

/-- A position from 1 to 8 put into a set: it and no other joins (R56). -/
theorem inPositionSet_writePosition_true {p : Nat} (set : Byte) (q : Nat) (h1 : 1 ≤ p) (h8 : p ≤ 8) :
    inPositionSet (writePosition set p true) q = (inPositionSet set q || decide (q = p)) := by
  have h := inPositionSet_positionBit p q
  simp only [inPositionSet, writePosition] at h ⊢
  by_cases hq : q = 0
  · subst hq
    simp only [ne_eq, not_true_eq_false, decide_false, Bool.false_and, Bool.false_or]
    exact (decide_eq_false (by omega)).symm
  · simp only [hq, ne_eq, not_false_eq_true, decide_true, Bool.true_and, ite_true, BitVec.getLsbD_or] at h ⊢
    rw [h]
    congr 1
    rw [decide_eq_decide]
    omega

/-- Whether a unit access is in flight depends on the originator alone (R14, R29). -/
theorem State.accessInFlight_same {s u : State} {t v : Transaction} (hs : s.line.tx = some t) (hu : u.line.tx = some v)
    (h : v.originator = t.originator) : u.accessInFlight = s.accessInFlight := by
  obtain ⟨k, p, d, o, a, f⟩ := t
  obtain ⟨k', p', d', o', a', f'⟩ := v
  obtain rfl : o' = o := h
  cases o' <;> simp [State.accessInFlight, hs, hu]

/-- A byte of an awaited answer that neither is a length byte above 8 nor completes the frame is kept (R23). -/
theorem State.receiveByte_kept {s : State} {t : Transaction} {since : Nat} {received : List Byte} {b : Byte}
    (ht : s.line.tx = some t) (hp : t.phase = .awaiting since received)
    (hl : ¬ ((received ++ [b]).length = 2 ∧ 8 < b.toNat))
    (hc : ¬ (3 ≤ (received ++ [b]).length ∧ (received ++ [b]).length = (byteAt (received ++ [b]) 1).toNat + 3)) :
    s.receiveByte b = s.setTx (some { t with phase := .awaiting s.now (received ++ [b]) }) := by
  simp only [State.receiveByte, ht, hp]
  rw [if_neg hl, if_neg hc]

/-- The byte that completes a frame has it judged (R23). -/
theorem State.receiveByte_complete {s : State} {t : Transaction} {since : Nat} {received : List Byte} {b : Byte}
    (ht : s.line.tx = some t) (hp : t.phase = .awaiting since received)
    (hc : 3 ≤ (received ++ [b]).length ∧ (received ++ [b]).length = (byteAt (received ++ [b]) 1).toNat + 3) :
    s.receiveByte b = s.judgeFrame t (received ++ [b]) := by
  simp only [State.receiveByte, ht, hp]
  rw [if_neg (by omega), if_pos hc]

/-- A length byte above 8 judges the attempt failed (R23). -/
theorem State.receiveByte_tooLong {s : State} {t : Transaction} {since : Nat} {received : List Byte} {b : Byte}
    (ht : s.line.tx = some t) (hp : t.phase = .awaiting since received) (hr : received.length = 1) (hb : 8 < b.toNat) :
    s.receiveByte b = s.attemptFailed t (some .checkErrors) := by
  simp only [State.receiveByte, ht, hp]
  rw [if_pos ⟨by simp [hr], hb⟩]

/-- The remaining bytes of a frame of at most 8 payload bytes have it judged whole, whatever way they are split from those
received before (R21, R23). -/
theorem State.receiveBytes_frame {status check : Byte} {payload : List Byte} (hpl : payload.length ≤ 8) :
    ∀ (bytes received : List Byte) (s : State) (t : Transaction) (since : Nat), s.line.tx = some t →
      t.phase = .awaiting since received → bytes ≠ [] →
      received ++ bytes = status :: byteOf payload.length :: (payload ++ [check]) →
      ∃ x y, s.receiveBytes bytes
        = (s.setTx (some { t with phase := .awaiting x y })).judgeFrame { t with phase := .awaiting x y }
            (received ++ bytes) := by
  have hn : (byteOf payload.length).toNat = payload.length := by
    simp only [byteOf, BitVec.toNat_ofNat]
    omega
  intro bytes
  induction bytes with
  | nil => intro _ _ _ _ _ _ h; exact absurd rfl h
  | cons b rest ih =>
    intro received s t since ht hp _ hw
    have hlen : received.length + (rest.length + 1) = payload.length + 3 := by
      have := congrArg List.length hw
      simp only [List.length_append, List.length_cons, List.length_nil] at this
      omega
    cases rest with
    | nil =>
      refine ⟨since, received, ?_⟩
      have hcond : 3 ≤ (received ++ [b]).length ∧ (received ++ [b]).length = (byteAt (received ++ [b]) 1).toNat + 3 := by
        refine ⟨by simp; simp at hlen; omega, ?_⟩
        rw [hw]
        simp [byteAt, hn]
      have hs : (s.setTx (some { t with phase := .awaiting since received })) = s := by
        rw [← hp]
        show ({ s with line := { s.line with tx := some t } } : State) = s
        rw [← ht]
      have htt : ({ t with phase := .awaiting since received } : Transaction) = t := by rw [← hp]
      rw [hs, htt]
      exact State.receiveByte_complete ht hp hcond
    | cons b' rest =>
      have hshort : (received ++ [b]).length < payload.length + 3 := by simp at hlen ⊢; omega
      have h1 : 1 < (received ++ [b]).length → byteAt (received ++ [b]) 1 = byteOf payload.length := by
        intro h
        have : byteAt (received ++ b :: b' :: rest) 1 = byteOf payload.length := by rw [hw]; rfl
        rw [← this]
        have e : received ++ b :: b' :: rest = (received ++ [b]) ++ (b' :: rest) := by simp
        rw [e, byteAt, byteAt, List.getD_append _ _ _ _ h]
      have hb : (received ++ [b]).length = 2 → b = byteOf payload.length := by
        intro h
        have h2 := h1 (by omega)
        rw [← h2]
        have : received.length = 1 := by simpa using h
        obtain ⟨a, rfl⟩ := List.length_eq_one_iff.mp this
        rfl
      have hk := State.receiveByte_kept (b := b) ht hp
        (by rintro ⟨h, h'⟩; rw [hb h, hn] at h'; omega)
        (by rintro ⟨h, h'⟩; rw [h1 (by omega), hn] at h'; omega)
      obtain ⟨x, y, hxy⟩ := ih (received ++ [b]) (s.setTx (some { t with phase := .awaiting s.now (received ++ [b]) }))
        { t with phase := .awaiting s.now (received ++ [b]) } s.now rfl rfl (by simp) (by rw [← hw]; simp)
      refine ⟨x, y, ?_⟩
      have hf : s.receiveBytes (b :: b' :: rest) = (s.receiveByte b).receiveBytes (b' :: rest) := rfl
      rw [hf, hk, hxy]
      have e : (received ++ [b]) ++ (b' :: rest) = received ++ b :: b' :: rest := by simp
      rw [e]
      rfl

/-- A frame with its right check is a good answer (R22, R23). -/
theorem State.judgeFrame_good (s : State) (t : Transaction) (status : Byte) (payload : List Byte) :
    s.judgeFrame t (answerBytes status payload) = s.goodAnswer t status payload := by
  have h1 : (answerBytes status payload).dropLast = status :: byteOf payload.length :: payload := by
    exact List.dropLast_concat
  have h2 : (answerBytes status payload).getLastD 0 = crc8 (status :: byteOf payload.length :: payload) := by
    show ((status :: byteOf payload.length :: payload) ++ [_]).getLastD 0 = _
    rw [List.getLastD_eq_getLast?, List.getLast?_concat]
    rfl
  have h3 : (((answerBytes status payload).drop 2).dropLast) = payload := by simp [answerBytes]
  have h4 : byteAt (answerBytes status payload) 0 = status := rfl
  rw [State.judgeFrame, h1, h2, if_pos rfl, h3, h4]

/-- A frame with a wrong check judges the attempt CHECK-ERROR (R22, R23). -/
theorem State.judgeFrame_bad (s : State) (t : Transaction) (body : List Byte) (check : Byte) (h : check ≠ crc8 body) :
    s.judgeFrame t (body ++ [check]) = s.attemptFailed t (some .checkErrors) := by
  rw [State.judgeFrame, if_neg]
  simpa using fun e => h e.symm

/-- A good answer received whole: counted, the line free, flags and outcome handed on, and the next work started (R31, R33). -/
theorem State.receiveBytes_answer {s : State} {t : Transaction} {since : Nat} {status : Byte} {payload : List Byte}
    (ht : s.line.tx = some t) (hp : t.phase = .awaiting since []) (hpl : payload.length ≤ 8) :
    s.receiveBytes (answerBytes status payload)
      = ((((s.count .answersGood).setTx none).handFlags t.target status).handOutcome t status
          (s.judgeContent t status payload)).lineWork := by
  obtain ⟨x, y, h⟩ := State.receiveBytes_frame hpl (answerBytes status payload) [] s t since ht hp
    (by simp [answerBytes]) (check := crc8 (status :: byteOf payload.length :: payload)) (status := status) rfl
  rw [h, List.nil_append, State.judgeFrame_good]
  rfl

end Sys2Proof.Machine
end

