-- ==== Sys2Proof/Laws/Outbox.lean ====
section
/-! SUPPORT. What the operations that owe frames do to the outbox: a notice, a response that may wait, and the rows of them that
an event sends. -/
namespace Sys2Proof.Machine

/-! ### The outbox reads the settings alone -/

theorem Outbox.offer_settings {s t : State} (h : t.settings = s.settings) (o : Outbox) (kind : NoticeKind) (k : Slot)
    (content : List Byte) : o.offer t kind k content = o.offer s kind k content := by
  have ht : t.tag k = s.tag k := by simp only [State.tag, h]
  have hb : t.block = s.block := by simp only [State.block, h]
  unfold Outbox.offer Outbox.send
  rw [ht, hb, h]

theorem Outbox.respond_settings {s t : State} (h : t.settings = s.settings) (o : Outbox) (r : Response) :
    o.respond t r = o.respond s r := by
  have ht : t.tag r.slot = s.tag r.slot := by simp only [State.tag, h]
  have hb : t.block = s.block := by simp only [State.block, h]
  unfold Outbox.respond Outbox.send
  rw [ht, hb]

theorem Outbox.endClaims_settings {s t : State} (h : t.settings = s.settings) (o : Outbox) (reason : Byte) (cs : List Claim) :
    o.endClaims t reason cs = o.endClaims s reason cs := by
  simp only [Outbox.endClaims, Outbox.offer_settings h]

theorem Outbox.respondAll_settings {s t : State} (h : t.settings = s.settings) (o : Outbox) (rs : List Response) :
    o.respondAll t rs = o.respondAll s rs := by
  simp only [Outbox.respondAll, Outbox.respond_settings h]

theorem Outbox.offerAll_settings {s t : State} (h : t.settings = s.settings) (o : Outbox) (kind : NoticeKind)
    (content : List Byte) : o.offerAll t kind content = o.offerAll s kind content := by
  simp only [Outbox.offerAll, Outbox.offer_settings h]

theorem Outbox.unitNotice_settings {s t : State} (h : t.settings = s.settings) (o : Outbox) (p : Nat) (code : Byte)
    (identity : Word32) : o.unitNotice t p code identity = o.unitNotice s p code identity := by
  simp only [Outbox.unitNotice, Outbox.offerAll_settings h]

/-! ### One frame -/

/-- Four bytes of a response, the missing ones 0. -/
theorem fitBytes_four (d : List Byte) : fitBytes 4 d = [byteAt d 0, byteAt d 1, byteAt d 2, byteAt d 3] := by
  rcases d with _ | ⟨a, _ | ⟨b, _ | ⟨c, _ | ⟨e, d⟩⟩⟩⟩ <;> rfl

/-- Bytes filled with zeros. -/
theorem fitBytes_fill (n : Nat) : ∀ d : List Byte, d.length ≤ n → fitBytes n d = d ++ List.replicate (n - d.length) 0 := by
  induction n with
  | zero =>
    intro d h
    simp [List.length_eq_zero_iff.mp (Nat.le_zero.mp h), fitBytes]
  | succ n ih =>
    intro d h
    rcases d with _ | ⟨b, d⟩
    · have := ih [] (Nat.zero_le n)
      simp only [List.nil_append, List.length_nil, Nat.sub_zero] at this ⊢
      simp [fitBytes, this, List.replicate_succ]
    · simp only [List.length_cons, Nat.add_le_add_iff_right] at h
      simp [fitBytes, ih d h]

/-- The missed flag in bit 7 of a notice's kind (11.2). -/
theorem noticeKind_missed (kind : NoticeKind) (m : Bool) :
    byteOf (noticeKindCode kind) ||| (flagByte m <<< 7) = byteOf (noticeKindCode kind + if m then 128 else 0) := by
  revert m
  cases kind <;> decide

/-- The two flags of a response (11.2). -/
theorem response_flags (m c : Bool) :
    flagByte m ||| (flagByte c <<< 1) = (if m then 1 else 0) ||| (if c then 2 else 0) := by
  revert m c
  decide

/-- The missed flags after one of them is written. -/
theorem State.setMissed_map (s : State) (k : Slot) (b : Bool) :
    ((s.setMissed k b).slots.map fun _ x => x.missed) = (s.slots.map fun _ x => x.missed).set k b := by
  cases k <;> rfl

/-- A slot's missed flag read in the outbox. -/
theorem State.outbox_missed (s : State) (k : Slot) : s.outbox.missed.get k = s.missed k := by cases k <;> rfl

/-- A notice that is offered at all (R158, R171). -/
theorem State.noticeFor_false (s : State) (kind : NoticeKind) (k : Slot) : s.noticeFor kind k = false
    ↔ (s.tag k = 0xFF ∨ (s.settings.noticeRouting.get k).getLsbD (noticeKindCode kind - 1) = false) := by
  have hk : noticeKindBit kind = noticeKindCode kind - 1 := by cases kind <;> rfl
  simp only [State.noticeFor, State.slotEmpty, State.routes, ← hk, Bool.and_eq_false_iff, Bool.not_eq_false', beq_iff_eq]
  exact Iff.rfl

/-- A notice that is queued (R162, R171). -/
theorem State.noticeRoom_true (s : State) : s.noticeRoom = true
    ↔ s.outbox.deferred = [] ∧ s.settings.noticeReserve.toNat < 24 - s.outbox.report.length := by
  simp only [State.noticeRoom, Bool.and_eq_true, List.isEmpty_iff, decide_eq_true_eq]
  exact Iff.rfl

/-- A notice offered for a slot (R171). -/
theorem State.offerNotice_outbox (s : State) (kind : NoticeKind) (k : Slot) (content : List Byte) (h : content.length ≤ 7) :
    (s.offerNotice kind k content).outbox = s.outbox.offer s kind k content := by
  unfold State.offerNotice Outbox.offer
  cases hn : s.noticeFor kind k with
  | false => rw [if_pos ((s.noticeFor_false kind k).mp hn), if_neg (by decide)]
  | true =>
    rw [if_neg (fun e => absurd ((s.noticeFor_false kind k).mpr e) (by simp [hn])), if_pos rfl]
    cases hr : s.noticeRoom with
    | true =>
      rw [if_pos rfl, if_pos (s.noticeRoom_true.mp hr)]
      simp only [State.queueNotice, State.outbox, State.setMissed_map, Outbox.send, ← State.outbox_missed, noticeBytes,
        noticeKind_missed, fitBytes_fill 7 content h]
      rfl
    | false =>
      rw [if_neg (by decide), if_neg (fun e => absurd (s.noticeRoom_true.mpr e) (by simp [hr]))]
      simp only [State.dropNotice, State.outbox, State.setMissed_map]
      rfl

/-- A response of no LAMP-SET joins the tail of the list that waits (R162). -/
theorem joinDeferred_other (r : Response) (h : r.code ≠ codeLampSet) (ds : List Response) : joinDeferred r ds = ds ++ [r] := by
  induction ds with
  | nil => rfl
  | cons d ds ih => simp [joinDeferred, h, ih]

/-- A LAMP-SET response takes the place of the one of its slot that waits (R162). -/
theorem joinDeferred_replaces (r d : Response) (before after : List Response) (hr : r.code = codeLampSet)
    (hd : d.code = codeLampSet) (hs : d.slot = r.slot) (hb : ∀ x ∈ before, x.code = codeLampSet → x.slot ≠ r.slot) :
    joinDeferred r (before ++ d :: after) = before ++ r :: after := by
  induction before with
  | nil => simp [joinDeferred, hr, hd, hs]
  | cons x before ih =>
    have hx := hb x List.mem_cons_self
    rw [List.cons_append, joinDeferred, if_neg fun e => hx e.2.1 e.2.2,
      ih fun y hy => hb y (List.mem_cons_of_mem x hy), List.cons_append]

/-- With none of its slot waiting it joins the tail (R162). -/
theorem joinDeferred_new (r : Response) (ds : List Response) (h : ∀ x ∈ ds, x.code = codeLampSet → x.slot ≠ r.slot) :
    joinDeferred r ds = ds ++ [r] := by
  induction ds with
  | nil => rfl
  | cons d ds ih =>
    rw [joinDeferred, if_neg fun e => h d List.mem_cons_self e.2.1 e.2.2, ih fun x hx => h x (List.mem_cons_of_mem d hx),
      List.cons_append]

/-- A response of no LAMP-SET that may wait (R160, R162). -/
theorem State.deferResponse_outbox (s : State) (r : Response) (h : r.code ≠ codeLampSet) :
    (s.deferResponse r).outbox = s.outbox.respond s r := by
  have hf : (s.port.deferred.isEmpty && decide (0 < s.freeFrames)) = true
      ↔ s.outbox.deferred = [] ∧ s.outbox.report.length < 24 := by
    simp only [State.outbox]
    simp only [State.freeFrames, Config.reportFrames, Bool.and_eq_true, List.isEmpty_iff, decide_eq_true_eq, Nat.sub_pos_iff_lt]
  have he : s.slotEmpty r.slot = true ↔ s.tag r.slot = 0xFF := by
    simp only [State.slotEmpty, beq_iff_eq]
    exact Iff.rfl
  unfold State.deferResponse Outbox.respond
  by_cases ht : s.tag r.slot = 0xFF
  · rw [if_pos (he.mpr ht), if_pos ht]
  rw [if_neg (fun e => ht (he.mp e)), if_neg ht]
  by_cases hr : s.outbox.deferred = [] ∧ s.outbox.report.length < 24
  · rw [if_pos (hf.mpr hr), if_pos hr]
    simp only [State.queueResponse, State.outbox, State.setMissed_map, Outbox.send, ← State.outbox_missed, responseBytes,
      response_flags, fitBytes_four]
    rfl
  · rw [if_neg (fun e => hr (hf.mp e)), if_neg hr]
    have hw : displaces r s.port.deferred = false := by simp [displaces, h]
    simp only [State.waitResponse, hw, joinDeferred_other r h, State.outbox]
    rfl

/-! ### The rows of frames an event sends -/

/-- Responses of no LAMP-SET, oldest first (R40, R162). -/
theorem State.deferAll_outbox (rs : List Response) : ∀ s : State, (∀ r ∈ rs, r.code ≠ codeLampSet) →
    (s.deferAll rs).outbox = s.outbox.respondAll s rs := by
  induction rs with
  | nil => exact fun _ _ => rfl
  | cons r rs ih =>
    intro s h
    have := ih (s.deferResponse r) fun x hx => h x (List.mem_cons_of_mem r hx)
    simp only [State.deferAll, Outbox.respondAll, List.foldl_cons] at this ⊢
    rw [this, State.deferResponse_outbox s r (h r List.mem_cons_self)]
    exact Outbox.respondAll_settings (by simp) _ rs

/-- A notice offered to these slots. -/
theorem State.offerRow_outbox (kind : NoticeKind) (content : List Byte) (h : content.length ≤ 7) (ks : List Slot) :
    ∀ s : State, (ks.foldl (fun s k => s.offerNotice kind k content) s).outbox
      = ks.foldl (fun o k => o.offer s kind k content) s.outbox := by
  induction ks with
  | nil => exact fun _ => rfl
  | cons k ks ih =>
    intro s
    rw [List.foldl_cons, ih, List.foldl_cons, State.offerNotice_outbox s kind k content h]
    simp only [Outbox.offer_settings (s := s) (t := s.offerNotice kind k content) (by simp)]

/-- A notice to every slot. -/
theorem State.offerAll_outbox (s : State) (kind : NoticeKind) (content : List Byte) (h : content.length ≤ 7) :
    (s.offerAll kind content).outbox = s.outbox.offerAll s kind content :=
  State.offerRow_outbox kind content h allSlots s

/-- The TRIP notices of a line (R108). -/
theorem State.noticeTrip_outbox (s : State) (l : Line) :
    (s.noticeTrip l).outbox = s.outbox.tripNotice s l (s.lamps.get l) :=
  State.offerAll_outbox s .trip _ (by simp)

/-- The VERDICT notices of a line (R124). -/
theorem State.noticeVerdict_outbox (s : State) (l : Line) :
    (s.noticeVerdict l).outbox = s.outbox.verdictNotice s l (s.lamps.get l).verdict :=
  State.offerAll_outbox s .verdict _ (by simp [bytes16])

/-- The UNIT notices of a record (R53). -/
theorem State.noticeUnit_outbox (s : State) (p code : Nat) (identity : Word32) :
    (s.noticeUnit p code identity).outbox = s.outbox.unitNotice s p (byteOf code) identity := by
  have h : [byteOf p, byteOf code] ++ bytesOfWord32 identity = [byteOf p, byteOf code, identity.extractLsb' 24 8,
      identity.extractLsb' 16 8, identity.extractLsb' 8 8, identity.extractLsb' 0 8] := rfl
  rw [State.noticeUnit, h]
  exact State.offerAll_outbox s .unit _ (by simp)

/-- The CLAIM-END notices of the claims that end, in their order (R152, R153). -/
theorem State.endClaims_outbox (s : State) (ends : Claim → Bool) (reason : EndReason) :
    (s.endClaims ends reason).outbox = s.outbox.endClaims s (byteOf (endReasonCode reason)) (s.claims.filter ends) := by
  have row : ∀ (cs : List Claim) (t : State),
      (cs.foldl (fun t c => t.noticeClaimEnd c reason) t).outbox = t.outbox.endClaims t (byteOf (endReasonCode reason)) cs := by
    intro cs
    induction cs with
    | nil => exact fun _ => rfl
    | cons c cs ih =>
      intro t
      rw [List.foldl_cons, ih, Outbox.endClaims, Outbox.endClaims, List.foldl_cons]
      rw [State.noticeClaimEnd, State.offerNotice_outbox t _ _ _ (by simp)]
      exact Outbox.endClaims_settings (by simp) _ _ cs
  simp only [State.endClaims]
  rw [row]
  exact Outbox.endClaims_settings rfl _ _ _

/-! ### The walker's offers -/

@[simp] theorem Walker.offer_pointer (w : Walker) (x : Step) : (w.offer x).pointer = w.pointer := by
  unfold Walker.offer; split <;> rfl
@[simp] theorem Walker.offer_active (w : Walker) (x : Step) : (w.offer x).active = w.active := by
  unfold Walker.offer; split <;> rfl
@[simp] theorem Walker.offer_extSince (w : Walker) (x : Step) : (w.offer x).extSince = w.extSince := by
  unfold Walker.offer; split <;> rfl
@[simp] theorem Walker.offer_extDue (w : Walker) (x : Step) : (w.offer x).extDue = w.extDue := by
  unfold Walker.offer; split <;> rfl
@[simp] theorem Walker.offer_lampReports (w : Walker) (x : Step) : (w.offer x).lampReports = w.lampReports := by
  unfold Walker.offer; split <;> rfl
@[simp] theorem Walker.offer_lampFaultSeen (w : Walker) (x : Step) : (w.offer x).lampFaultSeen = w.lampFaultSeen := by
  unfold Walker.offer; split <;> rfl
@[simp] theorem Walker.offer_rearSeen (w : Walker) (x : Step) : (w.offer x).rearSeen = w.rearSeen := by
  unfold Walker.offer; split <;> rfl
@[simp] theorem Walker.offer_presenceList (w : Walker) (x : Step) : (w.offer x).presenceList = w.presenceList := by
  unfold Walker.offer; split <;> rfl

/-- With no step offered a step is offered at once. -/
theorem Walker.offer_of_none {w : Walker} (h : w.offered = none) (x : Step) : w.offer x = { w with offered := some x } := by
  simp [Walker.offer, h]

/-- Behind a LAMP-REPORT that is offered a step waits (R59). -/
theorem Walker.offer_of_report {w : Walker} {p : Nat} (h : w.offered = some (.lampReport p)) (x : Step) :
    w.offer x = { w with owed := some x } := by
  simp [Walker.offer, h]

/-- What the walker offers when it has no walk step to offer (R45, R54, R56): nothing while a step is offered or a LAMP-REPORT is
in flight; else the LAMP-REPORT to the lowest position of the set, and without one, in SERVING with the walk IDLE, the extension
probe that the mark asks for. -/
theorem State.offerNext_cases (s : State) :
    s.offerNext = s
    ∨ (s.walker.offered = none ∧ s.reportInFlight = false
        ∧ ((∃ p, lowestPosition s.walker.lampReports = some p ∧ s.offerNext = s.offer (.lampReport p))
          ∨ (lowestPosition s.walker.lampReports = none ∧ s.comb.state = .serving ∧ s.walker.extDue = true
            ∧ s.walker.active = false ∧ s.offerNext = s.offer .probe))) := by
  unfold State.offerNext
  split
  · exact .inl rfl
  · rename_i h
    simp only [Bool.or_eq_true, not_or, Bool.not_eq_true, Option.isSome_eq_false_iff, Option.isNone_iff_eq_none] at h
    split
    · cases hp : lowestPosition s.walker.lampReports with
      | some p => exact .inr ⟨h.1, h.2, .inl ⟨p, rfl, by simp [Walker.report, hp]⟩⟩
      | none =>
        simp only [Walker.report, hp, Option.map_none]
        split
        · rename_i hs
          exact .inr ⟨h.1, h.2, .inr ⟨trivial, hs.1, hs.2.1, hs.2.2, rfl⟩⟩
        · exact .inl rfl
    · exact .inl rfl

end Sys2Proof.Machine
end

