-- ==== Sys2Proof/WellFormed.lean ====
section
/-! DEFINITION. The commands whose operands lie within what the manual lets them be. exec answers for the others too; a
command outside these bounds stands for nothing that can reach the part. -/
namespace Sys2Proof

/-- A unit position is 1 to 6 (R63). -/
def positionOk (p : Nat) : Bool := decide (1 ≤ p) && decide (p ≤ Config.maxUnits)

/-- A function index is 0 to 31 (R66). -/
def indexOk (i : Nat) : Bool := decide (i ≤ 31)

/-- A frame's length code is 0 to 15, and a data frame carries as many bytes as it says, at most 8; a remote frame carries none
(R156, R175). -/
def BusFrame.ok (f : BusFrame) : Bool :=
  decide (f.lengthCode ≤ 15) && f.bytes.length == (if f.remote then 0 else Nat.min f.lengthCode 8)

/-- A current conversion reads 0 to 20 000 mA and a supply conversion 0 to 3600 (R113). -/
def Conversion.ok (c : Conversion) : Bool :=
  decide (c.current ≤ Config.senseCeiling) && decide (c.supply ≤ Config.supplyTop)

/-- The bytes that bring an answer to a length byte above 8: the last byte is that one, and at most the answer status is
before it (R23). -/
def lengthErrorOk (bytes : List Byte) : Bool :=
  decide (bytes.length ≤ 2) && (match bytes.getLast? with
    | some b => decide (8 < b.toNat)
    | none => false)

/-- The bytes that complete an answer: at least the check, at most a whole frame of status, length, 8 bytes and check (R21,
R23). -/
def answerBytesOk (bytes : List Byte) : Bool := decide (1 ≤ bytes.length) && decide (bytes.length ≤ 11)

/-- A LAMP-SET comes in a request frame: kind 01h (R156). -/
def requestKind (ident : Ident) : Bool := ident.extractLsb' 8 8 == 1#8

/-- The operands of a command are within their bounds. -/
def Instr.wellFormed : Instr → Bool
  | .busFrameWake f => f.ok
  | .requestFrame f => f.ok
  | .lengthByteError bytes => lengthErrorOk bytes
  | .answerFrameComplete bytes => answerBytesOk bytes
  | .pollDue p i => positionOk p && indexOk i
  | .stalenessThreshold p i => positionOk p && indexOk i
  | .holdTimeExpiry p i => positionOk p && indexOk i
  | .lampSet ident _ _ _ => requestKind ident
  | .measurementInstant _ c1 c2 c3 c4 => c1.ok && c2.ok && c3.ok && c4.ok
  | .powerOnReset | .lowSupplyReset | .lowSupplyRelease | .sampleInstant _ _ _ | .attachDebounceExpiry
  | .feedStartWaitExpiry | .parkDelayExpiry | .selfWake _ _ | .ignitionWake | .startWaitExpiry | .feedOffTimeExpiry
  | .combinationRead | .combinationReset | .callSent | .answerWindowExpiry | .byteGapTimeout | .discardedByte _
  | .resyncGapEnd | .countersDump | .countersDumpReset | .extensionTimerExpiry | .unitRead | .functionRead
  | .refreshWindowExpiry _ | .flashPhaseEnd | .switchFaultIndication _ | .restartDelayExpiry _ | .lineReset
  | .verdictRead | .senseSubscribe | .senseUnsubscribe | .senseRead | .actuate | .release | .forceRelease
  | .refusedFormat | .refusedUnknown | .unitParamRead | .unitParamWrite | .settingRead | .settingWrite
  | .settingFieldWrite | .setupClose | .setupDeadlineExpiry | .noticeRoute | .frameTransmitted | .busOffEntry
  | .busOffExit | .partStatusRead | .fullReset | .fullResetWaitEnd | .answerByteReceived _ => true

end Sys2Proof
end

