-- ==== Sys2Proof/Laws/PerInstr.lean ====
section
/-! SUPPORT. What a well-formed command's operands are bound by, one lemma for each constructor. -/
namespace Sys2Proof.Laws.OperandsWellFormed
open Sys2Proof

/-- The function a command names: a position and an index. -/
def names : Instr → Option (Nat × Nat)
  | .pollDue p i | .stalenessThreshold p i | .holdTimeExpiry p i => some (p, i)
  | _ => none

/-- The answer bytes a command brings. -/
def answers : Instr → Option (List Byte)
  | .lengthByteError bytes | .answerFrameComplete bytes => some bytes
  | _ => none

/-- The bus frame a command brings. -/
def brings : Instr → Option BusFrame
  | .busFrameWake f | .requestFrame f => some f
  | _ => none

/-- A well-formed command names a position of 1 to 6 and an index of 0 to 31 (R63, R66), brings 1 to 11 answer bytes (R21, R23),
and a frame of at most 8 data bytes (R156). -/
def Statement (c : Instr) : Prop :=
  c.wellFormed = true →
    (∀ p i, names c = some (p, i) → 1 ≤ p ∧ p ≤ 6 ∧ i ≤ 31)
    ∧ (∀ bytes, answers c = some bytes → 1 ≤ bytes.length ∧ bytes.length ≤ 11)
    ∧ (∀ f, brings c = some f → f.bytes.length ≤ 8)

/-- A command without such operands. -/
theorem of_none {c : Instr} (hn : names c = none) (ha : answers c = none) (hb : brings c = none) : Statement c :=
  fun _ => ⟨fun _ _ h => by simp [hn] at h, fun _ h => by simp [ha] at h, fun _ h => by simp [hb] at h⟩

/-- A position and an index within their bounds. -/
theorem positionAndIndex {p i : Nat} (h : (positionOk p && indexOk i) = true) : 1 ≤ p ∧ p ≤ 6 ∧ i ≤ 31 := by
  simp only [positionOk, indexOk, Bool.and_eq_true, decide_eq_true_eq] at h
  exact ⟨h.1.1, h.1.2, h.2⟩

/-- A frame within its bounds carries at most 8 data bytes. -/
theorem frameBytes {f : BusFrame} (h : f.ok = true) : f.bytes.length ≤ 8 := by
  simp only [BusFrame.ok, Bool.and_eq_true, beq_iff_eq] at h
  rw [h.2]
  split
  · exact Nat.zero_le 8
  · exact Nat.min_le_right _ _

theorem powerOnReset : Statement .powerOnReset := of_none rfl rfl rfl
theorem lowSupplyReset : Statement .lowSupplyReset := of_none rfl rfl rfl
theorem lowSupplyRelease : Statement .lowSupplyRelease := of_none rfl rfl rfl
theorem sampleInstant (plugClosed ignitionHigh : Bool) (loaded : Byte) : Statement (.sampleInstant plugClosed ignitionHigh loaded) := of_none rfl rfl rfl
theorem attachDebounceExpiry : Statement .attachDebounceExpiry := of_none rfl rfl rfl
theorem feedStartWaitExpiry : Statement .feedStartWaitExpiry := of_none rfl rfl rfl
theorem parkDelayExpiry : Statement .parkDelayExpiry := of_none rfl rfl rfl
theorem selfWake (plugClosed : Bool) (loaded : Byte) : Statement (.selfWake plugClosed loaded) := of_none rfl rfl rfl
theorem ignitionWake : Statement .ignitionWake := of_none rfl rfl rfl
theorem busFrameWake (frame : BusFrame) : Statement (.busFrameWake frame) :=
  fun h => ⟨fun _ _ e => (nomatch e), fun _ e => (nomatch e), fun f e => by cases e; exact frameBytes h⟩
theorem startWaitExpiry : Statement .startWaitExpiry := of_none rfl rfl rfl
theorem feedOffTimeExpiry : Statement .feedOffTimeExpiry := of_none rfl rfl rfl
theorem combinationRead : Statement .combinationRead := of_none rfl rfl rfl
theorem combinationReset : Statement .combinationReset := of_none rfl rfl rfl
theorem callSent : Statement .callSent := of_none rfl rfl rfl
theorem answerWindowExpiry : Statement .answerWindowExpiry := of_none rfl rfl rfl
theorem byteGapTimeout : Statement .byteGapTimeout := of_none rfl rfl rfl
theorem lengthByteError (bytes : List Byte) : Statement (.lengthByteError bytes) := fun h =>
  ⟨fun _ _ e => (nomatch e), fun _ e => by
    cases e
    simp only [Instr.wellFormed, lengthErrorOk, Bool.and_eq_true, decide_eq_true_eq] at h
    cases bytes with
    | nil => simp at h
    | cons b l => simp at h ⊢; omega, fun _ e => (nomatch e)⟩
theorem answerFrameComplete (bytes : List Byte) : Statement (.answerFrameComplete bytes) := fun h =>
  ⟨fun _ _ e => (nomatch e), fun _ e => by
    cases e
    simpa [Instr.wellFormed, answerBytesOk] using h, fun _ e => (nomatch e)⟩
theorem discardedByte (byte : Byte) : Statement (.discardedByte byte) := of_none rfl rfl rfl
theorem resyncGapEnd : Statement .resyncGapEnd := of_none rfl rfl rfl
theorem pollDue (position index : Nat) : Statement (.pollDue position index) :=
  fun h => ⟨fun p i e => by cases e; exact positionAndIndex h, fun _ e => (nomatch e), fun _ e => (nomatch e)⟩
theorem countersDump : Statement .countersDump := of_none rfl rfl rfl
theorem countersDumpReset : Statement .countersDumpReset := of_none rfl rfl rfl
theorem extensionTimerExpiry : Statement .extensionTimerExpiry := of_none rfl rfl rfl
theorem unitRead : Statement .unitRead := of_none rfl rfl rfl
theorem functionRead : Statement .functionRead := of_none rfl rfl rfl
theorem lampSet (ident : Ident) (sequence lines wanted : Byte) : Statement (.lampSet ident sequence lines wanted) := of_none rfl rfl rfl
theorem refreshWindowExpiry (slot : Slot) : Statement (.refreshWindowExpiry slot) := of_none rfl rfl rfl
theorem flashPhaseEnd : Statement .flashPhaseEnd := of_none rfl rfl rfl
theorem switchFaultIndication (line : Line) : Statement (.switchFaultIndication line) := of_none rfl rfl rfl
theorem restartDelayExpiry (line : Line) : Statement (.restartDelayExpiry line) := of_none rfl rfl rfl
theorem lineReset : Statement .lineReset := of_none rfl rfl rfl
theorem measurementInstant (line : Line) (c1 c2 c3 c4 : Conversion) : Statement (.measurementInstant line c1 c2 c3 c4) := of_none rfl rfl rfl
theorem verdictRead : Statement .verdictRead := of_none rfl rfl rfl
theorem stalenessThreshold (position index : Nat) : Statement (.stalenessThreshold position index) :=
  fun h => ⟨fun p i e => by cases e; exact positionAndIndex h, fun _ e => (nomatch e), fun _ e => (nomatch e)⟩
theorem senseSubscribe : Statement .senseSubscribe := of_none rfl rfl rfl
theorem senseUnsubscribe : Statement .senseUnsubscribe := of_none rfl rfl rfl
theorem senseRead : Statement .senseRead := of_none rfl rfl rfl
theorem actuate : Statement .actuate := of_none rfl rfl rfl
theorem holdTimeExpiry (position index : Nat) : Statement (.holdTimeExpiry position index) :=
  fun h => ⟨fun p i e => by cases e; exact positionAndIndex h, fun _ e => (nomatch e), fun _ e => (nomatch e)⟩
theorem release : Statement .release := of_none rfl rfl rfl
theorem forceRelease : Statement .forceRelease := of_none rfl rfl rfl
theorem requestFrame (frame : BusFrame) : Statement (.requestFrame frame) :=
  fun h => ⟨fun _ _ e => (nomatch e), fun _ e => (nomatch e), fun f e => by cases e; exact frameBytes h⟩
theorem refusedFormat : Statement .refusedFormat := of_none rfl rfl rfl
theorem refusedUnknown : Statement .refusedUnknown := of_none rfl rfl rfl
theorem unitParamRead : Statement .unitParamRead := of_none rfl rfl rfl
theorem unitParamWrite : Statement .unitParamWrite := of_none rfl rfl rfl
theorem settingRead : Statement .settingRead := of_none rfl rfl rfl
theorem settingWrite : Statement .settingWrite := of_none rfl rfl rfl
theorem settingFieldWrite : Statement .settingFieldWrite := of_none rfl rfl rfl
theorem setupClose : Statement .setupClose := of_none rfl rfl rfl
theorem setupDeadlineExpiry : Statement .setupDeadlineExpiry := of_none rfl rfl rfl
theorem noticeRoute : Statement .noticeRoute := of_none rfl rfl rfl
theorem frameTransmitted : Statement .frameTransmitted := of_none rfl rfl rfl
theorem busOffEntry : Statement .busOffEntry := of_none rfl rfl rfl
theorem busOffExit : Statement .busOffExit := of_none rfl rfl rfl
theorem partStatusRead : Statement .partStatusRead := of_none rfl rfl rfl
theorem fullReset : Statement .fullReset := of_none rfl rfl rfl
theorem fullResetWaitEnd : Statement .fullResetWaitEnd := of_none rfl rfl rfl
theorem answerByteReceived (byte : Byte) : Statement (.answerByteReceived byte) := of_none rfl rfl rfl

end Sys2Proof.Laws.OperandsWellFormed
end

