-- ==== Sys2Proof/Tests/Slice0.lean ====
section
/-! SUPPORT. Tests: ill-formed commands refused, the manual's worked figures, one step per command, and for each statement a
state and operands that meet its hypotheses. -/
namespace Sys2Proof.Tests
open Sys2Proof Sys2Proof.Machine

/-! ### Small states -/

/-- A sensor entry at its minimum, due at 900. -/
def sensor (i : Nat) (poll : PollClass) : FunctionEntry :=
  { newEntry i 0x0100 .sensor (-400) 600 (some poll) with
    value := some { value := -400, quality := .notYet, answeredAt := 0, nextDue := some 900 } }

/-- A SERVING unit of generation A: a sensor, a MOMENTARY and a LATCHED function; tail lamps declared. -/
def unitA : UnitRecord :=
  { newUnit 1 0x11 .a 0x0A01 with
    state := .serving, declared := 3
    loads := (PerLine.const ⟨0, 0, 0⟩).set .tailL ⟨1000, 0, 4⟩
    functions := [sensor 0 .fast, newEntry 1 0x0201 .momentary 0 1 none, newEntry 2 0x0202 .latched 0 1 none] }

/-- A SERVING unit of generation B: a sensor and a SETPOINT function; TAIL-L in its lamp fault set. -/
def unitB : UnitRecord :=
  { newUnit 2 0x22 .b 0x0B01 with
    state := .serving, declared := 2, lampFaults := 0x01
    functions := [sensor 0 .normal, newEntry 4 0x0304 .setpoint 0 6000 none] }

/-- SERVING with the two units, at 1000 ms; nothing on the line. -/
def serving : State :=
  { State.reset with
    now := 1000
    comb := { State.reset.comb with state := .serving, feed := true }
    sense := { State.reset.sense with plugClosed := true }
    walker := { Walker.idle with pointer := 3 }
    units := [unitA, unitB] }

/-- An intake entry of 8 bytes. -/
def req (k : Slot) (bytes : List Byte) : IntakeEntry := ⟨k, fitBytes 8 bytes⟩

/-- A state with one entry in its intake. -/
def asking (s : State) (e : IntakeEntry) : State := { s with port := { s.port with intake := [e] } }

/-- A claim of slot 2. -/
def claim (p i : Nat) (cls : FunctionClass) : Claim := newClaim p i .s2 cls

/-- A state with one claim; a claim holds the park delay. -/
def claimed (s : State) (c : Claim) : State :=
  { s with claims := [c], comb := { s.comb with parkSince := none } }

/-- A state with a transaction in flight. -/
def calling (s : State) (t : Transaction) : State := { s with line := { s.line with tx := some t } }

/-- A transaction of this work that awaits its answer since 990. -/
def awaiting (o : Originator) : Transaction := { o.transaction with phase := .awaiting 990 [] }

/-- A line that is ON and requested by slot 0. -/
def lit (s : State) (l : Line) : State :=
  { s with
    slots := s.slots.set .s0 { s.slots.get .s0 with requestSet := lineBit l, refreshExpired := false }
    lamps := s.lamps.set l { s.lamps.get l with on := true, runSince := some 0, timing := .settling 800 }
    comb := { s.comb with parkSince := none } }

/-- A line requested by slot 0 in this trip state after two attempts, with the restart delay from 900. -/
def tripped (s : State) (l : Line) (x : TripState) : State :=
  { s with
    slots := s.slots.set .s0 { s.slots.get .s0 with requestSet := lineBit l, refreshExpired := false }
    lamps := s.lamps.set l { s.lamps.get l with trip := x, attempts := 2, restartSince := some 900 }
    comb := { s.comb with parkSince := none } }

/-- SERVING with a request in the intake. -/
def with_ (k : Slot) (bytes : List Byte) : State := asking serving (req k bytes)

/-- A request in the intake of a state that can take it. -/
theorem taken (s : State) (k : Slot) (bytes : List Byte) (code : Byte) (frames : Nat)
    (h : s.comb.heldInReset = false ∧ s.comb.state ≠ .parked ∧ s.port.fullReset = none ∧ s.port.deferred = []
      ∧ s.port.report.length + frames ≤ 24 ∧ (req k bytes).code = code ∧ 8 ≤ (req k bytes).data.length) :
    Takes (asking s (req k bytes)) code (req k bytes) [] frames :=
  { running := h.1, awake := h.2.1, noWait := h.2.2.1, noDeferred := h.2.2.2.1, head := rfl, room := h.2.2.2.2.1
    whole := h.2.2.2.2.2.2, carries := h.2.2.2.2.2.1 }

/-- A statement about every line, line by line. -/
theorem everyLine {p : Line → Prop}
    (h : p .tailL ∧ p .tailR ∧ p .stop ∧ p .turnL ∧ p .turnR ∧ p .reverse ∧ p .fog ∧ p .marker) (l : Line) : p l := by
  obtain ⟨a, b, c, d, e, f, g, i⟩ := h
  cases l <;> assumption

/-! ### Ill-formed commands (WellFormed) -/

theorem test_pollDue_position_seven : (Instr.pollDue 7 0).wellFormed = false := by decide
theorem test_pollDue_position_zero : (Instr.pollDue 0 0).wellFormed = false := by decide
theorem test_staleness_index_32 : (Instr.stalenessThreshold 1 32).wellFormed = false := by decide
theorem test_holdTime_position_zero : (Instr.holdTimeExpiry 0 5).wellFormed = false := by decide
theorem test_frame_length_code_16 : (Instr.requestFrame ⟨true, false, 0, 16, []⟩).wellFormed = false := by decide
theorem test_remote_frame_with_data : (Instr.requestFrame ⟨true, true, 0, 1, [1]⟩).wellFormed = false := by decide
theorem test_wake_frame_short_of_its_length : (Instr.busFrameWake ⟨true, false, 0, 2, [1]⟩).wellFormed = false := by decide
theorem test_length_error_of_eight : (Instr.lengthByteError [0, 8]).wellFormed = false := by decide
theorem test_length_error_of_three_bytes : (Instr.lengthByteError [0, 9, 9]).wellFormed = false := by decide
theorem test_empty_answer : (Instr.answerFrameComplete []).wellFormed = false := by decide
theorem test_answer_of_twelve : (Instr.answerFrameComplete (List.replicate 12 0)).wellFormed = false := by decide
theorem test_lampSet_of_another_kind : (Instr.lampSet 0x1537250 0 0 0).wellFormed = false := by decide
theorem test_current_above_ceiling :
    (Instr.measurementInstant .stop ⟨20001, 0⟩ ⟨0, 0⟩ ⟨0, 0⟩ ⟨0, 0⟩).wellFormed = false := by decide
theorem test_supply_above_top :
    (Instr.measurementInstant .stop ⟨0, 0⟩ ⟨0, 3601⟩ ⟨0, 0⟩ ⟨0, 0⟩).wellFormed = false := by decide

/-! ### The manual's worked figures -/

/-- The state a command leaves. -/
def after (c : Instr) (s : State) : State :=
  match exec c s with
  | .next t => t
  | .fault _ | .refused _ => s

/-- R22: the bytes 01h, 00h give 15h. -/
theorem test_crc_probe_answer : crc8 [0x01, 0x00] = 0x15 := by decide +kernel
/-- R22: the bytes 31h to 39h give F4h. -/
theorem test_crc_nine : crc8 [0x31, 0x32, 0x33, 0x34, 0x35, 0x36, 0x37, 0x38, 0x39] = 0xF4 := by decide +kernel
/-- 11.3: a PROBE is 08h, 00h with the check A8h. -/
theorem test_probe_on_the_line :
    (after .callSent (calling serving probeCall)).line.tdataOut = [0x08, 0x00, 0xA8] := by decide +kernel

/-- 11.4, Decoding one exchange: unit 3 with SETPOINT function 4 up to 6000. -/
def exchange : State :=
  { serving with
    units := [{ unitB with position := 3 }]
    port := { serving.port with
      intake := [⟨.s2, [0x40, 0x0C, 0x03, 0x04, 0x05, 0x23, 0x28, 0x01]⟩] } }
/-- 11.4: the call has header 43h, length 04h and payload 04h 05h 17h 70h. -/
theorem test_actuate_call :
    ((after .callSent (after .actuate exchange)).line.tdataOut).take 6 = [0x43, 0x04, 0x04, 0x05, 0x17, 0x70] := by decide +kernel
/-- 11.4: the response has identifier 0A6D 0252h and bytes 40h 0Ch 00h 02h 00h 00h 00h 00h. -/
theorem test_actuate_response :
    (after (.answerFrameComplete [0x00, 0x00, 0x00]) (after .callSent (after .actuate exchange))).port.report
      = [⟨0x0A6D0252, [0x40, 0x0C, 0x00, 0x02, 0x00, 0x00, 0x00, 0x00]⟩] := by decide +kernel

/-- R133: with -400 to 600, a raw byte of 100 gives -7 GOOD and 255 keeps the value with SENSOR-FAULT. -/
theorem test_genA_poll : ∀ x ∈ [(100, (-7 : Int), Quality.good), (0, -400, .good), (254, 600, .good), (255, -400, .sensorFault)],
    ((after (.answerFrameComplete (answerBytes 0x00 [BitVec.ofNat 8 x.1]))
      (calling serving (awaiting (.poll 1 0)))).entryAt 1 0).bind (fun f => f.value.map fun v => (v.value, v.quality))
      = some (x.2.1, x.2.2) := by decide +kernel
/-- R134: with -400 to 600, 750 gives 600 CLAMPED, -32768 gives -400 CLAMPED, 600 gives 600 GOOD. -/
theorem test_genB_poll : ∀ x ∈ [(0x02, 0xEE, (600 : Int), Quality.clamped), (0x80, 0x00, -400, .clamped), (0x02, 0x58, 600, .good)],
    ((after (.answerFrameComplete (answerBytes 0x00 [BitVec.ofNat 8 x.1, BitVec.ofNat 8 x.2.1]))
      (calling serving (awaiting (.poll 2 0)))).entryAt 2 0).bind (fun f => f.value.map fun v => (v.value, v.quality))
      = some (x.2.2.1, x.2.2.2) := by decide +kernel

/-- 7.8: the two units of the worked case, STOP switched on at 0 and its verdict OK, VERDICT-CHANGES at 40. -/
def worked : State :=
  let s := lit serving .stop
  { s with
    now := 0
    units := [{ unitA with loads := (PerLine.const ⟨0, 0, 0⟩).set .stop ⟨1750, 0, 2⟩, declared := 0, functions := [] },
      { unitB with loads := (PerLine.const ⟨0, 0, 0⟩).set .stop ⟨0, 420, 2⟩, lampFaults := 0, functions := [] }]
    lamps := s.lamps.set .stop { s.lamps.get .stop with
      timing := .settling 0
      verdict := { (s.lamps.get .stop).verdict with verdict := .ok, candidate := some .ok, repeats := 2 } }
    counters := { s.counters with verdictChanges := 40 } }
/-- 7.8: the second LOW makes the verdict LOW with deficit 853 and estimate 1. -/
theorem test_lamp_out :
    let t := after (.measurementInstant .stop ⟨1504, 2661⟩ ⟨1506, 2659⟩ ⟨1503, 2660⟩ ⟨1507, 2662⟩) worked
    let u := after (.measurementInstant .stop ⟨1506, 2660⟩ ⟨1506, 2660⟩ ⟨1506, 2660⟩ ⟨1506, 2660⟩) t
    (t.now, (t.lamps.get .stop).verdict.verdict, (t.lamps.get .stop).verdict.repeats, t.counters.verdictChanges)
        = (120, .ok, 1, 40)
      ∧ (u.now, u.counters.verdictChanges) = (220, 41)
      ∧ (u.lamps.get .stop).verdict =
        { verdict := .low, held := false, lastE := 2359, lastM := 1506, lastU := 2660, lower := 1931, upper := 2787,
          difference := 853, estimate := 1, attributed := 0, candidate := some .low, repeats := 2, presence := .loaded } := by
  decide +kernel

/-- 6.8: a line measured at the ceiling with count 3 is LATCHED. -/
theorem test_fourth_trip_latches :
    let s := lit serving .fog
    let t := after (.measurementInstant .fog ⟨20000, 2400⟩ ⟨20000, 2400⟩ ⟨20000, 2400⟩ ⟨20000, 2400⟩)
      { s with lamps := s.lamps.set .fog { s.lamps.get .fog with attempts := 3 } }
    ((t.lamps.get .fog).trip, (t.lamps.get .fog).on, t.counters.trips) = (.latched, false, 1) := by decide +kernel

/-- R171: a waiting LAMP-SET response whose place a later one takes is not queued, and sets its slot's missed flag. -/
theorem test_displaced_response : ((after (.lampSet (identOf 0x0A6D 0x01 0x50) 2 0x04 1)
    { serving with port := { serving.port with
        report := List.replicate 24 ⟨0, []⟩, deferred := [⟨.s0, 0x10, 1, .done, false, [0x0D, 0]⟩] } }).missed .s0) = true := by
  decide +kernel
/-- R45, R59: a loss in SERVING with the walk IDLE sets the mark, and a LAMP-REPORT that waits goes ahead of its PROBE. -/
theorem test_loss_behind_reports : (fun s : State => (s.walker.offered, s.walker.extDue)) (after .answerWindowExpiry
    { calling serving { awaiting (.poll 2 0) with attempts := 4 } with
      walker := { serving.walker with lampReports := 0x01 } }) = (some (.lampReport 1), true) := by decide +kernel
/-- An idle step passes one millisecond (log entry 1). -/
theorem test_idle_step : step State.reset = .next { State.reset with now := 1 } := rfl

/-! ### For each statement, a state and operands that meet its hypotheses -/

/-- A statement about every slot, slot by slot. -/
theorem everySlot {p : Slot → Prop} (h : p .s0 ∧ p .s1 ∧ p .s2 ∧ p .s3) (k : Slot) : p k := by
  obtain ⟨a, b, c, d⟩ := h
  cases k <;> assumption

/-- The two timers of chapter 1 run exactly under their conditions. -/
theorem timers (t : State) (h : t.comb.attachSince.isSome = t.attachDiffers
    ∧ (t.comb.entryWaiting = true → t.attached = true ∧ t.comb.state = .detached)
    ∧ t.comb.parkSince.isSome = t.mayPark) : TimersFollow t := ⟨h.1, h.2.1, h.2.2⟩

/-- The part held in the low-supply reset. -/
def held : State := { State.reset with comb := { State.reset.comb with heldInReset := true } }
/-- SERVING in the FULL-RESET wait. -/
def resetting (ahead : Nat) : State := { serving with port := { serving.port with fullReset := some ⟨980, ahead⟩ } }
theorem witness_ResetsGivePowerOnValues :
    (held.comb.heldInReset = true ∧ Instr.sampleInstant true true 0 ≠ .powerOnReset
      ∧ Instr.sampleInstant true true 0 ≠ .lowSupplyReset ∧ Instr.sampleInstant true true 0 ≠ .lowSupplyRelease)
    ∧ ((resetting 0).comb.heldInReset = false ∧ (resetting 0).port.fullReset = some ⟨980, 0⟩)
    ∧ ((resetting 1).comb.heldInReset = false ∧ (resetting 1).port.fullReset = some ⟨980, 1⟩) := by decide +kernel

/-- Three samples are due to agree: the plug and the line TAIL-L differ for the third time, the line just 20 ms off. -/
def sampling : State :=
  { serving with
    sense := { serving.sense with plugClosed := false, plugCount := 2, nextSample := some 1000 }
    lamps := serving.lamps.set .tailL { serving.lamps.get .tailL with offSince := 980, agree := some ⟨.loaded, 2⟩ } }
theorem witness_SampleInstantDebounces :
    (sampling.comb.heldInReset = false ∧ sampling.sense.nextSample = some 1000)
    ∧ ((sampling.lamps.get .tailL).on = false ∧ sampling.settings.senseEnables.getLsbD (lineNumber .tailL) = true
      ∧ (sampling.lamps.get .tailL).offSince + 20 ≤ max sampling.now 1000)
    ∧ (State.reset.comb.heldInReset = false ∧ State.reset.sense.nextSample = some 0) := by decide +kernel

/-- DETACHED with the attach debounce running, the plug CLOSED or OPEN, the feed-off time running or not. -/
def attaching (plug : Bool) (feedOff : Option Nat) (waits : Bool) : State :=
  { State.reset with
    now := 1000
    comb := { State.reset.comb with attachSince := some 700, feedOffSince := feedOff, entryWaiting := waits }
    sense := { State.reset.sense with plugClosed := plug } }
theorem witness_AttachLeadsToSettlingAndBuilding :
    (∀ f ∈ [none, some 900], (attaching true f false).comb.heldInReset = false
      ∧ (attaching true f false).comb.state = .detached ∧ (attaching true f false).comb.attachSince = some 700
      ∧ (attaching true f false).attached = true ∧ (attaching true f false).comb.feedOffSince = f)
    ∧ (∀ x ∈ [(true, true), (true, false), (false, false)], (attaching x.1 (some 900) x.2).comb.heldInReset = false
      ∧ (attaching x.1 (some 900) x.2).comb.feedOffSince = some 900
      ∧ (attaching x.1 (some 900) x.2).comb.state = .detached
      ∧ (attaching x.1 (some 900) x.2).comb.entryWaiting = x.2 ∧ (attaching x.1 (some 900) x.2).attached = x.1) := by
  decide +kernel

/-- In a state with the plug OPEN and the attach debounce running. -/
def dropping (x : CombState) : State :=
  { serving with
    comb := { serving.comb with state := x, attachSince := some 700 }
    sense := { serving.sense with plugClosed := false } }
theorem witness_DetachDrop : ∀ x ∈ [CombState.settling, .building, .serving],
    (dropping x).comb.heldInReset = false
      ∧ ((dropping x).comb.state = .settling ∨ (dropping x).comb.state = .building ∨ (dropping x).comb.state = .serving)
      ∧ (dropping x).comb.attachSince = some 700 ∧ (dropping x).cache.length ≤ 4 := by decide +kernel

/-- SETTLING with the feed start wait running. -/
def settling : State :=
  { State.reset with
    now := 1000
    comb := { State.reset.comb with state := .settling, feed := true, feedStartSince := some 850, parkSince := none }
    sense := { State.reset.sense with plugClosed := true } }
theorem witness_AttachLeadsToSettlingAndBuilding_walk :
    settling.comb.heldInReset = false ∧ settling.comb.state = .settling ∧ settling.comb.feedStartSince = some 850
      ∧ settling.line.tx = none ∧ settling.line.gapSince = none ∧ settling.line.urgent = []
      ∧ settling.walker = WalkerAtRest := by decide +kernel

theorem witness_ParkDelayParks :
    serving.comb.heldInReset = false ∧ serving.comb.parkSince = some 0 ∧ serving.comb.state ≠ .parked
      ∧ serving.sense.ignitionHigh = false ∧ (∀ k, (serving.slots.get k).requestSet = 0) ∧ serving.claims = []
      ∧ serving.line.access = [] ∧ serving.accessInFlight = false ∧ serving.cache.length ≤ 4 :=
  ⟨rfl, rfl, by decide, rfl, everySlot (by decide), rfl, rfl, by decide, by decide⟩
/-- The same in each state, an ACTUATE in flight whose claim is gone, or a resync gap running. -/
theorem witness_ParkDelayParks_working : ∀ x ∈ [CombState.settling, .building, .serving],
    ∀ s ∈ [calling serving (awaiting (.urgent ⟨1, 2, .on, 0, false, some ⟨.s2, 0x0C⟩⟩)),
      { serving with line := { serving.line with gapSince := some 998 } }],
    ∀ t ∈ [{ s with comb := { s.comb with state := x } }],
    t.comb.heldInReset = false ∧ t.comb.parkSince = some 0 ∧ t.comb.state ≠ .parked ∧ t.sense.ignitionHigh = false
      ∧ (t.slots.get .s0).requestSet = 0 ∧ (t.slots.get .s1).requestSet = 0 ∧ (t.slots.get .s2).requestSet = 0
      ∧ (t.slots.get .s3).requestSet = 0 ∧ t.claims = [] ∧ t.line.access = [] ∧ t.accessInFlight = false
      ∧ t.cache.length ≤ 4 := by decide +kernel

/-- PARKED, the start wait running or not. -/
def parked (wait : Option Nat) : State :=
  { State.reset with
    now := 1000
    comb := { State.reset.comb with state := .parked, parkSince := none, startWaitSince := wait }
    sense := { State.reset.sense with nextSample := none, nextSelfWake := some 1100, parkedPlug := true } }
/-- A frame of the part's block. -/
def frame (kind tag : Byte) (bytes : List Byte) : BusFrame := ⟨true, false, identOf 0x0A6D kind tag, bytes.length, bytes⟩
theorem witness_WakesStartTheStartWait :
    (parked none).comb.heldInReset = false ∧ (parked none).comb.state = .parked ∧ (parked none).comb.startWaitSince = none
    ∧ ((parked none).port.busOff = false ∧ (frame 0x01 0x50 []).extended = true ∧ (frame 0x01 0x50 []).remote = false
      ∧ identBlock (frame 0x01 0x50 []).ident = (parked none).settings.identifierBlock.extractLsb' 0 13)
    ∧ (parked none).sense.nextSelfWake = some 1100 := by decide +kernel
/-- PARKED in the start wait, with this parked plug sample, the feed-off time running or not. -/
def waking (plug : Bool) (feedOff : Option Nat) : State :=
  let s := parked (some 980)
  { s with comb := { s.comb with feedOffSince := feedOff }, sense := { s.sense with parkedPlug := plug } }
theorem witness_StartWaitEnds : ∀ plug ∈ [true, false], ∀ f ∈ [none, some 900],
    (waking plug f).comb.heldInReset = false ∧ (waking plug f).comb.state = .parked
      ∧ (waking plug f).comb.startWaitSince = some 980 ∧ (waking plug f).comb.feedOffSince = f
      ∧ (after .startWaitExpiry (waking plug f)).attached = plug ∧ TimersFollow (waking plug f) := by
  intro plug hp f hf
  simp only [List.mem_cons, List.not_mem_nil, or_false] at hp hf
  obtain rfl | rfl := hp <;> obtain rfl | rfl := hf <;>
    exact ⟨rfl, rfl, rfl, rfl, by decide +kernel, timers _ (by decide +kernel)⟩

theorem witness_CombinationReadAnswers :
    Takes (with_ .s1 [0x21, 5]) 0x21 (req .s1 [0x21, 5]) [] 1 ∧ (parked none).comb.state = .parked :=
  ⟨taken _ _ _ _ _ (by decide +kernel), rfl⟩
theorem witness_CombinationResetDiscards :
    (Takes (with_ .s3 [0x7E, 5]) 0x7E (req .s3 [0x7E, 5]) [] 1 ∧ (with_ .s3 [0x7E, 5]).hasRight .s3 .resets = true)
    ∧ (Takes (with_ .s0 [0x7E, 5]) 0x7E (req .s0 [0x7E, 5]) [] 1 ∧ (with_ .s0 [0x7E, 5]).hasRight .s0 .resets = false) :=
  ⟨⟨taken _ _ _ _ _ (by decide +kernel), by decide +kernel⟩, taken _ _ _ _ _ (by decide +kernel), by decide +kernel⟩

/-! The trailer line -/

/-- A transaction of this work, called, with these answer bytes received and this many attempts made. -/
def received (o : Originator) (bytes : List Byte) (attempts : Nat) : Transaction :=
  { o.transaction with phase := .awaiting 990 bytes, attempts }
/-- A transaction in flight that awaits its answer. -/
theorem receiving (s : State) (o : Originator) (bytes : List Byte) (attempts : Nat) (h : s.comb.heldInReset = false) :
    Receives (calling s (received o bytes attempts)) (received o bytes attempts) 990 bytes := ⟨h, rfl, rfl⟩
/-- A SENSE call to the unit at position 2. -/
def polling (bytes : List Byte) (attempts : Nat) : State := calling serving (received (.poll 2 0) bytes attempts)
/-- A call in RESYNC. -/
def resyncing : State :=
  let s := calling serving { (Originator.poll 2 0).transaction with phase := .resync }
  { s with line := { s.line with gapSince := some 998 } }

theorem witness_CallSentAndBytesReceived :
    ((calling serving probeCall).comb.heldInReset = false ∧ (calling serving probeCall).line.tx = some probeCall
      ∧ probeCall.phase = .calling)
    ∧ (Receives (polling [0] 1) (received (.poll 2 0) [0] 1) 990 [0] ∧ TimersFollow (polling [0] 1)
      ∧ ([0].length = 1 → (8 : Byte).toNat ≤ 8)
      ∧ ∀ status len more, ([0] : List Byte) ++ [8] = status :: len :: more → more.length < len.toNat + 1)
    ∧ (Receives (polling [] 1) (received (.poll 2 0) [] 1) 990 [] ∧ TimersFollow (polling [] 1)
      ∧ (([] : List Byte).length = 1 → (0 : Byte).toNat ≤ 8)
      ∧ ∀ status len more, ([] : List Byte) ++ [0] = status :: len :: more → more.length < len.toNat + 1)
    ∧ (serving.comb.heldInReset = false ∧ TimersFollow serving ∧ serving.line.tx = none)
    ∧ (TimersFollow resyncing ∧ ∃ t, resyncing.line.tx = some t ∧ t.phase = .resync)
    ∧ TimersFollow (calling serving probeCall) :=
  ⟨by decide +kernel,
   ⟨receiving _ _ _ _ rfl, timers _ (by decide +kernel), by decide, fun _ _ _ h => by cases h; decide⟩,
   ⟨receiving _ _ _ _ rfl, timers _ (by decide +kernel), by decide, fun _ _ _ h => by cases h⟩,
   ⟨rfl, timers _ (by decide +kernel), rfl⟩, ⟨timers _ (by decide +kernel), _, rfl, rfl⟩, timers _ (by decide +kernel)⟩

/-- The bytes received so far and the command at which an attempt fails: no start bit, a byte gap, a length byte above 8, a wrong
check at the shortest and the longest answer. -/
def failures : List (List Byte × Instr) :=
  [([], .answerWindowExpiry), ([0], .byteGapTimeout), ([0, 8], .byteGapTimeout), ([0], .lengthByteError [9]),
   ([], .lengthByteError [0, 255]), ([0, 2], .answerFrameComplete [7, 7, 0]), ([], .answerFrameComplete [0, 0, 1]),
   ([0, 8, 0, 0, 0, 0, 0, 0, 0], .answerFrameComplete [0, 0])]
theorem fails (s : State) (o : Originator) (n : Nat) :
    ∀ x ∈ failures, ∃ now counters, AttemptFails s (received o x.1 n) x.2 now counters := by
  intro x h
  simp only [failures, List.mem_cons, List.not_mem_nil, or_false] at h
  obtain rfl | rfl | rfl | rfl | rfl | rfl | rfl | rfl := h
  · exact ⟨_, _, .noAnswer 990 rfl⟩
  · exact ⟨_, _, .byteGap 990 [0] rfl (by decide)⟩
  · exact ⟨_, _, .byteGap 990 [0, 8] rfl (by decide)⟩
  · exact ⟨_, _, .lengthByte 990 [0] [9] 0 9 rfl (by decide) rfl (by decide)⟩
  · exact ⟨_, _, .lengthByte 990 [] [0, 255] 0 255 rfl (by decide) rfl (by decide)⟩
  · exact ⟨_, _, .check 990 [0, 2] [7, 7, 0] [7, 7] 0 0 rfl (by decide) (by decide) rfl (by decide +kernel)⟩
  · exact ⟨_, _, .check 990 [] [0, 0, 1] [] 0 1 rfl (by decide) (by decide) rfl (by decide +kernel)⟩
  · exact ⟨_, _, .check 990 [0, 8, 0, 0, 0, 0, 0, 0, 0] [0, 0] [0, 0, 0, 0, 0, 0, 0, 0] 0 0 rfl (by decide) (by decide) rfl
      (by decide +kernel)⟩
theorem witness_FailedAttemptGoesToResync : ∀ x ∈ failures,
    (∃ now counters, AttemptFails (polling x.1 3) (received (.poll 2 0) x.1 3) x.2 now counters)
      ∧ (polling x.1 3).comb.heldInReset = false ∧ (polling x.1 3).line.tx = some (received (.poll 2 0) x.1 3)
      ∧ TimersFollow (polling x.1 3)
      ∧ (received (.poll 2 0) x.1 3).attempts < 1 + (polling x.1 3).settings.retryLimit.toNat :=
  fun x h => ⟨fails _ _ _ x h, rfl, rfl, ⟨rfl, fun h => absurd h (Bool.false_ne_true), rfl⟩,
    (by decide : 3 < 1 + (3 : Word32).toNat)⟩

/-- The last attempt of a LAMP-REPORT to this position, with these bytes received, a claim on the unit at position 1, the walk
ACTIVE or IDLE, a step offered and one that waits behind it, and LAMP-REPORTs that wait for positions 1 and 2. -/
def losing (x : CombState) (p : Nat) (bytes : List Byte) (active : Bool) (offered owed : Option Machine.Step) : State :=
  calling (claimed { serving with
      comb := { serving.comb with state := x }
      walker := { serving.walker with active, offered, owed, lampReports := 0x03 } } (claim 1 1 .momentary))
    (received (.bringUp (.lampReport p)) bytes 4)
/-- What is offered and what waits behind it: a step before and at the lost position, with and without an owed step. -/
def losingSteps : List (Option Machine.Step × Option Machine.Step) :=
  [(none, none), (some .probe, none), (some (.bridge 2), none), (some (.lampReport 1), some (.bridge 2)),
   (some (.lampReport 2), some .probe)]
theorem witness_LastFailureLosesUnits : ∀ p ∈ [1, 2, 6], ∀ x ∈ [(CombState.building, true), (.serving, true), (.serving, false)],
    ∀ y ∈ losingSteps, ∀ z ∈ failures,
    (∃ now counters, AttemptFails (losing x.1 p z.1 x.2 y.1 y.2) (received (.bringUp (.lampReport p)) z.1 4) z.2 now counters)
      ∧ (losing x.1 p z.1 x.2 y.1 y.2).comb.heldInReset = false
      ∧ (losing x.1 p z.1 x.2 y.1 y.2).line.tx = some (received (.bringUp (.lampReport p)) z.1 4)
      ∧ (losing x.1 p z.1 x.2 y.1 y.2).cache.length ≤ 4
      ∧ 1 ≤ (received (.bringUp (.lampReport p)) z.1 4).target
      ∧ (losing x.1 p z.1 x.2 y.1 y.2).settings.retryLimit.toNat < (received (.bringUp (.lampReport p)) z.1 4).attempts
      ∧ ((losing x.1 p z.1 x.2 y.1 y.2).comb.state = .building ∨ (losing x.1 p z.1 x.2 y.1 y.2).comb.state = .serving)
      ∧ ((losing x.1 p z.1 x.2 y.1 y.2).walker.owed ≠ none
          → ∃ q, (losing x.1 p z.1 x.2 y.1 y.2).walker.offered = some (.lampReport q)) := by
  intro p hp x hx y hy z hz
  refine ⟨fails _ _ _ z hz, rfl, rfl, (by decide : 0 ≤ 4), ?_, (by decide : (3 : Word32).toNat < 4), ?_, ?_⟩
  · exact (by decide : ∀ p ∈ [1, 2, 6], 1 ≤ p) p hp
  · simp only [List.mem_cons, List.not_mem_nil, or_false] at hx
    obtain rfl | rfl | rfl := hx
    exacts [.inl rfl, .inr rfl, .inr rfl]
  · simp only [losingSteps, List.mem_cons, List.not_mem_nil, or_false] at hy
    obtain rfl | rfl | rfl | rfl | rfl := hy
    exacts [fun h => absurd rfl h, fun h => absurd rfl h, fun h => absurd rfl h, fun _ => ⟨1, rfl⟩, fun _ => ⟨2, rfl⟩]
theorem witness_LastFailureLosesUnits_offered :
    (Machine.Step.probe.target < 2 ∧ (Machine.Step.lampReport 1).target < 2 ∧ 2 ≤ (Machine.Step.bridge 2).target
      ∧ 2 ≤ (Machine.Step.lampReport 2).target)
    ∧ LowestReport { Walker.idle with lampReports := 0x01 } 1 ∧ NoReport { Walker.idle with lampReports := 0x00 } :=
  ⟨by decide +kernel, ⟨by decide, by decide +kernel, fun q h => by
      have : q = 0 := by omega
      rw [this]
      decide +kernel⟩, fun _ _ => by simp [inPositionSet]⟩

/-- BUILDING with the walk ACTIVE. -/
def building : State :=
  { serving with comb := { serving.comb with state := .building }, walker := { serving.walker with active := true } }
theorem witness_ProbeOutcomesDecideWalk : ∀ s ∈ [building, serving], ∀ z ∈ failures,
    (∃ now counters, AttemptFails (calling s (received (.bringUp .probe) z.1 4)) (received (.bringUp .probe) z.1 4) z.2 now counters)
      ∧ (received (.bringUp .probe) z.1 4).originator = .bringUp .probe ∧ (received (.bringUp .probe) z.1 4).target = 0
      ∧ (received (.bringUp .probe) z.1 4).kind = .probe
      ∧ s.comb.heldInReset = false ∧ s.settings.retryLimit.toNat < (received (.bringUp .probe) z.1 4).attempts
      ∧ (s.comb.state = .serving ∨ (s.comb.state = .building ∧ s.units.any UnitRecord.unsettles = false)) := by
  intro s hs z hz
  simp only [List.mem_cons, List.not_mem_nil, or_false] at hs
  obtain rfl | rfl := hs <;> exact ⟨fails _ _ _ z hz, rfl, rfl, rfl, rfl, (by decide : (3 : Word32).toNat < 4), by decide +kernel⟩

/-- A PROBE that awaits its answer with the pointer here, and this offered beside it. -/
def probing (s : State) (pointer : Nat) (offered : Option Machine.Step) : State :=
  calling { s with walker := { s.walker with pointer, offered } } (received (.bringUp .probe) [] 1)
/-- A LAMP-REPORT, or nothing, stands offered. -/
theorem reportAtMost (w : Walker) : ∀ x ∈ [none, some (Machine.Step.lampReport 1)], w.offered = x → ReportAtMost w := by
  intro x h e
  simp only [List.mem_cons, List.not_mem_nil, or_false] at h
  obtain rfl | rfl := h
  exacts [.inl e, .inr ⟨1, e⟩]
/-- The answers: of no unit, too short, of an unknown generation, with a held and with a new identity. -/
theorem witness_ProbeOutcomesDecideWalk_answered :
    (∀ pointer ∈ [3, 6, 7], ∀ s ∈ [building, serving], ∀ x ∈ [none, some (Machine.Step.lampReport 1)],
      Receives (probing s pointer x) (received (.bringUp .probe) [] 1) 990 [] ∧ (probing s pointer x).unitAt 0 = none
      ∧ ((probing s pointer x).comb.state = .serving
        ∨ ((probing s pointer x).comb.state = .building ∧ (probing s pointer x).units.any UnitRecord.unsettles = false))
      ∧ (∃ v ∈ (probing s pointer x).units, v.identity = (((0 : Byte) ++ (0 : Byte)) ++ (0 : Byte)) ++ (0x22 : Byte))
      ∧ (∀ v ∈ (probing s pointer x).units, v.identity ≠ (((0 : Byte) ++ (0 : Byte)) ++ (0 : Byte)) ++ (0x23 : Byte))
      ∧ (probing s pointer x).walker.pointer = pointer ∧ (probing s pointer x).line.gapSince = none
      ∧ (probing s pointer x).line.urgent = [] ∧ ReportAtMost (probing s pointer x).walker)
    ∧ (answerResult 0x01 ≠ .accept ∧ answerResult 0x00 = .accept ∧ ([] : List Byte).length ≠ 7
      ∧ ([0, 0, 0, 0x23, 3, 0x0B, 0x01] : List Byte).length = 7 ∧ byteAt [0, 0, 0, 0x23, 3, 0x0B, 0x01] 4 = 3)
    ∧ ((2 : Byte) = byteOf (generationCode .b) ∧ (1 : Byte) = byteOf (generationCode .a)) := by
  refine ⟨?_, by decide +kernel⟩
  intro pointer hp s hs x hx
  have beside := reportAtMost (probing s pointer x).walker x hx rfl
  simp only [List.mem_cons, List.not_mem_nil, or_false] at hp hs
  obtain rfl | rfl | rfl := hp <;> obtain rfl | rfl := hs <;>
    exact ⟨receiving _ _ _ _ rfl, rfl, by simp [probing, calling, building, serving] <;> decide +kernel, by
      simp only [probing, calling, building, serving]; decide +kernel, by
      simp only [probing, calling, building, serving]; decide +kernel, rfl, rfl, rfl, beside⟩

/-- SERVING at the end of the resync gap with this work waiting. -/
def gapped (urgent : List UrgentEntry) (offered : Option Machine.Step) (access : List AccessEntry) : State :=
  { serving with
    line := { serving.line with gapSince := some 998, urgent, access }
    walker := { serving.walker with offered } }
/-- BUILDING with the walk ACTIVE at the end of the resync gap, a step offered, one behind it, and positions 1 and 2 to report. -/
def gappedBehind (offered : Machine.Step) (owed : Option Machine.Step) : State :=
  { building with
    line := { building.line with gapSince := some 998 }
    walker := { building.walker with offered := some offered, owed, lampReports := 0x03 } }
/-- A RUN of slot 2 on the MOMENTARY function of the unit at position 1. -/
def run : UrgentEntry := ⟨1, 1, .run, 0, false, some ⟨.s2, 0x0C⟩⟩
/-- A PARAM-GET of slot 3 to the unit at position 2. -/
def get : AccessEntry := ⟨.s3, 0x33, 2, 0x07, .get⟩
/-- Which polls of the small states are available. -/
theorem availableOnly (s : State) (hu : s.units = serving.units) (p i d : Nat) (h : Available s p i d) :
    (p = 1 ∨ p = 2) ∧ i = 0 ∧ d = 900 := by
  obtain ⟨u, hm, -, rfl, -, f, hf, rfl, v, hv, hd⟩ := h
  rw [hu] at hm
  simp only [serving, List.mem_cons, List.not_mem_nil, or_false] at hm
  obtain rfl | rfl := hm
  · simp only [unitA, List.mem_cons, List.not_mem_nil, or_false] at hf
    obtain rfl | rfl | rfl := hf
    · cases hv; exact ⟨.inl rfl, rfl, (Option.some.inj hd).symm⟩
    · cases hv
    · cases hv
  · simp only [unitB, List.mem_cons, List.not_mem_nil, or_false] at hf
    obtain rfl | rfl := hf
    · cases hv; exact ⟨.inr rfl, rfl, (Option.some.inj hd).symm⟩
    · cases hv
/-- The poll of position 1 goes first in the small states. -/
theorem firstPoll (s : State) (hu : s.units = serving.units) (hn : 900 ≤ s.now) : GoesFirst s 1 0 900 := by
  refine ⟨⟨unitA, by rw [hu]; exact List.mem_cons_self, rfl, rfl, hn, sensor 0 .fast, List.mem_cons_self, rfl, _, rfl, rfl⟩, ?_⟩
  intro q j d h
  obtain ⟨hq, rfl, rfl⟩ := availableOnly s hu q j d h
  exact .inr ⟨rfl, by omega⟩
theorem witness_ResyncGapEndStartsNextWork :
    (resyncing.comb.heldInReset = false ∧ resyncing.line.gapSince = some 998 ∧ ∃ t, resyncing.line.tx = some t)
    ∧ (∀ s ∈ [gapped [run] none [], gapped [] (some .probe) [], gapped [] none [get], gapped [] none [],
        { gapped [] none [] with units := [] }],
      s.comb.heldInReset = false ∧ s.line.gapSince = some 998 ∧ s.line.tx = none
      ∧ (s.comb.state = .building ∨ s.comb.state = .serving))
    ∧ ((gapped [run] none []).line.urgent = [run]
      ∧ (claimed (gapped [run] none []) (claim 1 1 .momentary)).claimOn 1 1 = some (claim 1 1 .momentary))
    ∧ ((gapped [] (some .probe) []).line.urgent = [] ∧ (gapped [] (some .probe) []).walker.offered = some .probe)
    ∧ ((∀ s ∈ [(gappedBehind (.lampReport 1) (some (.bridge 2))), (gappedBehind .probe none)],
        s.comb.heldInReset = false ∧ s.line.gapSince = some 998 ∧ s.line.tx = none ∧ s.line.urgent = []
        ∧ s.comb.state = .building ∧ s.walker.active = true ∧ inPositionSet s.walker.lampReports 1 = true)
      ∧ (gappedBehind (.lampReport 1) (some (.bridge 2))).walker.offered = some (.lampReport 1)
      ∧ (gappedBehind (.lampReport 1) (some (.bridge 2))).walker.owed = some (.bridge 2)
      ∧ (gappedBehind .probe none).walker.offered = some .probe)
    ∧ (NothingOffered (gapped [] none [get]) ∧ (gapped [] none [get]).line.access = [get])
    ∧ (NothingOffered (gapped [] none []) ∧ (gapped [] none []).line.access = []
      ∧ GoesFirst { gapped [] none [] with now := 1001 } 1 0 900)
    ∧ (∀ p i d, ¬ Available { gapped [] none [] with units := [], now := 1001 } p i d) :=
  ⟨⟨rfl, rfl, _, rfl⟩, by decide +kernel, by decide +kernel, by decide +kernel, by decide +kernel, ⟨⟨rfl, rfl, rfl, rfl⟩, rfl⟩,
   ⟨⟨rfl, rfl, rfl, rfl⟩, rfl, firstPoll _ rfl (by decide)⟩, by
     rintro p i d ⟨u, hm, -⟩
     cases hm⟩

theorem witness_PollsAndExtensionProbesStart :
    ∃ f v, serving.comb.heldInReset = false ∧ LineReady serving ∧ NothingOffered serving ∧ serving.line.urgent = []
      ∧ serving.line.access = [] ∧ serving.servingAt 2 = true ∧ serving.entryAt 2 0 = some f ∧ f.value = some v
      ∧ v.nextDue = some 900 :=
  ⟨_, _, rfl, ⟨rfl, rfl, .inr rfl⟩, ⟨rfl, rfl, rfl, rfl⟩, rfl, rfl, by decide +kernel, rfl, rfl, rfl⟩

/-- SERVING with the extension timer running, a step offered or none, positions of the lamp-report set, and urgent work. -/
def extending (offered : Option Machine.Step) (reports : Byte) (urgent : List UrgentEntry) : State :=
  { serving with
    line := { serving.line with urgent }
    walker := { serving.walker with extSince := some 100, offered, lampReports := reports } }
theorem witness_PollsAndExtensionProbesStart_probe :
    (∀ x ∈ [(none, (0 : Byte), []), (some (.lampReport 1), 0x02, []), (none, 0x02, []), (none, 0, [run])],
      (extending x.1 x.2.1 x.2.2).comb.heldInReset = false ∧ (extending x.1 x.2.1 x.2.2).walker.extSince = some 100
      ∧ (extending x.1 x.2.1 x.2.2).comb.state = .serving ∧ (extending x.1 x.2.1 x.2.2).walker.active = false
      ∧ (extending x.1 x.2.1 x.2.2).walker.offered = x.1 ∧ (extending x.1 x.2.1 x.2.2).line.urgent = x.2.2)
    ∧ (∀ offered reports urgent, LineReady (extending offered reports urgent))
    ∧ NothingOffered (extending none 0 []) ∧ LowestReport (extending none 0x02 []).walker 2
    ∧ (claimed (extending none 0 [run]) (claim 1 1 .momentary)).claimOn run.position run.index
        = some (claim 1 1 .momentary) :=
  ⟨by decide +kernel, fun _ _ _ => ⟨rfl, rfl, .inr rfl⟩, ⟨rfl, rfl, rfl, rfl⟩,
   ⟨by decide, by decide +kernel, by decide +kernel⟩, by decide +kernel⟩
/-- The same with the line busy: each kind of work in flight, and the resync gap. -/
theorem witness_PollsAndExtensionProbesStart_busy :
    (∀ o ∈ [Originator.urgent run, .access get, .poll 1 0, .bringUp (.lampReport 1)],
      ∃ t, (calling (extending none 0x02 []) t).line.tx = some t ∧ t.originator = o
        ∧ (calling (extending none 0x02 []) t).comb.state = .serving
        ∧ (calling (extending none 0x02 []) t).walker.active = false
        ∧ (calling (extending none 0x02 []) t).walker.extSince = some 100)
    ∧ ({ extending none 0 [] with line := { serving.line with gapSince := some 998 } } : State).line.gapSince ≠ none
    ∧ (extending none 0 []).line.tx = none :=
  ⟨fun o _ => ⟨awaiting o, rfl, rfl, rfl, rfl, rfl⟩, by decide, rfl⟩

/-! The walk and the answers -/

/-- BUILDING with one unit, the pointer at 2, and this cache. -/
def placing (cache : List CacheRecord) : State :=
  { building with units := [unitA], cache, walker := { building.walker with pointer := 2 } }
/-- The PLACE of the node that `unitB` stands for. -/
def placeB : Transaction := received (.bringUp (.place 2 0x22 .b 0x0B01)) [] 1
theorem witness_PlaceOutcomesDecideRecord :
    (∀ cache ∈ [[], [unitB.toCache], [{ unitB.toCache with signature := 0x0B02 }]],
      Receives (calling (placing cache) placeB) placeB 990 []
      ∧ placeB.originator = .bringUp (.place 2 0x22 .b 0x0B01) ∧ placeB.kind = .place ∧ placeB.target = 0
      ∧ (calling (placing cache) placeB).line.gapSince = none ∧ (calling (placing cache) placeB).line.urgent = []
      ∧ (calling (placing cache) placeB).walker.active = true ∧ (calling (placing cache) placeB).walker.offered = none
      ∧ ReportAtMost (calling (placing cache) placeB).walker
      ∧ (calling (placing cache) placeB).comb.state = .building ∧ 2 ≤ (calling (placing cache) placeB).walker.pointer
      ∧ (calling (placing cache) placeB).unitAt 2 = none ∧ (calling (placing cache) placeB).unitAt 0 = none
      ∧ answerResult 0x00 = .accept)
    ∧ (∃ r, (placing [unitB.toCache]).cache.find? (fun r => r.identity == 0x22) = some r ∧ r.signature = 0x0B01
        ∧ r.generation = .b)
    ∧ (∀ r, (placing [{ unitB.toCache with signature := 0x0B02 }]).cache.find? (fun r => r.identity == 0x22) = some r →
        ¬ (r.signature = 0x0B01 ∧ r.generation = .b)) :=
  ⟨by
    intro cache h
    simp only [List.mem_cons, List.not_mem_nil, or_false] at h
    obtain rfl | rfl | rfl := h <;>
      exact ⟨receiving _ _ _ _ rfl, rfl, rfl, rfl, rfl, rfl, rfl, rfl, .inl rfl, rfl, by decide, by decide +kernel⟩,
   ⟨_, rfl, rfl, rfl⟩, fun r h => by
    cases h
    decide +kernel⟩

/-- The PLACE declined, accepted with a payload, accepted above the pointer after a loss, and failed for good in each way. -/
theorem witness_PlaceOutcomesDecideRecord_ends :
    (∀ pointer ∈ [1, 2], ∀ x ∈ [CombState.building, .serving], ∀ z ∈ failures,
      ∀ t ∈ [received (.bringUp (.place 2 0x22 .b 0x0B01)) z.1 4],
      ∀ s ∈ [calling { placing [] with comb := { serving.comb with state := x }, walker := { building.walker with pointer } } t],
      (∃ now counters, AttemptFails s t z.2 now counters) ∧ s.comb.heldInReset = false ∧ s.line.tx = some t ∧ s.unitAt 0 = none
      ∧ t.originator = .bringUp (.place 2 0x22 .b 0x0B01) ∧ t.kind = .place ∧ t.target = 0
      ∧ s.units.any UnitRecord.unsettles = false ∧ s.comb.state = x ∧ s.walker.pointer = pointer
      ∧ s.settings.retryLimit.toNat < t.attempts)
    ∧ placeB.phase = .awaiting 990 [] ∧ ¬ (answerResult 0x01 = .accept ∧ ([] : List Byte) = [])
    ∧ ¬ (answerResult 0x00 = .accept ∧ ([0] : List Byte) = []) := by
  refine ⟨?_, by decide +kernel⟩
  intro pointer _ x _ z hz t ht s hs
  simp only [List.mem_cons, List.not_mem_nil, or_false] at ht hs
  subst ht hs
  exact ⟨fails _ _ _ z hz, rfl, rfl, rfl, rfl, rfl, rfl, rfl, rfl, rfl, (by decide : (3 : Word32).toNat < 4)⟩

/-- BUILDING with this unit at position 2 in its listing, the answer to a listing call awaited, the presence list held. -/
def listing (v : UnitRecord) (step : Machine.Step) (cache : List CacheRecord) (list : Word32) : State :=
  let s := placing cache
  calling { s with units := [unitA, v], walker := { s.walker with presenceList := list } } (received (.bringUp step) [] 1)
/-- The unit in its listing, before its first function. -/
def listed (g : Generation) : UnitRecord := { newUnit 2 0x22 g 0x0B01 with state := .listing }
theorem listsOf (v : UnitRecord) (step : Machine.Step) (cache : List CacheRecord) (list : Word32)
    (hp : v.position = 2) (ht : step.target = 2) (hv : v.state = .listing) :
    Lists (listing v step cache list) (received (.bringUp step) [] 1) 990 step v :=
  { receives := receiving _ _ _ _ rfl, call := rfl, gap := rfl, urgent := rfl, active := rfl, offered := .inl rfl, walking := .inl rfl
    unit := by
      show List.find? (fun u => u.position == step.target) [unitA, v] = some v
      rw [ht]
      simp [List.find?, hp, show unitA.position = 1 from rfl]
    listing := hv }
/-- The same with a LAMP-REPORT offered beside the listing call. -/
theorem listsBeside {s : State} {t : Transaction} {since : Nat} {step : Machine.Step} {v : UnitRecord}
    (h : Lists s t since step v) (p : Nat) :
    Lists { s with walker := { s.walker with offered := some (.lampReport p) } } t since step v :=
  { receives := ⟨h.receives.running, h.receives.inFlight, h.receives.waiting⟩, call := h.call, gap := h.gap, urgent := h.urgent
    active := h.active, offered := .inr ⟨p, rfl⟩, walking := h.walking, unit := h.unit, listing := h.listing }
theorem witness_ListOpenAndLoadReadAnswered :
    (∀ g, ∀ step ∈ [Machine.Step.listOpen 2, .loadRead 2 .tailL, .loadRead 2 .marker],
      Lists (listing (listed g) step [] 0x11) (received (.bringUp step) [] 1) 990 step (listed g))
    ∧ ((listed .a).generation = .a ∧ (listed .b).generation = .b ∧ answerResult 0x00 = .accept ∧ answerResult 0x03 ≠ .accept)
    ∧ ((0x11 : Word32) = (((0 : Byte) ++ (0 : Byte)) ++ (0 : Byte)) ++ (0x11 : Byte))
    ∧ (⟨4000, 2000, 15⟩ : Load) = ⟨((0x0F : Byte) ++ (0xA0 : Byte)).toNat, ((0x07 : Byte) ++ (0xD0 : Byte)).toNat, (15 : Byte).toNat⟩
    ∧ lineNumber .tailR = lineNumber .tailL + 1 ∧ NextPresent 0x11 0 (some 0) ∧ NextPresent 0 0 none := by
  refine ⟨?_, by decide +kernel, by decide +kernel, by decide +kernel, by decide, ⟨by decide +kernel, by decide +kernel, by decide +kernel,
    fun h _ a => absurd a (Nat.not_lt_zero h)⟩, fun h _ _ => by simp⟩
  intro g step h
  simp only [List.mem_cons, List.not_mem_nil, or_false] at h
  obtain rfl | rfl | rfl := h <;> exact listsOf _ _ _ _ rfl rfl rfl

/-- R56: in BUILDING a LAMP-REPORT is offered beside the listing call, goes ahead of the step the answer gives, and that step is
called when the report is answered. -/
theorem test_lamp_report_in_building :
    let look := fun s : State => (s.line.tx.map Transaction.originator, s.walker.offered, s.walker.owed, s.walker.lampReports)
    let s := listing (listed .b) (.listOpen 2) [] 0
    let t := after (.answerFrameComplete (answerBytes 0x00 [0, 0, 0, 1]))
      { s with walker := { s.walker with offered := some (.lampReport 1), lampReports := 0x01 } }
    let u := after (.answerFrameComplete (answerBytes 0x00 [0x04])) { t with line := { t.line with
      tx := t.line.tx.map fun x => { x with phase := .awaiting 1000 [] } } }
    look t = (some (.bringUp (.lampReport 1)), some (.loadRead 2 .tailL), none, 0x00)
      ∧ look u = (some (.bringUp (.loadRead 2 .tailL)), none, none, 0x00)
      ∧ u.units.map UnitRecord.lampFaults = [0x04, 0x00] := by decide +kernel

/-- A unit in its listing with this many functions: with 128 the pool has no room. -/
def manyListed (n : Nat) : UnitRecord :=
  { listed .b with functions := (List.range n).map fun i => newEntry i 0x0201 .momentary 0 1 none }
theorem witness_ListEntryAnswered :
    (∀ n cache, Lists (listing (manyListed n) (.listEntry 2 9) cache 0x600) (received (.bringUp (.listEntry 2 9)) [] 1) 990
      (.listEntry 2 9) (manyListed n))
    ∧ (answerResult 0x00 = .accept ∧ answerResult 0x01 = .decline ∧ answerResult 0x03 ≠ .accept ∧ answerResult 0x03 ≠ .decline)
    ∧ (((0x17 : Byte) ++ (0x70 : Byte)).toInt = 6000 ∧ ((0xFE : Byte) ++ (0x70 : Byte)).toInt = -400)
    ∧ (NextPresent 0x600 10 (some 10) ∧ NextPresent 0x200 10 none)
    ∧ (MakesRoom (listing (manyListed 3) (.listEntry 2 9) [] 0x600) 0
      ∧ (listing (manyListed 3) (.listEntry 2 9) [] 0x600).usedWith 0 < 128)
    ∧ (MakesRoom (listing (manyListed 123) (.listEntry 2 9) [unitB.toCache] 0x600) 0
      ∧ (listing (manyListed 123) (.listEntry 2 9) [unitB.toCache] 0x600).usedWith 0 < 128
      ∧ 128 ≤ (listing (manyListed 123) (.listEntry 2 9) [unitB.toCache] 0x600).usedWith 1)
    ∧ (MakesRoom (listing (manyListed 125) (.listEntry 2 9) [] 0x600) 0
      ∧ 128 ≤ (listing (manyListed 125) (.listEntry 2 9) [] 0x600).usedWith 0) := by
  refine ⟨fun _ _ => listsOf _ _ _ _ rfl rfl rfl, by decide +kernel, by decide +kernel,
    ⟨⟨by decide +kernel, by decide +kernel, by decide +kernel, fun h a b => absurd a (Nat.not_le_of_lt b)⟩, ?_⟩,
    ⟨⟨by decide +kernel, ?_, by decide +kernel⟩, by decide +kernel⟩,
    ⟨⟨by decide +kernel, ?_, by decide +kernel⟩, by decide +kernel, by decide +kernel⟩,
    ⟨⟨by decide +kernel, ?_, by decide +kernel⟩, by decide +kernel⟩⟩
  · exact fun h a b => (by decide +kernel : ∀ h, h < 32 → 10 ≤ h → (0x200 : Word32).getLsbD h = false) h b a
  · exact fun j a b => absurd (Nat.lt_of_lt_of_le a b) (by decide +kernel)
  · intro j a b
    have : j = 1 := Nat.le_antisymm b a
    rw [this]
    decide +kernel
  · exact fun j a b => absurd (Nat.lt_of_lt_of_le a b) (by decide +kernel)

/-- BUILDING with the unit at position 2 in this state and its BRIDGE awaited, this offered beside it. -/
def bridging (x : UnitState) (offered : Option Machine.Step) : State :=
  calling { placing [] with
    units := [unitA, { unitB with state := x }]
    walker := { (placing []).walker with offered } } (received (.bringUp (.bridge 2)) [] 1)
theorem witness_BridgeAnsweredServes : ∀ x ∈ [UnitState.bridging, .refused], ∀ y ∈ [none, some (Machine.Step.lampReport 1)],
    ∃ t v, Receives (bridging x y) t 990 [] ∧ t.originator = .bringUp (.bridge 2)
      ∧ t.kind = .bridge ∧ t.target = 2 ∧ (bridging x y).line.gapSince = none ∧ (bridging x y).line.urgent = []
      ∧ (bridging x y).walker.active = true ∧ ReportAtMost (bridging x y).walker ∧ (bridging x y).comb.state = .building
      ∧ (bridging x y).unitAt 2 = some v ∧ v.state = x ∧ (List.replicate 8 (0 : Byte)).length ≤ 8 :=
  fun _ _ y h => ⟨_, _, receiving _ _ _ _ rfl, rfl, rfl, rfl, rfl, rfl, rfl, reportAtMost _ y h rfl, rfl, rfl, rfl, by decide⟩

/-- The work whose flags are handed on, and the end of a resync gap with LAMP-REPORTs waiting and the mark set. -/
def reporting : State :=
  let s := gapped [] none []
  { s with walker := { s.walker with lampReports := 0x03, extDue := true } }
theorem witness_LampReportsFollowFlags :
    (∀ o ∈ [Originator.bringUp (.lampReport 2), .poll 2 0, .access get, .poll 1 0],
      ∃ v, Receives (calling serving (received o [] 1)) (received o [] 1) 990 [] ∧ 1 ≤ (received o [] 1).target
      ∧ (received o [] 1).target ≤ 6 ∧ (calling serving (received o [] 1)).unitAt (received o [] 1).target = some v
      ∧ ∀ step, (received o [] 1).originator = .bringUp step →
          step = .lampReport (received o [] 1).target ∧ (received o [] 1).kind = .lampReport)
    ∧ (reporting.comb.heldInReset = false ∧ reporting.line.gapSince = some 998 ∧ reporting.line.tx = none
      ∧ reporting.comb.state = .serving ∧ reporting.walker.active = false ∧ reporting.walker.offered = none
      ∧ reporting.line.urgent = [] ∧ LowestReport reporting.walker 1)
    ∧ (∀ s ∈ [gappedBehind (.lampReport 1) (some (.bridge 2)), gappedBehind .probe none],
        s.comb.heldInReset = false ∧ s.line.gapSince = some 998 ∧ s.line.tx = none ∧ s.comb.state = .building
        ∧ s.walker.active = true ∧ s.line.urgent = [])
    ∧ ((gappedBehind (.lampReport 1) (some (.bridge 2))).walker.offered = some (.lampReport 1)
      ∧ (gappedBehind (.lampReport 1) (some (.bridge 2))).walker.owed = some (.bridge 2)
      ∧ (gappedBehind .probe none).walker.offered = some .probe ∧ LowestReport (gappedBehind .probe none).walker 1) := by
  have lowest : ∀ w : Walker, w.lampReports = 0x03 → LowestReport w 1 := fun w h =>
    ⟨by decide, by rw [h]; decide +kernel, fun q hq => by
      have : q = 0 := by omega
      rw [this, h]
      decide +kernel⟩
  refine ⟨?_, ⟨rfl, rfl, rfl, rfl, rfl, rfl, rfl, lowest _ rfl⟩, by decide +kernel, rfl, rfl, rfl, lowest _ rfl⟩
  intro o h
  simp only [List.mem_cons, List.not_mem_nil, or_false] at h
  obtain rfl | rfl | rfl | rfl := h <;>
    exact ⟨_, receiving _ _ _ _ rfl, by decide +kernel, by decide +kernel, rfl, fun _ e => by cases e <;> exact ⟨rfl, rfl⟩⟩

/-- The answer to a unit access is awaited, the Report Queue one frame short of full. -/
def accessing (kind : AccessKind) : State :=
  let s := calling serving (received (.access { get with kind }) [] 1)
  { s with port := { s.port with report := List.replicate 23 ⟨0, []⟩ } }
theorem witness_AccessAnswered : ∀ kind ∈ [AccessKind.get, .set 5],
    Receives (accessing kind) (received (.access { get with kind }) [] 1) 990 []
      ∧ (received (.access { get with kind }) [] 1).originator = .access { get with kind }
      ∧ (received (.access { get with kind }) [] 1).target = ({ get with kind } : AccessEntry).position
      ∧ (received (.access { get with kind }) [] 1).kind = (match kind with
        | .get => .paramGet
        | .set _ => .paramSet)
      ∧ (accessing kind).tag .s3 ≠ 0xFF ∧ (accessing kind).port.deferred = [] ∧ (accessing kind).port.report.length < 24 := by
  intro kind h
  simp only [List.mem_cons, List.not_mem_nil, or_false] at h
  obtain rfl | rfl := h <;> exact ⟨⟨rfl, rfl, rfl⟩, by decide +kernel⟩
theorem witness_AccessAnswered_answers :
    answerResult 0x00 = .accept ∧ answerResult 0x71 ≠ .accept ∧ ([1, 2, 3, 4] : List Byte).length = 4
      ∧ ([1, 2, 3] : List Byte).length ≠ 4 := by decide +kernel

/-- The answer to this command is awaited, with a claim on the unit at position 1 in flight. -/
def commanding (e : UrgentEntry) (x : ClaimState) : State :=
  claimed (calling serving (received (.urgent e) [] 1))
    { claim 1 1 .momentary with state := x, entry := some .inFlight, stopMark := decide (e.command = .stop) }
theorem witness_UrgentCommandAnswered :
    ∀ y ∈ [(Command.run, ClaimState.held, some (⟨.s2, 0x0C⟩ : Requester)), (.run, .ending true, none), (.stop, .ending true, none),
      (.stop, .ending false, some ⟨.s2, 0x0C⟩)],
    ∀ e ∈ [{ run with command := y.1, requester := y.2.2 }], ∀ s ∈ [commanding e y.2.1],
    ∃ c, Receives s (received (.urgent e) [] 1) 990 [] ∧ (received (.urgent e) [] 1).target = e.position
      ∧ (received (.urgent e) [] 1).kind = .actuate ∧ e.requester = y.2.2
      ∧ s.claimOn e.position e.index = some c ∧ c.entry = some .inFlight ∧ c.state = y.2.1
      ∧ c.stopMark = decide (y.1 = .stop) := by
  intro y h e he s hs
  simp only [List.mem_cons, List.not_mem_nil, or_false] at h he hs
  subst he hs
  obtain rfl | rfl | rfl | rfl := h <;> exact ⟨_, ⟨rfl, rfl, rfl⟩, rfl, rfl, rfl, rfl, rfl, rfl, rfl⟩
/-- A RUN completes whose claim has a newer entry WAITING, HELD or ENDING with its STOP, or no entry; or there is no claim. -/
theorem witness_UrgentCommandAnswered_newer :
    (∀ x ∈ [(ClaimState.held, some EntryPlace.waiting), (.ending true, some .waiting), (.ending false, some .waiting), (.held, none)],
      ∀ s ∈ [claimed (calling serving (received (.urgent run) [] 1))
        { claim 1 1 .momentary with state := x.1, entry := x.2, stopMark := decide (x.1 ≠ .held) }],
      s.comb.heldInReset = false ∧ ∃ c, s.claimOn run.position run.index = some c ∧ c.entry ≠ some .inFlight ∧ c.state = x.1)
    ∧ (calling serving (received (.urgent run) [] 1)).claimOn run.position run.index = none := by decide +kernel

theorem witness_GenAPollWritesValue : ∃ t unit f v,
    Receives (calling serving (awaiting (.poll 1 0))) t 990 [] ∧ t.originator = .poll 1 0 ∧ t.kind = .sense ∧ t.target = 1
      ∧ (calling serving (awaiting (.poll 1 0))).unitAt 1 = some unit ∧ unit.generation = .a
      ∧ (calling serving (awaiting (.poll 1 0))).entryAt 1 0 = some f ∧ f.value = some v ∧ f.poll = some .fast
      ∧ answerResult 0x40 = .accept ∧ ¬ (answerResult 0x03 = .accept ∧ ([0] : List Byte).length = 1)
      ∧ ¬ (answerResult 0x00 = .accept ∧ ([] : List Byte).length = 1) :=
  ⟨_, _, _, _, ⟨rfl, rfl, rfl⟩, rfl, rfl, rfl, rfl, rfl, rfl, rfl, rfl, by decide +kernel⟩
theorem witness_GenBPollWritesValue : ∃ t unit f v,
    Receives (calling serving (awaiting (.poll 2 0))) t 990 [] ∧ t.originator = .poll 2 0 ∧ t.kind = .sense ∧ t.target = 2
      ∧ (calling serving (awaiting (.poll 2 0))).unitAt 2 = some unit ∧ unit.generation = .b
      ∧ (calling serving (awaiting (.poll 2 0))).entryAt 2 0 = some f ∧ f.value = some v ∧ f.poll = some .normal
      ∧ answerResult 0x40 = .accept ∧ ¬ (answerResult 0x03 = .accept ∧ ([0, 0] : List Byte).length = 2)
      ∧ ¬ (answerResult 0x00 = .accept ∧ ([0] : List Byte).length = 2) :=
  ⟨_, _, _, _, ⟨rfl, rfl, rfl⟩, rfl, rfl, rfl, rfl, rfl, rfl, rfl, rfl, by decide +kernel⟩

/-! Reads -/

/-- A request in the intake in SERVING. -/
theorem asked (k : Slot) (bytes : List Byte) (code : Byte) (hc : (req k bytes).code = code)
    (hl : 8 ≤ (req k bytes).data.length) : Takes (with_ k bytes) code (req k bytes) [] 1 :=
  taken _ _ _ _ _ ⟨rfl, by decide, rfl, rfl, by decide, hc, hl⟩

theorem witness_CountersDumped :
    Takes (with_ .s0 [0x70, 1]) 0x70 (req .s0 [0x70, 1]) [] 6
    ∧ (Takes (with_ .s3 [0x71, 1]) 0x71 (req .s3 [0x71, 1]) [] 6 ∧ (with_ .s3 [0x71, 1]).hasRight .s3 .resets = true)
    ∧ (Takes (with_ .s0 [0x71, 1]) 0x71 (req .s0 [0x71, 1]) [] 1 ∧ (with_ .s0 [0x71, 1]).hasRight .s0 .resets = false) :=
  ⟨taken _ _ _ _ _ (by decide +kernel), ⟨taken _ _ _ _ _ (by decide +kernel), by decide +kernel⟩,
   taken _ _ _ _ _ (by decide +kernel), by decide +kernel⟩

/-- UNIT-READ: for each clause a request in a state that it speaks of. -/
theorem witness_UnitVerdictAndSenseReadsAnswer :
    (∀ p i, Takes (with_ .s1 [0x22, 1, p, i]) 0x22 (req .s1 [0x22, 1, p, i]) [] 1
      ∧ (req .s1 [0x22, 1, p, i]).operand 2 = p.toNat ∧ (req .s1 [0x22, 1, p, i]).operand 3 = i.toNat)
    ∧ (with_ .s1 [0x22, 1, 6, 15]).unitAt 6 = none ∧ (with_ .s1 [0x22, 1, 2, 15]).unitAt 2 = some unitB
    ∧ 15 = 8 + lineNumber .marker ∧ 8 = 8 + lineNumber .tailL
    ∧ ((unitB.loads.get .marker).r < 4096 ∧ (unitB.loads.get .marker).c < 2048 ∧ (unitB.loads.get .marker).n < 16) :=
  ⟨fun _ _ => ⟨asked _ _ _ rfl (Nat.le_refl 8), rfl, rfl⟩, rfl, rfl, by decide +kernel⟩
/-- FUNCTION-READ likewise. -/
theorem witness_UnitVerdictAndSenseReadsAnswer_function :
    (∀ p i x, Takes (with_ .s1 [0x23, 1, p, i, x]) 0x23 (req .s1 [0x23, 1, p, i, x]) [] 1
      ∧ (req .s1 [0x23, 1, p, i, x]).operand 2 = p.toNat ∧ (req .s1 [0x23, 1, p, i, x]).operand 3 = i.toNat
      ∧ (req .s1 [0x23, 1, p, i, x]).operand 4 = x.toNat)
    ∧ (with_ .s1 [0x23, 1, 6, 31, 1]).entryAt 6 31 = none ∧ (with_ .s1 [0x23, 1, 1, 31, 1]).entryAt 1 31 = none
    ∧ (with_ .s1 [0x23, 1, 2, 4, 1]).entryAt 2 4 = some (newEntry 4 0x0304 .setpoint 0 6000 none) :=
  ⟨fun _ _ _ => ⟨asked _ _ _ rfl (Nat.le_refl 8), rfl, rfl, rfl⟩, by decide +kernel⟩
theorem witness_UnitVerdictAndSenseReadsAnswer_verdict :
    (∀ l i, Takes (with_ .s1 [0x20, 1, l, i]) 0x20 (req .s1 [0x20, 1, l, i]) [] 1
      ∧ (req .s1 [0x20, 1, l, i]).operand 2 = l.toNat ∧ (req .s1 [0x20, 1, l, i]).operand 3 = i.toNat)
    ∧ 7 = lineNumber .marker ∧ 0 = lineNumber .tailL :=
  ⟨fun _ _ => ⟨asked _ _ _ rfl (Nat.le_refl 8), rfl, rfl⟩, rfl, rfl⟩
theorem witness_UnitVerdictAndSenseReadsAnswer_sense :
    (∀ p i x, Takes (with_ .s1 [0x30, 1, p, i, x]) 0x30 (req .s1 [0x30, 1, p, i, x]) [] 1
      ∧ (req .s1 [0x30, 1, p, i, x]).operand 2 = p.toNat ∧ (req .s1 [0x30, 1, p, i, x]).operand 3 = i.toNat
      ∧ (req .s1 [0x30, 1, p, i, x]).operand 4 = x.toNat)
    ∧ (with_ .s1 [0x30, 1, 6, 31, 1]).entryAt 6 31 = none
    ∧ (∃ f, (with_ .s1 [0x30, 1, 2, 4, 1]).entryAt 2 4 = some f ∧ f.cls ≠ .sensor)
    ∧ ∃ f v, (with_ .s1 [0x30, 1, 1, 0, 1]).entryAt 1 0 = some f ∧ f.cls = .sensor ∧ f.value = some v :=
  ⟨fun _ _ _ => ⟨asked _ _ _ rfl (Nat.le_refl 8), rfl, rfl, rfl⟩, rfl, ⟨_, rfl, by decide +kernel⟩, _, _, rfl, rfl, rfl⟩
theorem witness_SettingAndPartStatusReadsAnswer :
    (∀ n, Takes (with_ .s1 [0x60, 1, n]) 0x60 (req .s1 [0x60, 1, n]) [] 1 ∧ (req .s1 [0x60, 1, n]).operand 2 = n.toNat)
    ∧ (∀ w ∈ defaultWords, w.1 ≠ 0x39) ∧ (∀ w ∈ defaultWords, w.1 ≠ 0x05) ∧ settingOfNumber 0x38 = some .senseEnables
    ∧ ∃ w ∈ defaultWords, w.1 = 0x00 :=
  ⟨fun _ => ⟨asked _ _ _ rfl (Nat.le_refl 8), rfl⟩, by decide +kernel⟩
theorem witness_SettingAndPartStatusReadsAnswer_partStatus :
    (∀ n, Takes (with_ .s1 [0x24, 1, n]) 0x24 (req .s1 [0x24, 1, n]) [] 1 ∧ (req .s1 [0x24, 1, n]).operand 2 = n.toNat)
    ∧ (with_ .s1 [0x24, 1, 2]).line.tx = none ∧ (calling (with_ .s1 [0x24, 1, 2]) probeCall).line.tx = some probeCall
    ∧ (with_ .s1 [0x24, 1, 3]).walker.offered = none
    ∧ (asking (gapped [] (some .probe) []) (req .s1 [0x24, 1, 3])).walker.offered = some .probe :=
  ⟨fun _ => ⟨asked _ _ _ rfl (Nat.le_refl 8), rfl⟩, rfl, rfl, rfl, rfl⟩
/-- An entry of 7 bytes at the head of the intake. -/
def short : IntakeEntry := ⟨.s1, [0x22, 1, 2, 3, 4, 5, 6]⟩
theorem witness_EntriesThatAreNoRequestRefused :
    (Heads (asking serving short) short [] 1 ∧ short.data.length < 8)
    ∧ ∀ c ∈ [(0x10 : Byte), 0x12, 0x00, 0xFF], Heads (with_ .s1 [c]) (req .s1 [c]) [] 1 ∧ 8 ≤ (req .s1 [c]).data.length
      ∧ (req .s1 [c]).code ∉ [0x11, 0x20, 0x21, 0x22, 0x23, 0x24, 0x30, 0x31, 0x32, 0x40, 0x41, 0x42, 0x50, 0x51, 0x60, 0x61,
          0x62, 0x63, 0x64, 0x70, 0x71, 0x7E, (0x7F : Byte)] := by
  refine ⟨⟨⟨rfl, by decide, rfl, rfl, rfl, by decide⟩, by decide⟩, ?_⟩
  intro c h
  refine ⟨(asked .s1 [c] c rfl (Nat.le_refl 8)).toHeads, ?_⟩
  revert c
  decide +kernel

/-! Lamp lines and verification -/

/-- The identifier of a LAMP-SET from this tag. -/
def lampIdent (tag : Byte) : Ident := identOf 0x0A6D 0x01 tag
/-- SERVING with the Report Queue full. -/
def full : State := { serving with port := { serving.port with report := List.replicate 24 ⟨0, []⟩ } }
theorem witness_LampSetReplacesRequestSet :
    (∀ x ∈ [((0x50 : Byte), Slot.s0), (0x51, .s1), (0x52, .s2), (0x53, .s3)], ∀ s ∈ [serving, full],
      s.comb.heldInReset = false ∧ s.port.busOff = false ∧ s.comb.state ≠ .parked ∧ identKind (lampIdent x.1) = 0x01
      ∧ identBlock (lampIdent x.1) = s.block ∧ s.slotOfTag (identTag (lampIdent x.1)) = some x.2)
    ∧ SwitchesFollow serving ∧ SwitchesFollow full ∧ SwitchesFollow (lit serving .stop)
    ∧ serving.hasRight .s0 .lamps = true ∧ serving.hasRight .s1 .lamps = false ∧ serving.hasRight .s1 .stopLine = true
    ∧ serving.hasRight .s2 .lamps = false ∧ serving.hasRight .s2 .stopLine = false
    ∧ (serving.port.deferred = [] ∧ serving.port.report.length < 24) ∧ (full.port.deferred = [] ∧ 24 ≤ full.port.report.length)
    ∧ (0x01 : Byte).getLsbD 0 = true ∧ (0xFE : Byte).getLsbD 0 = false :=
  ⟨by decide +kernel, everyLine (by decide +kernel), everyLine (by decide +kernel), everyLine (by decide +kernel),
   by decide +kernel⟩
/-- A LAMP-SET that switches STOP and TURN-L ON, one that repeats STOP, one that switches it OFF. -/
theorem witness_LampSetReplacesRequestSet_switches :
    let on (s : State) (lines : Byte) (l : Line) : Bool := ((after (.lampSet (lampIdent 0x50) 1 lines 0) s).lamps.get l).on
    (∀ l ∈ [Line.stop, .turnL], (serving.lamps.get l).on = false ∧ on serving (lineBit l) l = true)
    ∧ (((lit serving .stop).lamps.get .stop).on = true ∧ on (lit serving .stop) 0x04 .stop = true
      ∧ on (lit serving .stop) 0 .stop = false) := by decide +kernel
/-- SERVING with the Report Queue full and responses waiting, a LAMP-SET's of slot 0 between two others. -/
def behind : State :=
  { full with port := { full.port with deferred := [⟨.s1, 0x10, 1, .done, false, [4, 0]⟩, ⟨.s0, 0x10, 1, .done, false, [0x0D, 0]⟩,
      ⟨.s0, 0x40, 2, .superseded, false, []⟩] } }
theorem witness_LampSetReplacesRequestSet_waiting :
    (behind.comb.heldInReset = false ∧ behind.port.busOff = false ∧ behind.comb.state ≠ .parked
      ∧ identBlock (lampIdent 0x50) = behind.block ∧ behind.slotOfTag (identTag (lampIdent 0x50)) = some .s0)
    ∧ SwitchesFollow behind
    ∧ (behind.port.deferred ≠ [] ∧ behind.port.deferred = [⟨.s1, 0x10, 1, .done, false, [4, 0]⟩]
        ++ ⟨.s0, 0x10, 1, .done, false, [0x0D, 0]⟩ :: [⟨.s0, 0x40, 2, .superseded, false, []⟩])
    ∧ (∀ x ∈ [(⟨.s1, 0x10, 1, .done, false, [4, 0]⟩ : Response)], x.code = 0x10 → x.slot ≠ .s0)
    ∧ ∀ d ∈ behind.port.deferred, d.code = 0x10 → d.slot ≠ .s2 :=
  ⟨by decide +kernel, everyLine (by decide +kernel), by decide +kernel⟩

/-- TAIL-L or STOP requested and ON, with a refresh window of 500 ms. -/
def refreshed (l : Line) : State :=
  { lit serving l with settings := { serving.settings with refreshWindow := .const 500 } }
theorem witness_RefreshExpiryKeepsTailAndMarker :
    (∀ l ∈ [Line.stop, .tailL, .marker], (refreshed l).comb.heldInReset = false ∧ (refreshed l).refreshWindow .s0 ≠ 0
      ∧ ((refreshed l).slots.get .s0).refreshExpired = false)
    ∧ SwitchesFollow (refreshed .stop) ∧ SwitchesFollow (refreshed .tailL) ∧ SwitchesFollow (refreshed .marker)
    ∧ (TimersFollow serving ∧ serving.refreshWindow .s0 = 0)
    ∧ (TimersFollow (refreshed .stop) ∧ ((refreshed .stop).slots.get .s1).refreshExpired = true) :=
  ⟨by decide +kernel, everyLine (by decide +kernel), everyLine (by decide +kernel), everyLine (by decide +kernel),
   ⟨timers _ (by decide +kernel), by decide +kernel⟩, timers _ (by decide +kernel), by decide +kernel⟩

/-- TURN-L requested, in this flash phase. -/
def flashing (f : Flash) (timing : Timing) : State :=
  let s := lit serving .turnL
  { s with flash := f, lamps := s.lamps.set .turnL { s.lamps.get .turnL with on := f.isOn, timing } }
theorem witness_FlashPhaseEndSwitchesTurnLines :
    ((flashing (.on 700) (.fullPhase 700)).comb.heldInReset = false ∧ SwitchesFollow (flashing (.on 700) (.fullPhase 700)))
    ∧ SwitchesFollow (flashing (.on 700) .phaseMeasured)
    ∧ SwitchesFollow (flashing (.off 700) .idle)
    ∧ ((flashing (.off 700) .idle).requested .turnL = true ∧ ((flashing (.off 700) .idle).lamps.get .turnL).trip = .normal)
    ∧ (serving.flash = .stopped ∧ TimersFollow serving) :=
  ⟨⟨rfl, everyLine (by decide +kernel)⟩, everyLine (by decide +kernel), everyLine (by decide +kernel), by decide +kernel,
   rfl, timers _ (by decide +kernel)⟩

theorem witness_FaultsTripAndLinesRestart :
    ((lit serving .fog).comb.heldInReset = false ∧ ((lit serving .fog).lamps.get .fog).on = true
      ∧ ((lit serving .fog).lamps.get .fog).trip = .normal ∧ SwitchesFollow (lit serving .fog))
    ∧ (TimersFollow serving ∧ (serving.lamps.get .fog).on = false)
    ∧ (TimersFollow (tripped serving .fog .latched) ∧ ((tripped serving .fog .latched).lamps.get .fog).trip ≠ .normal) :=
  ⟨⟨rfl, by decide +kernel, by decide +kernel, everyLine (by decide +kernel)⟩, ⟨timers _ (by decide +kernel), rfl⟩,
   timers _ (by decide +kernel), by decide +kernel⟩

theorem witness_FaultsTripAndLinesRestart_restart : ∀ l ∈ [Line.stop, .turnL],
    (tripped serving l .tripped).comb.heldInReset = false ∧ ((tripped serving l .tripped).lamps.get l).trip = .tripped
      ∧ ((tripped serving l .tripped).lamps.get l).restartSince = some 900 := by decide +kernel
theorem witness_FaultsTripAndLinesRestart_switches :
    SwitchesFollow (tripped serving .stop .tripped)
      ∧ SwitchesFollow { tripped serving .turnL .tripped with flash := .on 700 } :=
  ⟨everyLine (by decide +kernel), everyLine (by decide +kernel)⟩

/-- A LATCHED or TRIPPED line and a LINE-RESET of slot 3 or 2 that names this one. -/
def resettingLine (x : TripState) (k : Slot) (n : Byte) : State := asking (tripped serving .fog x) (req k [0x11, 1, n])
theorem witness_LineResetClearsLatch :
    (∀ x k n, Takes (resettingLine x k n) 0x11 (req k [0x11, 1, n]) [] 1 ∧ (req k [0x11, 1, n]).operand 2 = n.toNat)
    ∧ (∀ x ∈ [TripState.tripped, .latched], (∀ l, (((resettingLine x .s3 6).lamps.get l).on
          = switchLaw ((resettingLine x .s3 6).requested l) ((resettingLine x .s3 6).lamps.get l).trip
            (resettingLine x .s3 6).flash l)
        ∧ ((resettingLine x .s3 6).requested l = false → ((resettingLine x .s3 6).lamps.get l).trip = .normal
          ∧ ((resettingLine x .s3 6).lamps.get l).attempts = 0)))
    ∧ TimersFollow (resettingLine .latched .s3 6) ∧ TimersFollow (resettingLine .latched .s3 8)
    ∧ TimersFollow (resettingLine .tripped .s3 6) ∧ TimersFollow (resettingLine .latched .s2 6)
    ∧ 6 = lineNumber .fog ∧ 7 = lineNumber .marker
    ∧ (resettingLine .latched .s3 6).hasRight .s3 .lineReset = true
    ∧ (resettingLine .latched .s2 6).hasRight .s2 .lineReset = false
    ∧ ((resettingLine .latched .s3 6).lamps.get .fog).trip = .latched
    ∧ ((resettingLine .tripped .s3 6).lamps.get .fog).trip ≠ .latched :=
  ⟨fun _ _ _ => ⟨taken _ _ _ _ _ ⟨rfl, (show CombState.serving ≠ .parked by decide), rfl, rfl, (show 0 + 1 ≤ 24 by decide), rfl, Nat.le_refl 8⟩, rfl⟩,
   by
    intro x h
    simp only [List.mem_cons, List.not_mem_nil, or_false] at h
    obtain rfl | rfl := h <;> exact everyLine (by decide +kernel),
   timers _ (by decide +kernel), timers _ (by decide +kernel), timers _ (by decide +kernel), timers _ (by decide +kernel),
   by decide +kernel⟩

theorem witness_MeasurementTripsOrIsSkipped :
    (MeasuredAt (lit serving .tailL) .tailL 920 ∧ SwitchesFollow (lit serving .tailL)
      ∧ 18000 ≤ meanOf 20000 18000 18000 18000 18003)
    ∧ meanOf 20000 17999 18000 18000 18000 < 18000
    ∧ meanOf 3600 1799 1800 1800 1800 < 1800 ∧ 3200 < meanOf 3600 3201 3201 3201 3201
    ∧ (∀ x ∈ [CombState.settling, .building, .parked], x ≠ .detached ∧ x ≠ .serving)
    ∧ MeasuredAt { lit serving .tailL with comb := { serving.comb with state := .building } } .tailL 920
    ∧ MeasuredAt { lit serving .tailL with comb := { serving.comb with unsettled := true } } .tailL 920
    ∧ MeasuredAt (flashing (.on 800) (.fullPhase 800)) .turnL 920 :=
  ⟨⟨⟨rfl, by decide +kernel, .inl ⟨800, by decide +kernel⟩⟩, everyLine (by decide +kernel), by decide +kernel⟩,
   by decide +kernel, by decide +kernel, by decide +kernel, by decide +kernel,
   ⟨rfl, by decide +kernel, .inl ⟨800, by decide +kernel⟩⟩, ⟨rfl, by decide +kernel, .inl ⟨800, by decide +kernel⟩⟩,
   ⟨rfl, by decide +kernel, .inr (.inr ⟨800, by decide +kernel⟩)⟩⟩

/-- 7.8: the worked case meets the hypotheses as LOW; the other classes are met by other expected loads. -/
theorem witness_MeasurementClassified :
    MeasuredAt worked .stop 120 ∧ worked.comb.state = .serving ∧ worked.comb.unsettled = false
    ∧ 1505 = meanOf 20000 1504 1506 1503 1507 ∧ 2660 = meanOf 3600 2661 2659 2660 2662
    ∧ 2359 = worked.sumLoads .stop Load.r * 2660 / 2400 + worked.sumLoads .stop Load.c
    ∧ 1931 = 2359 - 2359 * worked.settings.toleranceLow.toNat / 64 - worked.settings.toleranceFloor.toNat
    ∧ 2787 = 2359 + 2359 * worked.settings.toleranceHigh.toNat / 64 + worked.settings.toleranceFloor.toNat
    ∧ IsClass 2359 1505 1931 2787 60 .low ∧ IsClass 2359 59 1931 2787 60 .open ∧ IsClass 2359 1931 1931 2787 60 .ok
    ∧ IsClass 2359 2787 1931 2787 60 .ok ∧ IsClass 2359 2788 1931 2787 60 .high ∧ IsClass 0 59 0 60 60 .none
    ∧ IsClass 0 60 0 60 60 .undeclared ∧ IsClass 15001 0 0 0 60 .oversubscribed ∧ IsClass 15000 59 12597 17403 60 .open :=
  ⟨⟨rfl, by decide +kernel, .inl ⟨0, by decide +kernel⟩⟩, rfl, rfl, by decide +kernel, by decide +kernel, by decide +kernel,
   by decide +kernel, by decide +kernel, by simp [IsClass], by simp [IsClass], by simp [IsClass], by simp [IsClass],
   by simp [IsClass], by simp [IsClass], by simp [IsClass], by simp [IsClass], by simp [IsClass]⟩

/-! Sensors and claims -/

/-- SERVING with a sensor value of this quality on the unit at position 1. -/
def valued (q : Quality) : State :=
  { serving with units :=
      [{ unitA with functions := [{ sensor 0 .fast with value := some ⟨5, q, 100, none⟩, subs := .const none }] }] }
theorem witness_StalenessMarksValue : ∀ q ∈ [Quality.good, .clamped, .sensorFault, .notYet, .stale], ∃ f v,
    (valued q).comb.heldInReset = false ∧ (valued q).servingAt 1 = true ∧ (valued q).entryAt 1 0 = some f
      ∧ f.value = some v ∧ f.poll = some .fast ∧ v.quality = q :=
  fun _ _ => ⟨_, _, rfl, rfl, rfl, rfl, rfl, rfl⟩
theorem witness_StalenessMarksValue_timers : TimersFollow (valued .stale) ∧ TimersFollow (valued .notYet) :=
  ⟨timers _ (by decide +kernel), timers _ (by decide +kernel)⟩

theorem witness_SubscriptionsWritten :
    (∀ p i h l, Takes (with_ .s2 [0x31, 1, p, i, h, l]) 0x31 (req .s2 [0x31, 1, p, i, h, l]) [] 1
      ∧ (req .s2 [0x31, 1, p, i, h, l]).operand 2 = p.toNat ∧ (req .s2 [0x31, 1, p, i, h, l]).operand 3 = i.toNat
      ∧ (req .s2 [0x31, 1, p, i, h, l]).operand 4 = h.toNat ∧ (req .s2 [0x31, 1, p, i, h, l]).operand 5 = l.toNat)
    ∧ (∀ p i, Takes (with_ .s2 [0x32, 1, p, i]) 0x32 (req .s2 [0x32, 1, p, i]) [] 1
      ∧ (req .s2 [0x32, 1, p, i]).operand 2 = p.toNat ∧ (req .s2 [0x32, 1, p, i]).operand 3 = i.toNat)
    ∧ 256 * (0x7F : Byte).toNat + (0xFF : Byte).toNat = 32767 ∧ 32767 < 256 * (0x80 : Byte).toNat + (0x00 : Byte).toNat
    ∧ (with_ .s2 [0x31, 1, 6, 31]).servingAt 6 = false ∧ (with_ .s2 [0x31, 1, 1, 31]).entryAt 1 31 = none
    ∧ (∃ f, (with_ .s2 [0x31, 1, 1, 1]).entryAt 1 1 = some f ∧ f.cls ≠ .sensor)
    ∧ ∃ f v, (with_ .s2 [0x31, 1, 2, 0, 0x7F, 0xFF]).servingAt 2 = true
      ∧ (with_ .s2 [0x31, 1, 2, 0, 0x7F, 0xFF]).entryAt 2 0 = some f ∧ f.cls = .sensor ∧ f.value = some v :=
  ⟨fun _ _ _ _ => ⟨asked _ _ _ rfl (Nat.le_refl 8), rfl, rfl, rfl, rfl⟩, fun _ _ => ⟨asked _ _ _ rfl (Nat.le_refl 8), rfl, rfl⟩,
   by decide, by decide, rfl, rfl, ⟨_, rfl, by decide +kernel⟩, _, _, rfl, rfl, rfl, rfl⟩

/-- SERVING with no work on the line and this claim. -/
def claiming (c : Claim) (k : Slot) (bytes : List Byte) : State := asking (claimed serving c) (req k bytes)
/-- SERVING with the Claim Table full. -/
def fullTable : State :=
  { serving with
    claims := (List.range 8).map fun i => claim 3 i .momentary
    comb := { serving.comb with parkSince := none } }
theorem witness_ActuateRefused :
    (∀ k p i c, Takes (with_ k [0x40, 1, p, i, c]) 0x40 (req k [0x40, 1, p, i, c]) [] 1
      ∧ (req k [0x40, 1, p, i, c]).operand 2 = p.toNat ∧ (req k [0x40, 1, p, i, c]).operand 3 = i.toNat
      ∧ byteAt (req k [0x40, 1, p, i, c]).data 4 = c)
    ∧ TimersFollow (with_ .s2 [0x40, 1, 1, 1, 1])
    ∧ commandOf 0x00 = none ∧ commandOf 0x06 = none ∧ commandOf 0x01 = some .run ∧ commandOf 0x05 = some .set
    ∧ (with_ .s2 [0x40, 1, 1, 1, 1]).hasRight .s2 .bodyClaim = true ∧ (with_ .s0 [0x40]).hasRight .s0 .bodyClaim = false
    ∧ (with_ .s2 [0x40, 1, 6, 31, 1]).servingAt 6 = false ∧ (with_ .s2 [0x40, 1, 1, 31, 1]).entryAt 1 31 = none
    ∧ (∃ f, (with_ .s2 [0x40, 1, 1, 0, 1]).entryAt 1 0 = some f ∧ f.cls = .sensor)
    ∧ (∃ f, (with_ .s2 [0x40, 1, 1, 1, 1]).servingAt 1 = true ∧ (with_ .s2 [0x40, 1, 1, 1, 1]).entryAt 1 1 = some f
      ∧ f.cls = .momentary)
    ∧ (Takes (asking fullTable (req .s2 [0x40, 1, 1, 1, 1])) 0x40 (req .s2 [0x40, 1, 1, 1, 1]) [] 1
      ∧ TimersFollow (asking fullTable (req .s2 [0x40, 1, 1, 1, 1])) ∧ fullTable.claimOn 1 1 = none ∧ 8 ≤ fullTable.claims.length)
    ∧ (∀ x ∈ [ClaimState.held, .ending true],
        Takes (claiming { claim 1 1 .momentary with holder := .s3, state := x } .s2 [0x40, 1, 1, 1, 1]) 0x40
          (req .s2 [0x40, 1, 1, 1, 1]) [] 1
        ∧ TimersFollow (claiming { claim 1 1 .momentary with holder := .s3, state := x } .s2 [0x40, 1, 1, 1, 1])
        ∧ ∃ d, (claiming { claim 1 1 .momentary with holder := .s3, state := x } .s2 [0x40, 1, 1, 1, 1]).claimOn 1 1 = some d
          ∧ d.state = x ∧ d.holder ≠ .s2) :=
  ⟨fun _ _ _ _ => ⟨asked _ _ _ rfl (Nat.le_refl 8), rfl, rfl, rfl⟩, timers _ (by decide +kernel), by decide +kernel,
   by decide +kernel, by decide +kernel, by decide +kernel, by decide +kernel, by decide +kernel, rfl, rfl, ⟨_, rfl, rfl⟩,
   ⟨_, rfl, rfl, rfl⟩, ⟨taken _ _ _ _ _ (by decide +kernel), timers _ (by decide +kernel), by decide +kernel⟩, by
    intro x h
    simp only [List.mem_cons, List.not_mem_nil, or_false] at h
    obtain rfl | rfl := h <;>
      exact ⟨taken _ _ _ _ _ (by decide +kernel), timers _ (by decide +kernel), _, rfl, rfl, by decide⟩⟩

/-- A SET of slot 2 above the declared maximum. -/
def setAbove : List Byte := [0x40, 0x0C, 2, 4, 5, 0x23, 0x28, 1]
/-- A RUN of slot 2 whose claim has this entry. -/
def again (x : Option EntryPlace) : State :=
  let s := claimed serving { claim 1 1 .momentary with entry := x }
  asking { s with line := { s.line with urgent := if x = some .waiting then [run] else [] } } (req .s2 [0x40, 1, 1, 1, 1])
theorem witness_ActuateProceeds :
    (∃ f, Takes (with_ .s2 setAbove) 0x40 (req .s2 setAbove) [] 1 ∧ (req .s2 setAbove).operand 2 = 2
      ∧ (req .s2 setAbove).operand 3 = 4 ∧ commandOf (byteAt (req .s2 setAbove).data 4) = some .set
      ∧ (with_ .s2 setAbove).hasRight .s2 .bodyClaim = true ∧ (with_ .s2 setAbove).servingAt 2 = true
      ∧ (with_ .s2 setAbove).entryAt 2 4 = some f ∧ f.cls = .setpoint
      ∧ (6000 : Int) = max f.min (min f.max (byteAt (req .s2 setAbove).data 5 ++ byteAt (req .s2 setAbove).data 6).toInt)
      ∧ (with_ .s2 setAbove).claimOn 2 4 = none ∧ (with_ .s2 setAbove).claims.length < 8)
    ∧ (∀ x ∈ [none, some EntryPlace.waiting, some .inFlight], ∃ d,
        Takes (again x) 0x40 (req .s2 [0x40, 1, 1, 1, 1]) [] 1 ∧ commandOf 1 = some .run
        ∧ (again x).hasRight .s2 .bodyClaim = true ∧ (again x).servingAt 1 = true
        ∧ (again x).claimOn 1 1 = some d ∧ d.state = .held ∧ d.holder = .s2 ∧ d.entry = x)
    ∧ ((again (some .waiting)).line.urgent = [] ++ run :: [] ∧ run.position = 1 ∧ run.index = 1
      ∧ run.requester = some ⟨.s2, 0x0C⟩ ∧ (again (some .waiting)).tag .s2 ≠ 0xFF) :=
  ⟨⟨_, taken _ _ _ _ _ (by decide +kernel), rfl, rfl, rfl, by decide +kernel, rfl, rfl, rfl, by decide +kernel, rfl, by decide⟩,
   by
    intro x h
    simp only [List.mem_cons, List.not_mem_nil, or_false] at h
    obtain rfl | rfl | rfl := h <;>
      exact ⟨_, taken _ _ _ _ _ (by decide +kernel), rfl, by decide +kernel, rfl, rfl, rfl, rfl, rfl⟩,
   by decide +kernel⟩

theorem witness_HoldTimeExpiryStops :
    (∀ x ∈ [none, some EntryPlace.waiting, some .inFlight],
      ∀ s ∈ [claimed serving { claim 1 1 .momentary with lastRun := some 900, entry := x }],
      ∃ c, s.comb.heldInReset = false ∧ s.claimOn 1 1 = some c ∧ c.cls = .momentary ∧ c.state = .held ∧ c.lastRun = some 900
        ∧ c.entry = x)
    ∧ (∃ c, TimersFollow (claimed serving (claim 1 2 .latched))
      ∧ (claimed serving (claim 1 2 .latched)).claimOn 1 2 = some c ∧ c.cls ≠ .momentary) := by
  refine ⟨?_, _, timers _ (by decide +kernel), rfl, by decide⟩
  intro x _ s hs
  simp only [List.mem_cons, List.not_mem_nil, or_false] at hs
  subst hs
  exact ⟨_, rfl, rfl, rfl, rfl, rfl, rfl⟩

theorem witness_ReleasesEndClaims :
    (∀ p i, Takes (with_ .s2 [0x41, 1, p, i]) 0x41 (req .s2 [0x41, 1, p, i]) [] 1
      ∧ (req .s2 [0x41, 1, p, i]).operand 2 = p.toNat ∧ (req .s2 [0x41, 1, p, i]).operand 3 = i.toNat)
    ∧ (∀ k p i, Takes (with_ k [0x42, 1, p, i]) 0x42 (req k [0x42, 1, p, i]) [] 1
      ∧ (req k [0x42, 1, p, i]).operand 2 = p.toNat ∧ (req k [0x42, 1, p, i]).operand 3 = i.toNat)
    ∧ TimersFollow (with_ .s2 [0x41, 1, 6, 31]) ∧ TimersFollow (with_ .s3 [0x42, 1, 6, 31])
    ∧ (with_ .s2 [0x41, 1, 6, 31]).claimOn 6 31 = none
    ∧ (with_ .s3 [0x42, 1, 6, 31]).hasRight .s3 .resets = true ∧ (with_ .s0 [0x42, 1, 6, 31]).hasRight .s0 .resets = false
    ∧ (∀ x ∈ [(FunctionClass.momentary, ClaimState.held, Slot.s2), (.latched, .held, .s2), (.momentary, .ending true, .s2),
          (.latched, .held, .s3)],
        ∃ c, Takes (claiming { claim 1 1 x.1 with state := x.2.1, holder := x.2.2 } .s2 [0x41, 1, 1, 1]) 0x41
            (req .s2 [0x41, 1, 1, 1]) [] 1
          ∧ TimersFollow (claiming { claim 1 1 x.1 with state := x.2.1, holder := x.2.2 } .s2 [0x41, 1, 1, 1])
          ∧ (claiming { claim 1 1 x.1 with state := x.2.1, holder := x.2.2 } .s2 [0x41, 1, 1, 1]).claimOn 1 1 = some c
          ∧ c.cls = x.1 ∧ c.state = x.2.1 ∧ c.holder = x.2.2)
    ∧ (∀ x ∈ [(FunctionClass.momentary, some EntryPlace.waiting), (.latched, some .waiting), (.setpoint, some .inFlight)],
        ∃ c, Takes (claiming { claim 1 1 x.1 with entry := x.2 } .s2 [0x41, 1, 1, 1]) 0x41 (req .s2 [0x41, 1, 1, 1]) [] 1
          ∧ (claiming { claim 1 1 x.1 with entry := x.2 } .s2 [0x41, 1, 1, 1]).claimOn 1 1 = some c ∧ c.state = .held
          ∧ c.cls = x.1 ∧ c.holder = .s2 ∧ c.entry = x.2)
    ∧ (∀ x ∈ [(FunctionClass.momentary, none), (.momentary, some EntryPlace.waiting), (.latched, some .waiting), (.latched, none)],
        ∃ c, Takes (claiming { claim 1 1 x.1 with entry := x.2 } .s3 [0x42, 1, 1, 1]) 0x42 (req .s3 [0x42, 1, 1, 1]) [] 1
          ∧ (claiming { claim 1 1 x.1 with entry := x.2 } .s3 [0x42, 1, 1, 1]).claimOn 1 1 = some c ∧ c.state = .held
          ∧ c.cls = x.1 ∧ c.entry = x.2) :=
  ⟨fun _ _ => ⟨asked _ _ _ rfl (Nat.le_refl 8), rfl, rfl⟩, fun _ _ _ => ⟨asked _ _ _ rfl (Nat.le_refl 8), rfl, rfl⟩,
   timers _ (by decide +kernel), timers _ (by decide +kernel), rfl, by decide +kernel, by decide +kernel, by
    intro x h
    simp only [List.mem_cons, List.not_mem_nil, or_false] at h
    obtain rfl | rfl | rfl | rfl := h <;>
      exact ⟨_, taken _ _ _ _ _ (by decide +kernel), timers _ (by decide +kernel), rfl, rfl, rfl, rfl⟩, by
    intro x h
    simp only [List.mem_cons, List.not_mem_nil, or_false] at h
    obtain rfl | rfl | rfl := h <;> exact ⟨_, taken _ _ _ _ _ (by decide +kernel), rfl, rfl, rfl, rfl, rfl⟩, by
    intro x h
    simp only [List.mem_cons, List.not_mem_nil, or_false] at h
    obtain rfl | rfl | rfl | rfl := h <;> exact ⟨_, taken _ _ _ _ _ (by decide +kernel), rfl, rfl, rfl, rfl⟩⟩

/-! Masters, settings and the vehicle port -/

/-- SERVING with this many entries of slot 0 and of slot 1 in the intake and this many frames in the Report Queue. -/
def crowded (m n frames : Nat) : State :=
  { serving with
    port := { serving.port with
      intake := List.replicate m (req .s0 [0x22]) ++ List.replicate n (req .s1 [0x22])
      report := List.replicate frames ⟨0, []⟩ }
    settings := { serving.settings with intakeQuota := (PerSlot.const 16).set .s0 4 } }
theorem witness_RequestFrameJoinsIntake :
    (serving.comb.heldInReset = false ∧ TimersFollow serving ∧ serving.comb.state ≠ .parked ∧ serving.port.busOff = false)
    ∧ identBlock (frame 0x01 0x50 []).ident = serving.block ∧ identBlock (identOf 0x0A6C 0x01 0x50) ≠ serving.block
    ∧ identKind (frame 0x02 0x50 []).ident ≠ 0x01 ∧ identKind (frame 0x01 0x50 []).ident = 0x01
    ∧ (∀ tag ∈ [(0x77 : Byte), 0xFF], ∀ k ∈ allSlots, serving.tag k = 0xFF ∨ serving.tag k ≠ identTag (frame 0x01 tag []).ident)
    ∧ (∀ m ∈ [3, 4], (crowded m (15 - m) 23).slotOfTag (identTag (frame 0x01 0x50 [0x22]).ident) = some .s0
        ∧ (crowded m (15 - m) 23).port.intake.length = 15 ∧ (crowded m (15 - m) 23).port.report.length < 24
        ∧ ((crowded m (15 - m) 23).port.intake.filter fun x => x.slot == .s0).length = m
        ∧ (crowded m (15 - m) 23).quota .s0 = 4)
    ∧ (TimersFollow (crowded 3 12 23) ∧ TimersFollow (crowded 4 11 23) ∧ TimersFollow (crowded 3 13 24))
    ∧ (16 ≤ (crowded 3 13 24).port.intake.length ∧ 24 ≤ (crowded 3 13 24).port.report.length)
    ∧ (([0x22] : List Byte).length < 8 ∧ ([0x22, 1, 2, 0, 0, 0, 0, 0] : List Byte).length = 8) :=
  ⟨⟨rfl, timers _ (by decide +kernel), by decide, rfl⟩, by decide +kernel, by decide +kernel, by decide +kernel,
   by decide +kernel, by decide +kernel, by decide +kernel,
   ⟨timers _ (by decide +kernel), timers _ (by decide +kernel), timers _ (by decide +kernel)⟩, by decide +kernel⟩

/-- A unit-access request of slot 3, with this many outstanding. -/
def accesses (n : Nat) (code p : Byte) : State :=
  let s := { serving with comb := { serving.comb with parkSince := if n = 0 then some 0 else none } }
  asking { s with line := { s.line with access := List.replicate n get } } (req .s3 [code, 1, p, 7, 0, 0, 0, 5])
theorem witness_UnitAccessJoinsQueue :
    (∀ x ∈ [(0x50 : Byte), 0x51], ∀ p ∈ [(0 : Byte), 1, 2, 6, 7], ∀ n ∈ [0, 1, 2],
      Takes (accesses n x p) x (req .s3 [x, 1, p, 7, 0, 0, 0, 5]) [] 1
      ∧ (req .s3 [x, 1, p, 7, 0, 0, 0, 5]).operand 2 = p.toNat ∧ (accesses n x p).accessOutstanding .s3 = n
      ∧ TimersFollow (accesses n x p) ∧ (accesses n x p).hasRight .s3 .unitAccess = true)
    ∧ (Takes (with_ .s0 [0x50, 1, 1]) 0x50 (req .s0 [0x50, 1, 1]) [] 1 ∧ TimersFollow (with_ .s0 [0x50, 1, 1])
      ∧ (with_ .s0 [0x50, 1, 1]).hasRight .s0 .unitAccess = false)
    ∧ (accesses 0 0x50 6).unitAt 6 = none ∧ ∃ u, (accesses 1 0x51 2).unitAt 2 = some u ∧ u.state = .serving := by
  refine ⟨?_, ⟨asked _ _ _ rfl (Nat.le_refl 8), timers _ (by decide +kernel), by decide +kernel⟩, rfl, _, rfl, rfl⟩
  intro x hx p hp n hn
  simp only [List.mem_cons, List.not_mem_nil, or_false] at hx hn
  obtain rfl | rfl := hx <;> obtain rfl | rfl | rfl := hn <;>
    refine ⟨taken _ _ _ _ _ ?_, ?_, ?_, timers _ ?_, ?_⟩ <;> revert p <;> decide +kernel

/-- A setting write. -/
def writing (n w3 w4 w5 w6 : Byte) : List Byte := [0x61, 1, n, w3, w4, w5, w6]
/-- The setup window closed. -/
def closed : State := { serving with setup := { open_ := false, holder := none, deadlineSince := none } }
/-- The setup window open and held by slot 0. -/
def heldWindow : State := { serving with setup := { serving.setup with holder := some .s0 } }
/-- A slot may not write a word. -/
theorem mayNot (s : State) (k : Slot) (n : Setting)
    (h : s.hasRight k .settings = false ∧ n ≠ .refreshWindow k ∧ n ≠ .noticeRouting k) : ¬ MayWrite s k n :=
  fun m => m.elim (fun r => by simp [h.1] at r) fun o => o.elim h.2.1 h.2.2
theorem witness_SettingWriteDecided :
    (∀ k n w3 w4 w5 w6, Takes (with_ k (writing n w3 w4 w5 w6)) 0x61 (req k (writing n w3 w4 w5 w6)) [] 1
      ∧ (req k (writing n w3 w4 w5 w6)).operand 2 = n.toNat
      ∧ ((byteAt (req k (writing n w3 w4 w5 w6)).data 3 ++ byteAt (req k (writing n w3 w4 w5 w6)).data 4)
          ++ byteAt (req k (writing n w3 w4 w5 w6)).data 5) ++ byteAt (req k (writing n w3 w4 w5 w6)).data 6
        = ((w3 ++ w4) ++ w5) ++ w6)
    ∧ TimersFollow (with_ .s3 (writing 0x20 0 0 0 49)) ∧ TimersFollow (with_ .s0 (writing 0x1C 0 0 0 49))
    ∧ settingOfNumber 0x39 = none ∧ (settingOfNumber 0x01 = some .behaviourRevision ∧ settingClass .behaviourRevision = .fixed)
    ∧ (¬ MayWrite (with_ .s0 (writing 0x20 0 0 0 49)) .s0 .attachDebounce
      ∧ MayWrite (with_ .s3 (writing 0x20 0 0 0 49)) .s3 .attachDebounce
      ∧ MayWrite (with_ .s0 (writing 0x1C 0 0 0 49)) .s0 (.refreshWindow .s0)
      ∧ ¬ MayWrite (with_ .s0 (writing 0x1D 0 0 0 49)) .s0 (.refreshWindow .s1))
    ∧ (settingClass .retryLimit = .setup ∧ closed.setup.open_ = false ∧ TimersFollow closed
      ∧ heldWindow.setup.open_ = true ∧ heldWindow.setup.holder = some .s0 ∧ Slot.s0 ≠ .s3 ∧ TimersFollow heldWindow)
    ∧ (settingClass .attachDebounce = .runtime ∧ settingRange .attachDebounce = some (50, 1000))
    ∧ WindowLets serving .s3 ∧ WindowLets heldWindow .s0 :=
  ⟨fun _ _ _ _ _ _ => ⟨asked _ _ _ rfl (Nat.le_refl 8), rfl, rfl⟩, timers _ (by decide +kernel), timers _ (by decide +kernel),
   by decide +kernel, by decide +kernel,
   ⟨mayNot _ _ _ (by decide +kernel), .inl (by decide +kernel), .inr (.inl rfl), mayNot _ _ _ (by decide +kernel)⟩,
   ⟨rfl, rfl, timers _ (by decide +kernel), rfl, rfl, by decide, timers _ (by decide +kernel)⟩, by decide +kernel,
   ⟨rfl, .inl rfl⟩, rfl, .inr rfl⟩

/-- SERVING with two or more entries of slot 0 behind the request. -/
def queued (k : Slot) (bytes : List Byte) (n : Nat) : State :=
  { serving with port := { serving.port with intake := req k bytes :: List.replicate n (req .s0 [0x22]) } }
theorem witness_SettingWriteDecided_quota : ∀ n ∈ [1, 2],
    Takes (queued .s3 (writing 0x14 0 0 0 0) n) 0x61 (req .s3 (writing 0x14 0 0 0 0))
        (List.replicate n (req .s0 [0x22])) 1
      ∧ TimersFollow (queued .s3 (writing 0x14 0 0 0 0) n) ∧ settingOfNumber 0x14 = some (.intakeQuota .s0)
      ∧ ((List.replicate n (req .s0 [0x22])).filter fun x => x.slot == .s0).length = n := by
  intro n hn
  simp only [List.mem_cons, List.not_mem_nil, or_false] at hn
  obtain rfl | rfl := hn <;>
    exact ⟨⟨⟨rfl, by decide, rfl, rfl, rfl, by decide⟩, by decide, rfl⟩, timers _ (by decide +kernel), by decide +kernel⟩

theorem witness_SlotWordWritten :
    (∀ x ∈ [(0x10 : Byte), 0x60, 0x50, 0xFF], Takes (with_ .s3 (writing 0x10 0 2 0 x)) 0x61 (req .s3 (writing 0x10 0 2 0 x)) [] 1
      ∧ settingOfNumber ((req .s3 (writing 0x10 0 2 0 x)).operand 2) = some (.slotWord .s0)
      ∧ (with_ .s3 (writing 0x10 0 2 0 x)).hasRight .s3 .settings = true ∧ WindowLets (with_ .s3 (writing 0x10 0 2 0 x)) .s3
      ∧ TimersFollow (with_ .s3 (writing 0x10 0 2 0 x)))
    ∧ ((0x00800060 : Word32) &&& 0xFF80FC00 ≠ 0 ∧ (0x007F03FF : Word32) &&& 0xFF80FC00 = 0)
    ∧ (Slot.s1 ≠ .s0 ∧ serving.tag .s1 = 0x51) ∧ (∀ j, j ≠ Slot.s0 → serving.tag j ≠ 0x60)
    ∧ (Slot.s0 ≠ .s3 ∧ serving.setup.holder ≠ some .s0 ∧ (∀ c ∈ serving.claims, c.holder ≠ .s0)
      ∧ serving.accessOutstanding .s0 = 0) := by
  refine ⟨?_, by decide +kernel, by decide +kernel, everySlot (by decide +kernel), by decide +kernel⟩
  intro x hx
  simp only [List.mem_cons, List.not_mem_nil, or_false] at hx
  obtain rfl | rfl | rfl | rfl := hx <;>
    exact ⟨asked _ _ _ rfl (Nat.le_refl 8), by decide +kernel, by decide +kernel, ⟨rfl, .inl rfl⟩, timers _ (by decide +kernel)⟩

theorem witness_FieldWriteReplacesBits :
    (∀ start size v5 v6 v7, Takes (with_ .s3 [0x62, 1, 0x20, start, size, v5, v6, v7]) 0x62
        (req .s3 [0x62, 1, 0x20, start, size, v5, v6, v7]) [] 1
      ∧ (req .s3 [0x62, 1, 0x20, start, size, v5, v6, v7]).operand 3 = start.toNat
      ∧ (req .s3 [0x62, 1, 0x20, start, size, v5, v6, v7]).operand 4 = size.toNat
      ∧ (req .s3 [0x62, 1, 0x20, start, size, v5, v6, v7]).operand 7 = v7.toNat)
    ∧ TimersFollow (with_ .s3 [0x62, 1, 0x20, 8, 24, 0, 0, 0])
    ∧ (settingOfNumber 0x20 = some .attachDebounce ∧ settingClass .attachDebounce = .runtime
      ∧ settingRange .attachDebounce = some (50, 1000)) ∧ MayWrite (with_ .s3 [0x62, 1, 0x20, 8, 24, 0, 0, 0]) .s3 .attachDebounce
    ∧ (∀ b, b < 32 → (0x0000012D : Word32).getLsbD b = if 0 ≤ b ∧ b < 0 + 1 then (1 : Nat).testBit (b - 0)
        else (serving.settings.get .attachDebounce).getLsbD b)
    ∧ (∀ n k start size v5 v6 v7, Takes (with_ k [0x62, 1, n, start, size, v5, v6, v7]) 0x62
        (req k [0x62, 1, n, start, size, v5, v6, v7]) [] 1
      ∧ (req k [0x62, 1, n, start, size, v5, v6, v7]).operand 2 = n.toNat)
    ∧ (settingOfNumber 0x39 = none ∧ settingOfNumber 0x02 = some .identifierBlock ∧ settingOfNumber 0x10 = some (.slotWord .s0)
      ∧ settingOfNumber 0x14 = some (.intakeQuota .s0) ∧ settingOfNumber 0x1B = some (.noticeRouting .s3)) :=
  ⟨fun _ _ _ _ _ => ⟨asked _ _ _ rfl (Nat.le_refl 8), rfl, rfl, rfl⟩, timers _ (by decide +kernel), by decide +kernel,
   .inl (by decide +kernel), by decide +kernel, fun _ _ _ _ _ _ _ => ⟨asked _ _ _ rfl (Nat.le_refl 8), rfl⟩, by decide +kernel⟩

theorem witness_SetupWindowClosesAndNoticesRoute :
    (∀ s ∈ [serving, closed, heldWindow], Takes (asking s (req .s3 [0x63, 1])) 0x63 (req .s3 [0x63, 1]) [] 1)
    ∧ closed.setup.open_ = false ∧ (heldWindow.setup.open_ = true ∧ heldWindow.setup.holder = some .s0 ∧ Slot.s0 ≠ .s3)
    ∧ WindowLets (asking serving (req .s3 [0x63, 1])) .s3
    ∧ (serving.comb.heldInReset = false ∧ serving.setup.deadlineSince = some 0)
    ∧ (∀ b, Takes (with_ .s1 [0x64, 1, b]) 0x64 (req .s1 [0x64, 1, b]) [] 1 ∧ byteAt (req .s1 [0x64, 1, b]).data 2 = b)
    ∧ (serving.tag .s3 ≠ 0xFF ∧ (serving.settings.noticeRouting.get .s3).getLsbD 6 = true ∧ serving.port.deferred = []
      ∧ serving.settings.noticeReserve.toNat + 4 < 24 - serving.port.report.length)
    ∧ (0x7F : Byte).getLsbD 7 = false ∧ (0x80 : Byte).getLsbD 7 = true := by
  refine ⟨?_, rfl, by decide +kernel, ⟨rfl, .inl rfl⟩, by decide +kernel,
    fun _ => ⟨asked _ _ _ rfl (Nat.le_refl 8), rfl⟩, by decide +kernel, by decide +kernel⟩
  intro s h
  simp only [List.mem_cons, List.not_mem_nil, or_false] at h
  obtain rfl | rfl | rfl := h <;> exact taken _ _ _ _ _ (by decide +kernel)

theorem witness_NoticeQueuedOrDropped :
    (crowded 0 0 17).tag .s3 ≠ 0xFF
    ∧ ((crowded 0 0 17).settings.noticeRouting.get .s3).getLsbD (noticeKindCode .combination - 1) = true
    ∧ ((crowded 0 0 17).settings.noticeRouting.get .s1).getLsbD (noticeKindCode .combination - 1) = true
    ∧ ((crowded 0 0 17).settings.noticeRouting.get .s1).getLsbD (noticeKindCode .verdict - 1) = false
    ∧ ((crowded 0 0 17).port.deferred = []
      ∧ (crowded 0 0 17).settings.noticeReserve.toNat < 24 - (crowded 0 0 17).port.report.length)
    ∧ 24 - (crowded 0 0 18).port.report.length ≤ (crowded 0 0 18).settings.noticeReserve.toNat
    ∧ (List.replicate 7 (0 : Byte)).length ≤ 7 := by decide +kernel

/-- The Report Queue full, and the response of a LAMP-SET and of a superseded ACTUATE waiting. -/
def waitingResponse : State :=
  { crowded 0 0 24 with
    port := { (crowded 0 0 24).port with
      deferred := [⟨.s0, 0x10, 1, .done, false, [0x0D, 0x00]⟩, ⟨.s2, 0x40, 2, .superseded, false, []⟩] } }
theorem witness_PortTransmitsAndWaits :
    ((crowded 0 0 1).comb.heldInReset = false ∧ (crowded 0 0 1).port.report = ⟨0, []⟩ :: [] ∧ (crowded 0 0 1).port.busOff = false
      ∧ (crowded 0 0 1).port.deferred = [])
    ∧ ((crowded 0 0 24).port.report = ⟨0, []⟩ :: List.replicate 23 ⟨0, []⟩
      ∧ (List.replicate 23 (⟨0, []⟩ : Frame)).length < 24)
    ∧ (waitingResponse.comb.heldInReset = false ∧ waitingResponse.port.busOff = false
      ∧ waitingResponse.port.report = ⟨0, []⟩ :: List.replicate 23 ⟨0, []⟩
      ∧ waitingResponse.port.deferred = ⟨.s0, 0x10, 1, .done, false, [0x0D, 0x00]⟩ :: [⟨.s2, 0x40, 2, .superseded, false, []⟩]
      ∧ ([0x0D, 0x00] : List Byte).length ≤ 4 ∧ ([] : List Byte).length ≤ 4)
    ∧ (Takes (with_ .s3 [0x7F, 1]) 0x7F (req .s3 [0x7F, 1]) [] 1 ∧ (with_ .s3 [0x7F, 1]).hasRight .s3 .resets = true)
    ∧ (Takes (with_ .s0 [0x7F, 1]) 0x7F (req .s0 [0x7F, 1]) [] 1 ∧ (with_ .s0 [0x7F, 1]).hasRight .s0 .resets = false) :=
  ⟨by decide +kernel, by decide +kernel, by decide +kernel, ⟨asked _ _ _ rfl (Nat.le_refl 8), by decide +kernel⟩,
   asked _ _ _ rfl (Nat.le_refl 8), by decide +kernel⟩

/-! Laws that every step keeps: a state that is not the reset state obeys them, and steps -/

theorem witness_StepKeepsStoresLawful : StoresLawful serving ∧ ∃ t, step serving = .next t :=
  ⟨{ report := by decide, intake := by decide, cache := by decide, claims := by decide, counters := by decide
     quotas := everySlot (by decide +kernel), accesses := ⟨by decide +kernel, everySlot (by decide +kernel)⟩
     ranges := by
      intro n lo hi h
      cases n <;> first
        | cases h; exact .inl (by decide +kernel)
        | (simp [settingRange] at h; done)
        | (rename_i k; cases k <;> cases h <;> first
            | exact .inl (by decide +kernel)
            | exact .inr ⟨⟨_, rfl⟩, by decide +kernel⟩)
     fields := by
      intro n
      cases n <;> first
        | decide +kernel
        | (rename_i k; cases k <;> decide +kernel)
     fixed := by decide +kernel
     tags := by
      intro j k
      cases j <;> cases k <;> decide +kernel }, _, rfl⟩
theorem witness_StepKeepsSwitchLaw : SwitchesFollow (lit serving .fog) ∧ ∃ t, step (lit serving .fog) = .next t :=
  ⟨everyLine (by decide +kernel), _, rfl⟩
theorem witness_StepKeepsTimers : TimersFollow serving ∧ ∃ t, step serving = .next t := ⟨timers _ (by decide +kernel), _, rfl⟩
theorem witness_StepKeepsFlags : FlagsFollow serving ∧ ∃ t, step serving = .next t :=
  ⟨⟨by decide +kernel, by decide +kernel⟩, _, rfl⟩
theorem witness_StepKeepsStates : StatesFollow serving ∧ ∃ t, step serving = .next t :=
  ⟨⟨by decide +kernel, by decide +kernel, by decide +kernel, by decide +kernel⟩, _, rfl⟩

/-- SERVING with the two units, a claim whose command waits, and a request and the answer to a poll to come. -/
def busy : State :=
  { claimed (calling serving (received (.poll 2 0) [] 1)) { claim 1 1 .momentary with entry := some .waiting } with
    line := { (calling serving (received (.poll 2 0) [] 1)).line with urgent := [run] }
    pending := [.answerFrameComplete (answerBytes 0x30 [0x02, 0x58])] }
theorem busyWalk : WalkLawful busy where
  positions := by decide +kernel
  six := by decide +kernel
  identities := by decide +kernel
  outside := fun _ h => absurd rfl h
  one := by decide +kernel
  active h := by cases h
  idle _ := ⟨by decide +kernel, by decide +kernel, fun _ h => by cases h⟩
  lawful _ h := by cases h
  settled _ := by decide +kernel
  owed _ h := by cases h
  call t h := by
    cases h
    exact ⟨rfl, by decide +kernel, fun e => by cases e⟩
  urgent := by decide +kernel
  access := by decide +kernel
  claims := by decide +kernel
  reports p _ h := by simp [inPositionSet, busy, claimed, calling, serving, Walker.idle] at h
theorem busyStates : StatesFollow busy := ⟨by decide +kernel, by decide +kernel, by decide +kernel, by decide +kernel⟩
theorem witness_StepKeepsWalkLawful : StatesFollow busy ∧ WalkLawful busy ∧ ∃ t, step busy = .next t := ⟨busyStates, busyWalk, _, rfl⟩
theorem functionsLawful (fs : List FunctionEntry) (h : fs.Pairwise (fun f g => f.index < g.index)
    ∧ (∀ f ∈ fs, f.index ≤ 31) ∧ (∀ f ∈ fs, f.min < f.max)
    ∧ ∀ f ∈ fs, ∀ v ∈ f.value, f.min ≤ v.value ∧ v.value ≤ f.max) : FunctionsLawful fs := ⟨h.1, h.2.1, h.2.2.1, h.2.2.2⟩
theorem witness_StepKeepsPoolLawful : StatesFollow busy ∧ WalkLawful busy ∧ PoolLawful busy ∧ ∃ t, step busy = .next t :=
  ⟨busyStates, busyWalk, ⟨by decide +kernel, by
    intro u h
    change u ∈ [unitA, unitB] at h
    simp only [List.mem_cons, List.not_mem_nil, or_false] at h
    obtain rfl | rfl := h <;> exact functionsLawful _ (by decide +kernel),
   fun _ h => by cases h⟩, _, rfl⟩
theorem witness_StepKeepsClaimsLawful : StatesFollow busy ∧ WalkLawful busy ∧ ClaimsLawful busy ∧ ∃ t, step busy = .next t :=
  ⟨busyStates, busyWalk,
   { count := by decide +kernel, rising := by decide +kernel, queue := by decide +kernel, entries := by decide +kernel
     serving := fun c h => by
      change c ∈ [{ claim 1 1 .momentary with entry := some .waiting }] at h
      simp only [List.mem_cons, List.not_mem_nil, or_false] at h
      obtain rfl := h
      exact ⟨by decide +kernel, _, rfl, by decide +kernel⟩
     waiting := by decide +kernel, owned := by decide +kernel }, _, rfl⟩

end Sys2Proof.Tests
end

section
/-! PROOFS. The sensor polls (R131 to R134, R139): one entry of the Unit Table written, the subscriptions tested one slot after
another, and from these the two statements on the answer to a SENSE call. -/
namespace Sys2Proof.Machine

/-! ### One entry of the Unit Table written -/

/-- A search by key in a list where the elements with one key were changed and no key moved. -/
theorem find?_map_key {α : Type} (key : α → Nat) (f : α → α) (hf : ∀ a, key (f a) = key a) (k j : Nat) (l : List α) :
    (l.map fun a => if key a = k then f a else a).find? (fun a => key a == j)
      = if j = k then (l.find? fun a => key a == j).map f else l.find? fun a => key a == j := by
  induction l with
  | nil => simp
  | cons a l ih =>
    have hkey : key (if key a = k then f a else a) = key a := by split <;> simp [hf]
    rw [List.map_cons, List.find?_cons, List.find?_cons, hkey]
    by_cases ha : key a = j
    · simp only [ha, beq_self_eq_true]
      split <;> simp
    · simpa only [beq_eq_false_iff_ne.mpr ha] using ih

theorem State.unitAt_modifyUnit (s : State) (p q : Nat) {f : UnitRecord → UnitRecord} (hf : ∀ u, (f u).position = u.position) :
    (s.modifyUnit p f).unitAt q = if q = p then (s.unitAt q).map f else s.unitAt q :=
  find?_map_key UnitRecord.position f hf p q s.units

theorem State.unitAt_modifyEntry_ne (s : State) {p q : Nat} (h : q ≠ p) (i : Nat) (f : FunctionEntry → FunctionEntry) :
    (s.modifyEntry p i f).unitAt q = s.unitAt q := by
  rw [State.modifyEntry, State.unitAt_modifyUnit, if_neg h]
  exact fun _ => rfl

theorem State.entryAt_modifyEntry (s : State) (p i : Nat) {f : FunctionEntry → FunctionEntry} (hf : ∀ e, (f e).index = e.index) :
    (s.modifyEntry p i f).entryAt p i = (s.entryAt p i).map f := by
  have hentry (u : UnitRecord) :
      ({ u with functions := u.functions.map fun e => if e.index = i then f e else e } : UnitRecord).entry i
        = (u.entry i).map f :=
    (find?_map_key FunctionEntry.index f hf i i u.functions).trans (if_pos rfl)
  rw [State.entryAt, State.modifyEntry, State.unitAt_modifyUnit, if_pos rfl, State.entryAt]
  · cases s.unitAt p with
    | none => rfl
    | some u => exact hentry u
  · exact fun _ => rfl

@[simp] theorem State.offerNotice_unitAt (s : State) (n : NoticeKind) (k : Slot) (d : List Byte) (q : Nat) :
    (s.offerNotice n k d).unitAt q = s.unitAt q := by simp [State.unitAt]

@[simp] theorem State.offerNotice_entryAt (s : State) (n : NoticeKind) (k : Slot) (d : List Byte) (p i : Nat) :
    (s.offerNotice n k d).entryAt p i = s.entryAt p i := by simp [State.entryAt]

theorem State.entryAt_writeValue {s : State} {p i : Nat} {f : FunctionEntry} (hf : s.entryAt p i = some f) (w : ValueRecord) :
    (s.writeValue p i w).entryAt p i = some { f with value := some w } := by
  rw [State.writeValue, State.entryAt_modifyEntry, hf]
  · rfl
  · exact fun _ => rfl

/-! ### The room for notices -/

/-- How many notices the Report Queue still takes (R162, R171). -/
def Outbox.room (o : Outbox) (s : State) : Nat :=
  if o.deferred = [] then 24 - o.report.length - s.settings.noticeReserve.toNat else 0

theorem State.noticeRoom_iff_room (s : State) : s.noticeRoom = true ↔ 0 < s.outbox.room s := by
  rw [State.noticeRoom_true, Outbox.room]
  by_cases h : s.outbox.deferred = []
  · rw [if_pos h]
    simp only [h, true_and]
    omega
  · simp [h]

/-- A routed notice takes one frame of the room, or finds none and leaves none. -/
theorem Outbox.room_offer (o : Outbox) {s : State} {kind : NoticeKind} {k : Slot} (h : s.noticeFor kind k = true)
    (content : List Byte) : (o.offer s kind k content).room s = o.room s - 1 := by
  have hrouted := mt (s.noticeFor_false kind k).mpr (by simp [h])
  rw [Outbox.offer, if_neg hrouted]
  by_cases hroom : o.deferred = [] ∧ s.settings.noticeReserve.toNat < 24 - o.report.length
  · rw [if_pos hroom]
    simp only [Outbox.room, Outbox.send, hroom.1, List.length_append, List.length_singleton, if_true]
    omega
  · rw [if_neg hroom]
    by_cases hd : o.deferred = []
    · have hfull : ¬ s.settings.noticeReserve.toNat < 24 - o.report.length := fun hlt => hroom ⟨hd, hlt⟩
      simp only [Outbox.room, if_pos hd]
      omega
    · simp only [Outbox.room, if_neg hd]

/-! ### The change notices of one entry (R139) -/

/-- The content of a SENSE notice: position, index, value, quality (11.2). -/
def senseContent (p i : Nat) (v : ValueRecord) : List Byte :=
  [byteOf p, byteOf i] ++ bytesSigned v.value ++ [byteOf (qualityCode v.quality)]

/-- The entry after its last notified value has moved for these slots. -/
def FunctionEntry.told (f : FunctionEntry) (ks : List Slot) (value : Int) : FunctionEntry :=
  { f with subs := f.subs.map fun k x => if k ∈ ks then x.map fun b => { b with lastNotified := value } else x }

/-- The test of one slot on an entry: its subscription passes and it routes SENSE. -/
def State.notifies (s : State) (f : FunctionEntry) (before : Quality) (v : ValueRecord) (k : Slot) : Bool :=
  ((f.subs.get k).any fun b => changeTest b before v.quality v.value) && s.noticeFor .sense k

theorem changeTest_eq_passes (b : Subscription) (before after : Quality) (value : Int) :
    changeTest b before after value = Passes b before after value := by
  have hdelta : b.delta ≤ (value - b.lastNotified).natAbs ↔ (b.delta : Int) ≤ |value - b.lastNotified| := by
    rw [Int.abs_eq_natAbs, Nat.cast_le]
  simp only [changeTest, Passes, hdelta, bne, beq_eq_decide, decide_not]

theorem State.toNotify_eq (s : State) (f : FunctionEntry) (before : Quality) (v : ValueRecord) :
    s.toNotify f before v.quality v.value = allSlots.filter (s.notifies f before v) := by
  have hroutes (k : Slot) : s.noticeFor .sense k
      = (decide (s.tag k ≠ 0xFF) && (s.settings.noticeRouting.get k).getLsbD 5) := by
    simp only [State.noticeFor, State.slotEmpty, emptyTag, beq_eq_decide, decide_not]
    rfl
  refine congrArg (allSlots.filter ·) (funext fun k => ?_)
  rw [State.notifies, hroutes, ← Bool.and_assoc]
  cases f.subs.get k with
  | none => rfl
  | some b => simp only [Option.any_some, changeTest_eq_passes]

/-- Entries that differ in their subscriptions alone are equal once each slot's subscription is. -/
theorem FunctionEntry.subs_ext (f : FunctionEntry) {x y : PerSlot (Option Subscription)} (h : ∀ k, x.get k = y.get k) :
    ({ f with subs := x } : FunctionEntry) = { f with subs := y } :=
  congrArg (fun z => ({ f with subs := z } : FunctionEntry)) (PerSlot.ext_get h)

@[simp] theorem FunctionEntry.told_nil (f : FunctionEntry) (value : Int) : f.told [] value = f :=
  f.subs_ext fun k => by simp

theorem FunctionEntry.told_subs (f : FunctionEntry) (ks : List Slot) (value : Int) (k : Slot) :
    (f.told ks value).subs.get k
      = if k ∈ ks then (f.subs.get k).map fun b => { b with lastNotified := value } else f.subs.get k := by
  simp [FunctionEntry.told]

theorem FunctionEntry.told_cons (f : FunctionEntry) (k : Slot) (ks : List Slot) (value : Int) :
    (f.told [k] value).told ks value = f.told (k :: ks) value := by
  refine f.subs_ext fun j => ?_
  simp only [PerSlot.get_map, FunctionEntry.told, List.mem_cons, List.not_mem_nil, or_false]
  by_cases hk : j = k <;> by_cases hks : j ∈ ks <;> simp [hk, hks, Function.comp_def]

theorem FunctionEntry.told_subs_ne (f : FunctionEntry) {j k : Slot} (h : j ≠ k) (n : Nat) (value : Int) :
    (f.told ([k].take n) value).subs.get j = f.subs.get j := by
  rw [FunctionEntry.told_subs, if_neg fun hj => h (List.mem_singleton.mp (List.mem_of_mem_take hj))]

/-- Telling the first slot and then the others, while the room lasts. -/
theorem FunctionEntry.told_take (f : FunctionEntry) (k : Slot) (ks : List Slot) (n : Nat) (value : Int) :
    (f.told ([k].take n) value).told (ks.take (n - 1)) value = f.told ((k :: ks).take n) value := by
  cases n with
  | zero => simp
  | succ n => simp [FunctionEntry.told_cons]

theorem FunctionEntry.told_singleton {f : FunctionEntry} {k : Slot} {b : Subscription} (h : f.subs.get k = some b) (value : Int) :
    f.told [k] value = { f with subs := f.subs.set k (some { b with lastNotified := value }) } := by
  refine f.subs_ext fun j => ?_
  by_cases hj : j = k
  · simp [hj, h]
  · simp [hj]

/-- A slot's test reads the settings and its own subscription alone. -/
theorem State.notifies_congr {s u : State} (hset : u.settings = s.settings) {f g : FunctionEntry} {k : Slot}
    (h : g.subs.get k = f.subs.get k) (before : Quality) (v : ValueRecord) :
    u.notifies g before v k = s.notifies f before v k := by
  simp only [State.notifies, h, State.noticeFor, State.slotEmpty, State.tag, State.routes, hset]

theorem State.testSubscription_silent {s : State} {p i : Nat} {f : FunctionEntry} {v : ValueRecord} {before : Quality} {k : Slot}
    (hf : s.entryAt p i = some f) (hv : f.value = some v) (h : s.notifies f before v k = false) :
    State.testSubscription p i before s k = s := by
  obtain ⟨index, code, cls, min, max, poll, value, subs⟩ := f
  obtain rfl : value = some v := hv
  simp only [State.testSubscription, hf]
  cases hb : subs.get k with
  | none => rfl
  | some b =>
    simp only [State.notifies, hb, Option.any_some] at h
    simp [h]

/-- A slot whose test passes is offered the notice, and its last notified value moves where the notice is queued (R139). -/
theorem State.testSubscription_told {s : State} {p i : Nat} {f : FunctionEntry} {v : ValueRecord} {before : Quality} {k : Slot}
    (hf : s.entryAt p i = some f) (hv : f.value = some v) (h : s.notifies f before v k = true) :
    (State.testSubscription p i before s k).outbox = s.outbox.offer s .sense k (senseContent p i v)
      ∧ (State.testSubscription p i before s k).entryAt p i
        = some (f.told ([k].take (s.outbox.room s)) v.value) := by
  have hsent := s.offerNotice_outbox .sense k (senseContent p i v) (by simp [senseContent, bytesSigned, bytesOfWord16, bytes16])
  obtain ⟨index, code, cls, min, max, poll, value, subs⟩ := f
  obtain rfl : value = some v := hv
  obtain ⟨b, hb⟩ : ∃ b, subs.get k = some b := by
    cases hb : subs.get k with
    | none => simp [State.notifies, hb] at h
    | some b => exact ⟨b, rfl⟩
  have htest : (changeTest b before v.quality v.value && s.noticeFor .sense k) = true := by
    simpa only [State.notifies, hb, Option.any_some] using h
  simp only [State.testSubscription, hf, hb, htest, if_true]
  cases hr : s.noticeRoom with
  | false =>
    have hfull : s.outbox.room s = 0 := Nat.eq_zero_of_not_pos fun hpos => by simp [s.noticeRoom_iff_room.mpr hpos] at hr
    exact ⟨hsent, by simpa [hfull] using hf⟩
  | true =>
    refine ⟨hsent, ?_⟩
    rw [List.take_of_length_le (s.noticeRoom_iff_room.mp hr), if_pos rfl, State.entryAt_modifyEntry, State.offerNotice_entryAt, hf]
    · exact congrArg some (FunctionEntry.told_singleton hb v.value).symm
    · exact fun _ => rfl

/-- The tests of a row of slots: those that pass are offered the notice in turn, and as many of them as the room takes are told. -/
theorem State.testRow (p i : Nat) (before : Quality) (v : ValueRecord) (ks : List Slot) : ∀ (s : State) (f : FunctionEntry),
    ks.Nodup → s.entryAt p i = some f → f.value = some v →
    (ks.foldl (State.testSubscription p i before) s).outbox
        = (ks.filter (s.notifies f before v)).foldl (fun o k => o.offer s .sense k (senseContent p i v)) s.outbox
      ∧ (ks.foldl (State.testSubscription p i before) s).entryAt p i
        = some (f.told ((ks.filter (s.notifies f before v)).take (s.outbox.room s)) v.value) := by
  induction ks with
  | nil => exact fun s f _ hf _ => ⟨rfl, by simpa using hf⟩
  | cons k ks ih =>
    intro s f hnodup hf hv
    obtain ⟨hk, hks⟩ := List.nodup_cons.mp hnodup
    rw [List.foldl_cons]
    cases hn : s.notifies f before v k with
    | false =>
      rw [State.testSubscription_silent hf hv hn, List.filter_cons_of_neg (by simp [hn])]
      exact ih s f hks hf hv
    | true =>
      obtain ⟨hsent, hentry⟩ := State.testSubscription_told (before := before) hf hv hn
      have hset : (State.testSubscription p i before s k).settings = s.settings := by simp
      have hroom : (State.testSubscription p i before s k).outbox.room (State.testSubscription p i before s k)
          = s.outbox.room s - 1 := by
        have hrouted : s.noticeFor .sense k = true := (Bool.and_eq_true_iff.mp hn).2
        rw [hsent, ← s.outbox.room_offer hrouted, Outbox.room, Outbox.room, hset]
      rw [List.filter_cons_of_pos hn]
      generalize State.testSubscription p i before s k = u at hsent hentry hset hroom
      have hoffers (o : Outbox) (ns : List Slot) : ns.foldl (fun o k => o.offer u .sense k (senseContent p i v)) o
          = ns.foldl (fun o k => o.offer s .sense k (senseContent p i v)) o := by
        simp only [Outbox.offer_settings hset]
      have hrest : ks.filter (u.notifies (f.told ([k].take (s.outbox.room s)) v.value) before v)
          = ks.filter (s.notifies f before v) :=
        List.filter_congr fun j hj => State.notifies_congr hset
          (FunctionEntry.told_subs_ne f (ne_of_mem_of_not_mem hj hk) _ v.value) before v
      obtain ⟨hout, hent⟩ := ih u _ hks hentry hv
      rw [hrest, hroom, FunctionEntry.told_take] at hent
      rw [hrest, hoffers, hsent] at hout
      exact ⟨hout, hent⟩

/-- A value record written and the subscriptions tested: the entry holds the record, and the notices are those of R139, read in a
state `s` that owes the same frames under the same settings. -/
theorem State.changeNotices_of_written {s u : State} (hset : u.settings = s.settings) (hbox : u.outbox = s.outbox) {p i : Nat}
    {f : FunctionEntry} (hf : u.entryAt p i = some f) (before : Quality) (w : ValueRecord) :
    ∃ g, ((u.writeValue p i w).testSubscriptions p i before).entryAt p i = some g ∧ g.value = some w
      ∧ { g with value := f.value, subs := f.subs } = f
      ∧ ChangeNotices s ((u.writeValue p i w).testSubscriptions p i before) p i f g before w.quality w.value := by
  obtain ⟨hout, hent⟩ := State.testRow p i before w allSlots (u.writeValue p i w) { f with value := some w } (by decide)
    (State.entryAt_writeValue hf w) rfl
  have hsettings : (u.writeValue p i w).settings = s.settings := hset
  have hnotify : allSlots.filter ((u.writeValue p i w).notifies { f with value := some w } before w)
      = s.toNotify f before w.quality w.value := by
    rw [State.toNotify_eq]
    exact List.filter_congr fun k _ => State.notifies_congr hsettings rfl before w
  have hroom : (u.writeValue p i w).outbox.room (u.writeValue p i w) = s.outbox.room s := by
    have hwritten : (u.writeValue p i w).outbox = s.outbox := hbox
    rw [hwritten, Outbox.room, Outbox.room, hsettings]
  rw [hnotify] at hout
  rw [hnotify, hroom] at hent
  refine ⟨_, hent, rfl, rfl, ?_, fun k => FunctionEntry.told_subs _ _ _ k⟩
  refine hout.trans ?_
  simp only [Outbox.offer_settings hsettings]
  exact congrArg (fun o => List.foldl _ o _) hbox

/-! ### The answer to a poll -/

/-- The part as a good answer's outcome is handed on: counted, the line free, the flags handed to their owners (R31). -/
def State.heard (s : State) (p : Nat) (status : Byte) : State := ((s.count .answersGood).setTx none).handFlags p status

section
variable (s : State) (p : Nat) (status : Byte)

@[simp] theorem State.heard_now : (s.heard p status).now = s.now := by simp [State.heard]
@[simp] theorem State.heard_settings : (s.heard p status).settings = s.settings := by simp [State.heard]
@[simp] theorem State.heard_line : (s.heard p status).line = { s.line with tx := none } := by simp [State.heard, State.setTx]
@[simp] theorem State.heard_counters :
    (s.heard p status).counters = { s.counters with answersGood := bumped s.counters.answersGood } := by
  simp [State.heard, State.count, Counters.bump]
@[simp] theorem State.heard_unitAt (q : Nat) : (s.heard p status).unitAt q = s.unitAt q := by simp [State.heard, State.unitAt]
@[simp] theorem State.heard_entryAt (i : Nat) : (s.heard p status).entryAt p i = s.entryAt p i := by simp [State.entryAt]
@[simp] theorem State.heard_outbox : (s.heard p status).outbox = s.outbox := by
  rw [State.outbox, State.heard_counters]
  simp [State.outbox, State.heard]
@[simp] theorem State.heard_pollInterval (c : PollClass) : (s.heard p status).pollInterval c = s.pollInterval c := by
  cases c <;> simp [State.pollInterval, State.setting]

/-- A unit of generation A has no flags to hand on (R31). -/
theorem State.heard_walker_genA {v : UnitRecord} (hv : s.unitAt p = some v) (hg : v.generation = .a) :
    (s.heard p status).walker = s.walker := by
  have hv' : ((s.count .answersGood).setTx none).unitAt p = some v := hv
  simp [State.heard, State.handFlags, hv', hg]
end

/-- The payload length of the answer to a SENSE call (11.3). -/
def senseLength : Generation → Nat
  | .a => 1
  | .b => 2

theorem admittedLengths_sense (g : Generation) : admittedLengths .sense .accept (some g) = [senseLength g] := by
  cases g <;> rfl

theorem State.judgeContent_sense_accepted {s : State} {t : Transaction} {v : UnitRecord} {status : Byte} {payload : List Byte}
    (hk : t.kind = .sense) (hv : s.unitAt t.target = some v)
    (h : answerResult status = .accept ∧ payload.length = senseLength v.generation) :
    s.judgeContent t status payload = some (.accept, payload) := by
  obtain ⟨hres, hlen⟩ := h
  simp [State.judgeContent, hk, hv, hres, hlen, admittedLengths_sense]

theorem State.judgeContent_sense_other {s : State} {t : Transaction} {v : UnitRecord} {status : Byte} {payload : List Byte}
    (hk : t.kind = .sense) (hv : s.unitAt t.target = some v)
    (h : ¬ (answerResult status = .accept ∧ payload.length = senseLength v.generation)) (d : List Byte) :
    s.judgeContent t status payload ≠ some (.accept, d) := by
  intro hj
  cases hres : answerResult status with
  | accept =>
    have hlen : payload.length ≠ senseLength v.generation := fun e => h ⟨hres, e⟩
    simp [State.judgeContent, hk, hv, hres, hlen, admittedLengths_sense] at hj
  | decline | inhibit | unknownKind => simp [State.judgeContent, hres] at hj

theorem State.handOutcome_poll_accepted {t : Transaction} {p i : Nat} (ho : t.originator = .poll p i) (s : State)
    (status : Byte) (payload : List Byte) :
    s.handOutcome t status (some (.accept, payload)) = s.pollAnswered p i payload (answerSensorFault status) := by
  rw [State.handOutcome, ho]

theorem State.handOutcome_poll_other {t : Transaction} {p i : Nat} (ho : t.originator = .poll p i) (s : State) (status : Byte)
    {answer : Option (AnswerResult × List Byte)} (h : ∀ payload, answer ≠ some (.accept, payload)) :
    s.handOutcome t status answer = s.pollUnanswered p i := by
  rw [State.handOutcome, ho]
  rcases answer with _ | ⟨result, payload⟩
  · rfl
  · cases result with
    | accept => exact absurd rfl (h payload)
    | decline | inhibit | unknownKind => rfl

/-- The two readings of a SENSE answer (R133, R134). -/
def senseReading (g : Generation) (f : FunctionEntry) (held : Int) (payload : List Byte) (fault : Bool) : Int × Quality :=
  match g with
  | .a => readGenA f held (natOfBytes payload) fault
  | .b => readGenB f held (signedOf payload) fault

/-- A value record as an answered poll leaves it (R132). -/
def polledValue (s : State) (c : PollClass) (reading : Int × Quality) : ValueRecord :=
  { value := reading.1, quality := reading.2, answeredAt := s.now, nextDue := some (s.now + s.pollInterval c) }

/-- The answer to the SENSE call of a poll is awaited: of a unit, of one of its sensor entries (R131). -/
structure AwaitsPoll (s : State) (t : Transaction) (since p i : Nat) (unit : UnitRecord) (f : FunctionEntry) (v : ValueRecord)
    (c : PollClass) : Prop where
  receives : Receives s t since []
  originator : t.originator = .poll p i
  kind : t.kind = .sense
  target : t.target = p
  unitAt : s.unitAt p = some unit
  entryAt : s.entryAt p i = some f
  value : f.value = some v
  poll : f.poll = some c

theorem State.pollAnswered_eq {s : State} {p i : Nat} {unit : UnitRecord} {f : FunctionEntry} {v : ValueRecord} {c : PollClass}
    (hu : s.unitAt p = some unit) (hf : s.entryAt p i = some f) (hv : f.value = some v) (hc : f.poll = some c)
    (payload : List Byte) (fault : Bool) :
    s.pollAnswered p i payload fault
      = (s.writeValue p i (polledValue s c (senseReading unit.generation f v.value payload fault))).testSubscriptions p i
          v.quality := by
  simp only [State.pollAnswered, hu, hf, hv, State.entryInterval, hc]
  cases unit.generation <;> rfl

theorem State.pollUnanswered_eq {s : State} {p i : Nat} {f : FunctionEntry} {v : ValueRecord} {c : PollClass}
    (hf : s.entryAt p i = some f) (hv : f.value = some v) (hc : f.poll = some c) :
    s.pollUnanswered p i = s.writeValue p i { v with nextDue := some (s.now + s.pollInterval c) } := by
  simp only [State.pollUnanswered, hf, hv, State.entryInterval, hc]

@[simp] theorem State.testSubscriptions_unitAt_ne {q p : Nat} (h : q ≠ p) (s : State) (i : Nat) (before : Quality) :
    (s.testSubscriptions p i before).unitAt q = s.unitAt q := by
  refine foldl_keeps (fun t => State.unitAt t q) _ (fun t k => ?_) _ _
  unfold State.testSubscription
  repeat' split
  all_goals simp [State.unitAt_modifyEntry_ne _ h]

/-! ### What a poll's outcome leaves alone -/

/-- The parts that no poll's outcome changes. -/
def pollFrame : List Part :=
  [.now, .comb, .sense, .cache, .lamps, .flash, .claims, .slots, .settings, .setup, .portIn, .pending]

theorem Keeps.mono {ps qs : List Part} {s u : State} (h : Keeps qs s u) (hsub : ∀ x ∈ ps, x ∈ qs) : Keeps ps s u :=
  fun x hx => h x (hsub x hx)

theorem State.pollAnswered_frame (s : State) (p i : Nat) (status : Byte) (payload : List Byte) (fault : Bool) :
    Keeps pollFrame s ((s.heard p status).pollAnswered p i payload fault) := by
  intro x hx
  cases x with
  | slots => exact slots_same (by simp [State.heard])
  | portIn => exact portIn_same (by simp [State.heard])
  | now | comb | sense | cache | lamps | flash | claims | settings | setup | pending => simp [Part.same, State.heard]
  | line | walker | units | counters | missed | portOut => simp [pollFrame] at hx

theorem State.pollUnanswered_frame (s : State) (p i : Nat) (status : Byte) :
    Keeps (.missed :: .portOut :: pollFrame) s ((s.heard p status).pollUnanswered p i) := by
  intro x hx
  cases x with
  | slots => exact slots_same (by simp [State.heard])
  | portIn => exact portIn_same (by simp [State.heard])
  | now | comb | sense | cache | lamps | flash | claims | settings | setup | pending | portOut => simp [Part.same, State.heard]
  | missed => simp [Part.same, State.heard, State.missed]
  | line | walker | units | counters => simp [pollFrame] at hx

/-! ### The two outcomes -/

section
variable {s : State} {t : Transaction} {since p i : Nat} {unit : UnitRecord} {f : FunctionEntry} {v : ValueRecord} {c : PollClass}
  {status : Byte} {payload : List Byte}

/-- The answer to a poll is an event that touches neither state nor flags: its outcome and the next work (R31, R33). -/
theorem AwaitsPoll.exec_answer (h : AwaitsPoll s t since p i unit f v c) (hl : payload.length ≤ 8)
    {u : State} (hu : (s.heard p status).handOutcome t status (s.judgeContent t status payload) = u) (hcomb : u.comb = s.comb) :
    exec (.answerFrameComplete (answerBytes status payload)) s = .next u.resumed := by
  have hrun : s.receiveBytes (answerBytes status payload) = u.lineWork := by
    rw [State.receiveBytes_answer h.receives.inFlight h.receives.waiting hl, h.target, ← hu]
    rfl
  refine event_quiet (f := (·.receiveBytes _)) h.receives.running hrun ?_
  have hwork : u.lineWork.comb = s.comb := by rw [State.lineWork_comb, hcomb]
  simp only [State.combSummary, State.combFlags, hwork]

/-- A poll answered ACCEPT (R132 to R134, R139). -/
theorem AwaitsPoll.accepted (h : AwaitsPoll s t since p i unit f v c)
    (ha : answerResult status = .accept ∧ payload.length = senseLength unit.generation) :
    ∃ u g, exec (.answerFrameComplete (answerBytes status payload)) s = .next u.resumed
      ∧ u.line = { s.line with tx := none }
      ∧ u.entryAt p i = some g
      ∧ g.value = some (polledValue s c (senseReading unit.generation f v.value payload (answerSensorFault status)))
      ∧ { g with value := f.value, subs := f.subs } = f
      ∧ (∀ w, g.value = some w → ChangeNotices s u p i f g v.quality w.quality w.value)
      ∧ (∀ q, q ≠ p → u.unitAt q = s.unitAt q)
      ∧ u.counters.answersGood = bumped s.counters.answersGood
      ∧ Keeps pollFrame s u ∧ (unit.generation = .a → u.walker = s.walker) := by
  have hl : payload.length ≤ 8 := by
    rw [ha.2]
    cases unit.generation <;> decide
  have houtcome : (s.heard p status).handOutcome t status (s.judgeContent t status payload)
      = (s.heard p status).pollAnswered p i payload (answerSensorFault status) := by
    rw [State.judgeContent_sense_accepted h.kind (h.target ▸ h.unitAt) ha, State.handOutcome_poll_accepted h.originator]
  have hentry : (s.heard p status).entryAt p i = some f := by rw [State.heard_entryAt, h.entryAt]
  have hwritten := State.pollAnswered_eq (s := s.heard p status) (by rw [State.heard_unitAt, h.unitAt]) hentry h.value h.poll
    payload (answerSensorFault status)
  have hvalue (r : Int × Quality) : polledValue (s.heard p status) c r = polledValue s c r := by
    simp only [polledValue, State.heard_now, State.heard_pollInterval]
  rw [hvalue] at hwritten
  obtain ⟨g, hg, hgv, hgf, hnotices⟩ := State.changeNotices_of_written (s.heard_settings p status) (s.heard_outbox p status)
    hentry v.quality (polledValue s c (senseReading unit.generation f v.value payload (answerSensorFault status)))
  rw [← hwritten] at hg hnotices
  refine ⟨_, g, h.exec_answer hl houtcome (by simp [State.heard]), by simp, hg, hgv, hgf, ?_, ?_, ?_,
    State.pollAnswered_frame s p i status _ _, ?_⟩
  · intro w hw
    obtain rfl := Option.some.inj (hgv.symm.trans hw)
    exact hnotices
  · intro q hq
    rw [hwritten, State.testSubscriptions_unitAt_ne hq, State.writeValue, State.unitAt_modifyEntry_ne _ hq, State.heard_unitAt]
  · have htallies := congrArg Counters.answersGood
      ((s.heard p status).pollAnswered_tallies p i payload (answerSensorFault status))
    exact htallies.trans (congrArg Counters.answersGood (s.heard_counters p status))
  · intro ha
    rw [State.pollAnswered_walker, State.heard_walker_genA s p status h.unitAt ha]

/-- A poll answered otherwise (R132). -/
theorem AwaitsPoll.other (h : AwaitsPoll s t since p i unit f v c) (hl : payload.length ≤ 8)
    (ha : ¬ (answerResult status = .accept ∧ payload.length = senseLength unit.generation)) :
    ∃ u, exec (.answerFrameComplete (answerBytes status payload)) s = .next u.resumed
      ∧ u.line = { s.line with tx := none }
      ∧ u.entryAt p i = some { f with value := some { v with nextDue := some (s.now + s.pollInterval c) } }
      ∧ (∀ q, q ≠ p → u.unitAt q = s.unitAt q)
      ∧ u.counters = { s.counters with answersGood := bumped s.counters.answersGood }
      ∧ Keeps (.missed :: .portOut :: pollFrame) s u ∧ (unit.generation = .a → u.walker = s.walker) := by
  have houtcome : (s.heard p status).handOutcome t status (s.judgeContent t status payload)
      = (s.heard p status).pollUnanswered p i :=
    State.handOutcome_poll_other h.originator _ _ (State.judgeContent_sense_other h.kind (h.target ▸ h.unitAt) ha)
  have hentry : (s.heard p status).entryAt p i = some f := by rw [State.heard_entryAt, h.entryAt]
  have hwritten := State.pollUnanswered_eq hentry h.value h.poll
  refine ⟨_, h.exec_answer hl houtcome (by simp [State.heard]), by simp, ?_, ?_, by simp, State.pollUnanswered_frame s p i status, ?_⟩
  · rw [hwritten, State.entryAt_writeValue hentry, State.heard_pollInterval, State.heard_now]
  · intro q hq
    rw [hwritten, State.writeValue, State.unitAt_modifyEntry_ne _ hq, State.heard_unitAt]
  · intro ha
    rw [State.pollUnanswered_walker, State.heard_walker_genA s p status h.unitAt ha]
end

/-! ### The readings in the terms of the manual -/

/-- The reading of a generation-A byte as R133 gives it. -/
theorem senseReading_genA (f : FunctionEntry) (held : Int) (raw : Byte) (fault : Bool) :
    senseReading .a f held [raw] fault
      = (if raw = 255 ∨ fault = true then held else f.min + (raw.toNat : Int) * (f.max - f.min) / 254,
         if raw = 255 ∨ fault = true then .sensorFault else .good) := by
  have hraw : natOfBytes [raw] = raw.toNat := by simp [natOfBytes]
  have hfull : raw.toNat = 255 ↔ raw = 255 := by rw [← BitVec.toNat_inj]; rfl
  simp only [senseReading, readGenA, hraw, hfull, scaleGenA]
  split <;> rfl

/-- The reading of two generation-B bytes as R134 gives it. -/
theorem senseReading_genB (f : FunctionEntry) (held : Int) (high low : Byte) (fault : Bool) :
    senseReading .b f held [high, low] fault
      = (if fault = true then held
          else if (high ++ low).toInt < f.min then f.min
          else if f.max < (high ++ low).toInt then f.max
          else (high ++ low).toInt,
         if fault = true then .sensorFault
          else if (high ++ low).toInt < f.min ∨ f.max < (high ++ low).toInt then .clamped
          else .good) := by
  have hraw : signedOf [high, low] = (high ++ low).toInt := by
    have hword : word16Of [high, low] = high ++ low := by
      refine BitVec.eq_of_toNat_eq ?_
      have hlow : low.toNat < 2 ^ 8 := low.isLt
      have hhigh : high.toNat < 2 ^ 8 := high.isLt
      rw [BitVec.toNat_append, ← Nat.shiftLeft_add_eq_or_of_lt hlow, Nat.shiftLeft_eq]
      simp only [word16Of, natOfBytes, List.foldl_cons, List.foldl_nil, BitVec.toNat_ofNat]
      omega
    rw [signedOf, hword]
  simp only [senseReading, readGenB, hraw]
  split
  · rfl
  · split
    · simp [*]
    · split <;> simp [*]

/-! ### The obligations -/

/-- Settles O25: the outcome of an accepted poll with the reading of R133, and of any other. -/
theorem genAPollWritesValue : Obligations.GenAPollWritesValue := by
  intro s t since p i unit f v c hr ho hk ht hu hg hf hv hc
  have h : AwaitsPoll s t since p i unit f v c := ⟨hr, ho, hk, ht, hu, hf, hv, hc⟩
  refine ⟨fun status raw hres => ?_, fun status payload hl hother => ?_⟩
  · obtain ⟨u, g, hexec, hline, hent, hval, hframe, hnotices, hothers, hgood, hkeeps, hwalker⟩ :=
      h.accepted (payload := [raw]) ⟨hres, by rw [hg]; rfl⟩
    rw [hg, senseReading_genA] at hval
    exact ⟨u, g, hexec, hline, hent, hval, hframe, hnotices, hothers, hgood,
      (keeps_cons (p := .walker) (hwalker hg) hkeeps).mono (by decide)⟩
  · obtain ⟨u, hexec, hline, hent, hothers, hgood, hkeeps, hwalker⟩ := h.other hl (by rwa [hg])
    exact ⟨u, hexec, hline, hent, hothers, hgood, (keeps_cons (p := .walker) (hwalker hg) hkeeps).mono (by decide)⟩

/-- Settles O26: the outcome of an accepted poll with the reading of R134, and of any other. -/
theorem genBPollWritesValue : Obligations.GenBPollWritesValue := by
  intro s t since p i unit f v c hr ho hk ht hu hg hf hv hc
  have h : AwaitsPoll s t since p i unit f v c := ⟨hr, ho, hk, ht, hu, hf, hv, hc⟩
  refine ⟨fun status high low hres => ?_, fun status payload hl hother => ?_⟩
  · obtain ⟨u, g, hexec, hline, hent, hval, hframe, hnotices, hothers, hgood, hkeeps, -⟩ :=
      h.accepted (payload := [high, low]) ⟨hres, by rw [hg]; rfl⟩
    rw [hg, senseReading_genB] at hval
    exact ⟨u, g, hexec, hline, hent, hval, hframe, hnotices, hothers, hgood, hkeeps⟩
  · obtain ⟨u, hexec, hline, hent, hothers, hgood, hkeeps, -⟩ := h.other hl (by rwa [hg])
    exact ⟨u, hexec, hline, hent, hothers, hgood, hkeeps.mono (by decide)⟩

end Sys2Proof.Machine
end

section
/-! PROOFS. One step and its commands: what a property has to survive so that every step keeps it, and the commands that move
nothing but the vehicle port, the settings, the setup window and the counters. -/
namespace Sys2Proof.Machine

/-! ### From a step to a command -/

/-- What the queue of waiting commands and an idle millisecond leave alone, and every command keeps, every step keeps. -/
theorem step_keeps {P : State → Prop} (hqueue : ∀ s q, P s → P { s with pending := q }) (htick : ∀ s, P s → P s.tick)
    (hexec : ∀ c s t, P s → exec c s = .next t → P t) {s t : State} (hs : P s) (h : step s = .next t) : P t := by
  unfold step at h
  split at h
  · exact hexec _ _ t (hqueue s _ hs) h
  · obtain rfl := Host.Outcome.next.inj h
    exact htick s hs

theorem next_keeps {P : State → Prop} {a t : State} (ha : P a) (h : (Host.Outcome.next a : Result) = .next t) : P t := by
  obtain rfl := Host.Outcome.next.inj h
  exact ha

theorem powered_keeps {P : State → Prop} {f : State → State} {s t : State} (hs : P s)
    (hf : s.comb.heldInReset = false → P (f s)) (h : powered f s = .next t) : P t := by
  cases hr : s.comb.heldInReset with
  | true => exact next_keeps hs ((powered_held hr).symm.trans h)
  | false => exact next_keeps (hf hr) ((powered_running hr).symm.trans h)

theorem event_keeps {P : State → Prop} {f : State → State} {s t : State} (hs : P s)
    (hf : s.comb.heldInReset = false → P (((f s).retimeAttach.retimePark).announce s)) (h : event f s = .next t) : P t := by
  cases hr : s.comb.heldInReset with
  | true => exact next_keeps hs ((event_held hr).symm.trans h)
  | false => exact next_keeps (hf hr) ((event_running hr).symm.trans h)

/-! ### The taking of a request (R161) -/

/-- The state a request is decided in: its entry gone from the intake, REQUESTS-TAKEN counted. -/
def State.taken (s : State) (rest : List IntakeEntry) : State :=
  State.count { s with port := { s.port with intake := rest } } .requestsTaken

section
variable (s : State) (rest : List IntakeEntry)
@[simp] theorem State.taken_now : (s.taken rest).now = s.now := rfl
@[simp] theorem State.taken_comb : (s.taken rest).comb = s.comb := rfl
@[simp] theorem State.taken_sense : (s.taken rest).sense = s.sense := rfl
@[simp] theorem State.taken_line : (s.taken rest).line = s.line := rfl
@[simp] theorem State.taken_walker : (s.taken rest).walker = s.walker := rfl
@[simp] theorem State.taken_units : (s.taken rest).units = s.units := rfl
@[simp] theorem State.taken_cache : (s.taken rest).cache = s.cache := rfl
@[simp] theorem State.taken_lamps : (s.taken rest).lamps = s.lamps := rfl
@[simp] theorem State.taken_flash : (s.taken rest).flash = s.flash := rfl
@[simp] theorem State.taken_claims : (s.taken rest).claims = s.claims := rfl
@[simp] theorem State.taken_slots : (s.taken rest).slots = s.slots := rfl
@[simp] theorem State.taken_settings : (s.taken rest).settings = s.settings := rfl
@[simp] theorem State.taken_setup : (s.taken rest).setup = s.setup := rfl
@[simp] theorem State.taken_port : (s.taken rest).port = { s.port with intake := rest } := rfl
@[simp] theorem State.taken_pending : (s.taken rest).pending = s.pending := rfl
end

/-- The head of the intake is taken, or it stays (R161). -/
theorem State.takeHead_cases (s : State) (wanted : IntakeEntry → Bool) :
    s.takeHead wanted = none
    ∨ ∃ e rest, s.port.intake = e :: rest ∧ s.takesRequests = true ∧ wanted e = true ∧ s.framesNeeded e ≤ s.freeFrames
        ∧ s.takeHead wanted = some (e, { s with port := { s.port with intake := rest } }) := by
  unfold State.takeHead
  split
  · exact .inl rfl
  · next e rest hi =>
    split
    · next hc =>
      simp only [Bool.and_eq_true, decide_eq_true_eq] at hc
      exact .inr ⟨e, rest, hi, hc.1.1, hc.1.2, hc.2, rfl⟩
    · exact .inl rfl

theorem State.taking_cases (s : State) (wanted : IntakeEntry → Bool) (d : IntakeEntry → State → State) :
    s.taking wanted d = s
    ∨ ∃ e rest, s.port.intake = e :: rest ∧ s.takesRequests = true ∧ wanted e = true ∧ s.framesNeeded e ≤ s.freeFrames
        ∧ s.taking wanted d = d e (s.taken rest) := by
  obtain h | ⟨e, rest, hi, ht, hw, hf, h⟩ := s.takeHead_cases wanted
  · exact .inl (by simp [State.taking, h])
  · exact .inr ⟨e, rest, hi, ht, hw, hf, by simp [State.taking, h, State.taken]⟩

theorem taking_keeps {P : State → Prop} {s : State} {wanted : IntakeEntry → Bool} {d : IntakeEntry → State → State} (hs : P s)
    (hd : ∀ e rest, s.port.intake = e :: rest → wanted e = true → s.framesNeeded e ≤ s.freeFrames → P (d e (s.taken rest))) :
    P (s.taking wanted d) := by
  obtain h | ⟨e, rest, hi, -, hw, hf, h⟩ := s.taking_cases wanted d
  · rwa [h]
  · rewrite [h]
    exact hd e rest hi hw hf

/-! ### The request sets -/

/-- The request sets of the slots (R93). -/
def State.requestSets (s : State) : PerSlot Byte := s.slots.map fun _ x => x.requestSet

theorem requestSets_of_inlets {s t : State} (h : t.inlets = s.inlets) : t.requestSets = s.requestSets :=
  congrArg (fun x => x.1.map fun _ y => y.requestSet) h

theorem requestSets_get (s : State) (k : Slot) : s.requestSets.get k = (s.slots.get k).requestSet := by
  simp [State.requestSets]

theorem requestedBy_of_requestSets {s t : State} (h : t.requestSets = s.requestSets) :
    requestedBy t.slots = requestedBy s.slots := by
  have hk (k : Slot) : (t.slots.get k).requestSet = (s.slots.get k).requestSet := by
    rw [← requestSets_get, ← requestSets_get, h]
  unfold requestedBy
  rewrite [show t.slots.s0.requestSet = _ from hk .s0, show t.slots.s1.requestSet = _ from hk .s1,
    show t.slots.s2.requestSet = _ from hk .s2, show t.slots.s3.requestSet = _ from hk .s3]
  rfl

theorem requested_of_requestSets {s t : State} (h : t.requestSets = s.requestSets) (l : Line) :
    t.requested l = s.requested l := by
  simp only [State.requested, requestedBy_of_requestSets h]

/-! ### The entry to PARKED (R15) -/

/-- What the entry to PARKED writes of the state that the drop leaves. -/
def State.parkedFrom (s d : State) : State :=
  let t := d.clearAgreement fun _ => true
  { t with
    comb := { t.comb with recordedAttach := s.attached, parkSince := none, entryWaiting := false }
    sense := { t.sense with
      nextSample := none, nextSelfWake := some (s.now + Config.selfWakePeriod)
      parkedPlug := s.sense.plugClosed
      parkedLines := s.lamps.map fun _ x => x.verdict.presence } }

theorem State.enterParked_eq (s : State) : s.enterParked = s.parkedFrom (s.drop .parked) := rfl

/-! ### The commands of the port -/

/-- Nothing has moved but the port, the missed flags, the settings, the setup window, the counters and the clock. -/
structure Undisturbed (s t : State) : Prop where
  comb : t.comb = s.comb
  sense : t.sense = s.sense
  line : t.line = s.line
  walker : t.walker = s.walker
  units : t.units = s.units
  cache : t.cache = s.cache
  lamps : t.lamps = s.lamps
  flash : t.flash = s.flash
  claims : t.claims = s.claims
  requests : t.requestSets = s.requestSets

theorem Undisturbed.refl (s : State) : Undisturbed s s := ⟨rfl, rfl, rfl, rfl, rfl, rfl, rfl, rfl, rfl, rfl⟩

theorem Undisturbed.trans {s t u : State} (h : Undisturbed s t) (k : Undisturbed t u) : Undisturbed s u :=
  ⟨k.comb.trans h.comb, k.sense.trans h.sense, k.line.trans h.line, k.walker.trans h.walker, k.units.trans h.units,
    k.cache.trans h.cache, k.lamps.trans h.lamps, k.flash.trans h.flash, k.claims.trans h.claims,
    k.requests.trans h.requests⟩

theorem undisturbed_answer (s : State) (e : IntakeEntry) (st : Status) (d : List Byte) (b : Bool) :
    Undisturbed s (s.answer e st d b) :=
  ⟨rfl, rfl, rfl, rfl, rfl, rfl, rfl, rfl, rfl, requestSets_of_inlets (by simp)⟩

theorem undisturbed_taken (s : State) (rest : List IntakeEntry) : Undisturbed s (s.taken rest) :=
  ⟨rfl, rfl, rfl, rfl, rfl, rfl, rfl, rfl, rfl, rfl⟩

theorem undisturbed_port (s : State) (x : Port) : Undisturbed s { s with port := x } :=
  ⟨rfl, rfl, rfl, rfl, rfl, rfl, rfl, rfl, rfl, rfl⟩

theorem undisturbed_setup (s : State) (x : SetupWindow) : Undisturbed s { s with setup := x } :=
  ⟨rfl, rfl, rfl, rfl, rfl, rfl, rfl, rfl, rfl, rfl⟩

theorem undisturbed_reach (s : State) (x : Nat) : Undisturbed s (s.reach x) :=
  ⟨rfl, rfl, rfl, rfl, rfl, rfl, rfl, rfl, rfl, rfl⟩

theorem undisturbed_storeWord (s : State) (n : Setting) (w : Word32) : Undisturbed s (s.storeWord n w) :=
  ⟨rfl, rfl, rfl, rfl, rfl, rfl, rfl, rfl, rfl, rfl⟩

theorem undisturbed_cleared (s : State) (rest : List IntakeEntry) :
    Undisturbed s (State.count { s with port := { s.port with intake := rest }, counters := .zero } .requestsTaken) :=
  ⟨rfl, rfl, rfl, rfl, rfl, rfl, rfl, rfl, rfl, rfl⟩

theorem undisturbed_offerAll (s : State) (n : NoticeKind) (d : List Byte) : Undisturbed s (s.offerAll n d) := by
  constructor
  case requests => exact requestSets_of_inlets (by simp)
  all_goals simp

theorem undisturbed_serveDeferred (s : State) : Undisturbed s s.serveDeferred := by
  constructor
  case requests => exact requestSets_of_inlets (by simp)
  all_goals simp

theorem undisturbed_closeWindow (s : State) (cause : SetupCause) : Undisturbed s (s.closeWindow cause) :=
  (undisturbed_setup s _).trans (undisturbed_offerAll _ _ _)

theorem undisturbed_queueDump (s : State) (e : IntakeEntry) (b : Counters) : Undisturbed s (s.queueDump e b) := by
  constructor
  case requests =>
    exact requestSets_of_inlets (by simp only [State.queueDump, State.answer_inlets, State.queueFrame_inlets])
  all_goals simp only [State.queueDump, State.answer_comb, State.queueFrame_comb, State.answer_sense, State.queueFrame_sense,
    State.answer_line, State.queueFrame_line, State.answer_walker, State.queueFrame_walker, State.answer_units,
    State.queueFrame_units, State.answer_cache, State.queueFrame_cache, State.answer_lamps, State.queueFrame_lamps,
    State.answer_flash, State.queueFrame_flash, State.answer_claims, State.queueFrame_claims]

theorem undisturbed_taking {s : State} {w : IntakeEntry → Bool} {d : IntakeEntry → State → State}
    (hd : ∀ e u, Undisturbed u (d e u)) : Undisturbed s (s.taking w d) :=
  taking_keeps (P := Undisturbed s) (.refl s) fun e rest _ _ _ => (undisturbed_taken s rest).trans (hd e _)

theorem undisturbed_powered {f : State → State} {s t : State} (hf : Undisturbed s (f s)) (h : powered f s = .next t) :
    Undisturbed s t := powered_keeps (P := Undisturbed s) (.refl s) (fun _ => hf) h

/-- The commands that move nothing but the port, the settings, the setup window and the counters. -/
inductive PortCommand : Instr → Prop
  | combinationRead : PortCommand .combinationRead
  | unitRead : PortCommand .unitRead
  | functionRead : PortCommand .functionRead
  | verdictRead : PortCommand .verdictRead
  | senseRead : PortCommand .senseRead
  | refusedFormat : PortCommand .refusedFormat
  | refusedUnknown : PortCommand .refusedUnknown
  | settingRead : PortCommand .settingRead
  | partStatusRead : PortCommand .partStatusRead
  | countersDump : PortCommand .countersDump
  | countersDumpReset : PortCommand .countersDumpReset
  | fullReset : PortCommand .fullReset
  | setupClose : PortCommand .setupClose
  | setupDeadlineExpiry : PortCommand .setupDeadlineExpiry
  | noticeRoute : PortCommand .noticeRoute
  | frameTransmitted : PortCommand .frameTransmitted
  | busOffEntry : PortCommand .busOffEntry
  | busOffExit : PortCommand .busOffExit

theorem PortCommand.undisturbed {c : Instr} (hc : PortCommand c) {s t : State} (h : exec c s = .next t) :
    Undisturbed s t := by
  cases hc with
  | combinationRead | refusedFormat | refusedUnknown =>
    dsimp only [exec, execCombinationRead, execRefusedFormat, execRefusedUnknown] at h
    exact undisturbed_powered (undisturbed_taking fun e u => undisturbed_answer u e _ _ _) h
  | unitRead | functionRead | verdictRead | senseRead | settingRead | partStatusRead =>
    dsimp only [exec, execUnitRead, execFunctionRead, execVerdictRead, execSenseRead, execSettingRead, execPartStatusRead] at h
    refine undisturbed_powered (undisturbed_taking fun e u => ?_) h
    repeat' split
    all_goals exact undisturbed_answer u e _ _ _
  | countersDump =>
    dsimp only [exec, execCountersDump] at h
    refine undisturbed_powered ?_ h
    split
    · exact .refl s
    · next e u hu =>
      obtain hn | ⟨e', rest, -, -, -, -, hh⟩ := s.takeHead_cases (isRequest codeCountersDump)
      · simp [hn] at hu
      · obtain ⟨rfl, rfl⟩ : e' = e ∧ _ = u := by simpa [hh] using hu
        exact (undisturbed_taken s rest).trans (undisturbed_queueDump _ _ _)
  | countersDumpReset =>
    dsimp only [exec, execCountersDumpReset] at h
    refine undisturbed_powered ?_ h
    split
    · exact .refl s
    · next e u hu =>
      obtain hn | ⟨e', rest, -, -, -, -, hh⟩ := s.takeHead_cases (isRequest codeCountersDumpReset)
      · simp [hn] at hu
      · obtain ⟨rfl, rfl⟩ : e' = e ∧ _ = u := by simpa [hh] using hu
        split
        · exact (undisturbed_cleared s rest).trans (undisturbed_queueDump _ _ _)
        · exact (undisturbed_taken s rest).trans (undisturbed_answer _ _ _ _ _)
  | fullReset =>
    dsimp only [exec, execFullReset] at h
    refine undisturbed_powered (undisturbed_taking fun e u => ?_) h
    split
    · exact (undisturbed_answer u e .done _ _).trans (undisturbed_port _ _)
    · exact undisturbed_answer u e _ _ _
  | setupClose =>
    dsimp only [exec, execSetupClose] at h
    refine undisturbed_powered (undisturbed_taking fun e u => ?_) h
    repeat' split
    all_goals first
      | exact undisturbed_answer u e _ _ _
      | exact (undisturbed_answer u e _ _ _).trans (undisturbed_closeWindow _ _)
  | setupDeadlineExpiry =>
    dsimp only [exec, execSetupDeadlineExpiry] at h
    refine undisturbed_powered ?_ h
    split
    · exact (undisturbed_reach s _).trans (undisturbed_closeWindow _ _)
    · exact .refl s
  | noticeRoute =>
    dsimp only [exec, execNoticeRoute] at h
    refine undisturbed_powered (undisturbed_taking fun e u => ?_) h
    split
    · exact undisturbed_answer u e _ _ _
    · exact (undisturbed_storeWord u _ _).trans (undisturbed_answer _ e _ _ _)
  | frameTransmitted =>
    dsimp only [exec, execFrameTransmitted] at h
    refine undisturbed_powered ?_ h
    repeat' split
    · exact .refl s
    · exact .refl s
    · exact (undisturbed_port s _).trans (undisturbed_serveDeferred _)
  | busOffEntry =>
    dsimp only [exec, execBusOffEntry] at h
    refine undisturbed_powered ?_ h
    split
    · exact .refl s
    · exact ⟨rfl, rfl, rfl, rfl, rfl, rfl, rfl, rfl, rfl, rfl⟩
  | busOffExit =>
    dsimp only [exec, execBusOffExit] at h
    exact undisturbed_powered ⟨rfl, rfl, rfl, rfl, rfl, rfl, rfl, rfl, rfl, rfl⟩ h

end Sys2Proof.Machine
end

section
/-! PROOFS. The switch law of R97 and R106 over a step. -/
namespace Sys2Proof.Machine

/-- What the switch law reads is the same: switch, trip state and attempt count of each line, the Flash Generator, the request
sets. -/
structure SwitchesSame (s t : State) : Prop where
  lines : ∀ l, (t.lamps.get l).on = (s.lamps.get l).on ∧ (t.lamps.get l).trip = (s.lamps.get l).trip
    ∧ (t.lamps.get l).attempts = (s.lamps.get l).attempts
  flash : t.flash = s.flash
  requests : t.requestSets = s.requestSets

theorem SwitchesSame.refl (s : State) : SwitchesSame s s := ⟨fun _ => ⟨rfl, rfl, rfl⟩, rfl, rfl⟩

theorem SwitchesSame.trans {s t u : State} (h : SwitchesSame s t) (k : SwitchesSame t u) : SwitchesSame s u := by
  refine ⟨fun l => ?_, k.flash.trans h.flash, k.requests.trans h.requests⟩
  obtain ⟨h1, h2, h3⟩ := h.lines l
  obtain ⟨k1, k2, k3⟩ := k.lines l
  exact ⟨k1.trans h1, k2.trans h2, k3.trans h3⟩

theorem SwitchesFollow.of_same {s t : State} (h : SwitchesFollow s) (k : SwitchesSame s t) : SwitchesFollow t := by
  intro l
  obtain ⟨h1, h2⟩ := h l
  obtain ⟨k1, k2, k3⟩ := k.lines l
  rewrite [k1, k2, k3, k.flash, requested_of_requestSets k.requests l]
  exact ⟨h1, h2⟩

theorem SwitchesSame.of_fields {s t : State} (hl : t.lamps = s.lamps) (hf : t.flash = s.flash) (hi : t.inlets = s.inlets) :
    SwitchesSame s t := ⟨fun l => by rw [hl]; exact ⟨rfl, rfl, rfl⟩, hf, requestSets_of_inlets hi⟩

theorem Undisturbed.switchesSame {s t : State} (h : Undisturbed s t) : SwitchesSame s t :=
  ⟨fun l => by rw [h.lamps]; exact ⟨rfl, rfl, rfl⟩, h.flash, h.requests⟩

theorem switchesSame_taken (s : State) (rest : List IntakeEntry) : SwitchesSame s (s.taken rest) :=
  (undisturbed_taken s rest).switchesSame

theorem switchesSame_answer (s : State) (e : IntakeEntry) (st : Status) (d : List Byte) (b : Bool) :
    SwitchesSame s (s.answer e st d b) := (undisturbed_answer s e st d b).switchesSame

theorem SwitchesFollow.answer {s : State} (h : SwitchesFollow s) (e : IntakeEntry) (st : Status) (d : List Byte) (b : Bool) :
    SwitchesFollow (s.answer e st d b) := h.of_same (switchesSame_answer s e st d b)

theorem SwitchesFollow.closed {s : State} (h : SwitchesFollow s) (before : State) :
    SwitchesFollow ((s.retimeAttach.retimePark).announce before) := h.of_same (.of_fields (by simp) (by simp) (by simp))

/-- The effect of an event keeps the law: so does the event. -/
theorem SwitchesFollow.event {f : State → State} {s t : State} (hs : SwitchesFollow s) (hf : SwitchesFollow (f s))
    (h : event f s = .next t) : SwitchesFollow t := event_keeps hs (fun _ => hf.closed s) h

/-- A request taken as an event. -/
theorem SwitchesFollow.taking {w : IntakeEntry → Bool} {d : IntakeEntry → State → State} {s : State} (hs : SwitchesFollow s)
    (hd : ∀ e u, SwitchesFollow u → SwitchesFollow (d e u)) : SwitchesFollow (s.taking w d) :=
  taking_keeps hs fun e rest _ _ _ => hd e _ (hs.of_same (switchesSame_taken s rest))

/-! ### Where the law is made anew -/

@[simp] theorem LampLine.follow_on (x : LampLine) (l : Line) (want : Bool) (now : Nat) (b : Bool) :
    (x.follow l want now b).on = want := (x.follow_switched l want now b).1
@[simp] theorem LampLine.follow_trip (x : LampLine) (l : Line) (want : Bool) (now : Nat) (b : Bool) :
    (x.follow l want now b).trip = x.trip := by
  unfold LampLine.follow; repeat' split
  all_goals rfl
@[simp] theorem LampLine.follow_attempts (x : LampLine) (l : Line) (want : Bool) (now : Nat) (b : Bool) :
    (x.follow l want now b).attempts = x.attempts := by
  unfold LampLine.follow; repeat' split
  all_goals rfl
@[simp] theorem LampLine.follow_verdict (x : LampLine) (l : Line) (want : Bool) (now : Nat) (b : Bool) :
    (x.follow l want now b).verdict = x.verdict := by
  unfold LampLine.follow; repeat' split
  all_goals rfl

/-- The second half of the law, which the switches do not touch (R106). -/
def UnrequestedNormal (s : State) : Prop :=
  ∀ l, s.requested l = false → (s.lamps.get l).trip = .normal ∧ (s.lamps.get l).attempts = 0

/-- Every switch re-evaluated obeys the law (R97). -/
theorem switchesFollow_resolve {s : State} (h : UnrequestedNormal s) (b : Bool) : SwitchesFollow (s.resolveSwitches b) := by
  intro l
  have hr : (s.resolveSwitches b).requested l = s.requested l := rfl
  have hl : (s.resolveSwitches b).lamps.get l
      = (s.lamps.get l).follow l (switchLaw (s.requested l) (s.lamps.get l).trip s.flash l) s.now b := by
    simp [State.resolveSwitches]
  rewrite [hr, hl, State.resolveSwitches_flash]
  exact ⟨by simp, by simpa using h l⟩

/-- The request sets replaced: a line that nobody asks for any more returns to NORMAL with count 0 (R93, R106). -/
theorem SwitchesFollow.changeRequests {s : State} (h : SwitchesFollow s) (k : PerSlot SlotState) :
    SwitchesFollow (s.changeRequests k) := by
  refine switchesFollow_resolve (fun l hl => ?_) _
  have hafter : inLineSet (requestedBy k) l = false := hl
  simp only [PerLine.get_map, LampLine.requestChanged, hafter]
  by_cases hb : inLineSet (requestedBy s.slots) l = false
  · rewrite [if_pos hb]
    exact (h l).2 hb
  · rewrite [if_neg hb]
    exact ⟨rfl, rfl⟩

theorem SwitchesFollow.changeSlot {s : State} (h : SwitchesFollow s) (k : Slot) (x : SlotState) :
    SwitchesFollow (s.changeSlot k x) := h.changeRequests _

/-- A line that is requested changed, then every switch re-evaluated. -/
theorem SwitchesFollow.modified {s : State} (h : SwitchesFollow s) {l : Line} (hl : s.requested l = true)
    (f : LampLine → LampLine) (b : Bool) : SwitchesFollow ((s.modifyLine l f).resolveSwitches b) := by
  refine switchesFollow_resolve (fun j hj => ?_) b
  have hreq : s.requested j = false := hj
  have hne : j ≠ l := fun e => by rw [e, hl] at hreq; cases hreq
  simpa [State.modifyLine, hne] using (h j).2 hreq

theorem SwitchesFollow.requested_of_on {s : State} (h : SwitchesFollow s) {l : Line} (hl : (s.lamps.get l).on = true) :
    s.requested l = true := by
  rewrite [(h l).1] at hl
  simp only [switchLaw, Bool.and_eq_true] at hl
  exact hl.1.1

theorem SwitchesFollow.requested_of_trip {s : State} (h : SwitchesFollow s) {l : Line} (hl : (s.lamps.get l).trip ≠ .normal) :
    s.requested l = true := by
  cases hr : s.requested l with
  | true => rfl
  | false => exact absurd ((h l).2 hr).1 hl

/-! ### Verdicts and presences -/

/-- A line's record changed but for what the law reads. -/
theorem switchesSame_modifyLine (s : State) (l : Line) {f : LampLine → LampLine}
    (hf : ∀ x, (f x).on = x.on ∧ (f x).trip = x.trip ∧ (f x).attempts = x.attempts) : SwitchesSame s (s.modifyLine l f) := by
  refine ⟨fun j => ?_, rfl, rfl⟩
  by_cases hj : j = l
  · subst hj
    simpa [State.modifyLine] using hf (s.lamps.get j)
  · simp [State.modifyLine, hj]

theorem switchesSame_map (s : State) {f : Line → LampLine → LampLine}
    (hf : ∀ l x, (f l x).on = x.on ∧ (f l x).trip = x.trip ∧ (f l x).attempts = x.attempts) :
    SwitchesSame s { s with lamps := s.lamps.map f } :=
  ⟨fun l => by simpa using hf l (s.lamps.get l), rfl, rfl⟩

theorem switchesSame_verdictChanged (s : State) (l : Line) : SwitchesSame s (s.verdictChanged l) :=
  .of_fields (by simp) (by simp) (by simp)

theorem switchesSame_shortVerdict (s : State) (l : Line) (m : Option (Nat × Nat)) : SwitchesSame s (s.shortVerdict l m) := by
  have h := switchesSame_modifyLine s l (f := fun x => { x with verdict := (s.lamps.get l).verdict.short m })
    fun _ => ⟨rfl, rfl, rfl⟩
  unfold State.shortVerdict
  dsimp only
  split
  · exact h
  · exact h.trans (switchesSame_verdictChanged _ l)

theorem switchesSame_classified (s : State) (l : Line) (m u : Nat) : SwitchesSame s (s.classified l m u) := by
  have h := switchesSame_modifyLine s l
    (f := fun x => { x with verdict := (s.lamps.get l).verdict.debounce (s.figures l m u) }) fun _ => ⟨rfl, rfl, rfl⟩
  unfold State.classified
  dsimp only
  split
  · exact h
  · exact h.trans (switchesSame_verdictChanged _ l)

theorem switchesSame_noticeTrip (s : State) (l : Line) : SwitchesSame s (s.noticeTrip l) :=
  .of_fields (State.noticeTrip_lamps _ _) (State.noticeTrip_flash _ _) (State.noticeTrip_inlets _ _)

theorem SwitchesFollow.tripLine {s : State} (h : SwitchesFollow s) {l : Line} (hl : (s.lamps.get l).on = true)
    (m : Option (Nat × Nat)) : SwitchesFollow (s.tripLine l m) := by
  have h1 := h.modified (h.requested_of_on hl) (fun x => x.trip_ (s.setting .tripAttempts) s.now) false
  have h2 := (h1.of_same (switchesSame_shortVerdict _ l m)).of_same
    (t := State.count _ .trips) (.of_fields rfl rfl rfl)
  exact h2.of_same (switchesSame_noticeTrip _ l)

theorem switchesSame_setPresence (s : State) (l : Line) (p : Presence) : SwitchesSame s (s.setPresence l p) :=
  switchesSame_modifyLine s l fun _ => ⟨rfl, rfl, rfl⟩

/-- A requested line's record changed but for switch and trip state. -/
theorem SwitchesFollow.measured {s : State} (h : SwitchesFollow s) {l : Line} (hl : s.requested l = true)
    {f : LampLine → LampLine} (hf : ∀ x, (f x).on = x.on ∧ (f x).trip = x.trip) : SwitchesFollow (s.modifyLine l f) := by
  intro j
  have hreq : (s.modifyLine l f).requested j = s.requested j := rfl
  rewrite [hreq, State.modifyLine_flash]
  by_cases hj : j = l
  · subst hj
    have := hf (s.lamps.get j)
    simp only [State.modifyLine, PerLine.get_set_self, this, hl, reduceCtorEq, false_implies, and_true]
    simpa [hl] using (h j).1
  · simpa [State.modifyLine, hj] using h j

/-- A line as a measurement that does not trip it leaves it, but for its verdict: presence, attempt count, next instant (R101, R105,
R114, R115). -/
def State.presented (s : State) (l : Line) (m : Nat) : State :=
  (s.setPresence l (if s.setting .openThreshold ≤ m then .loaded else .open)).modifyLine l fun x =>
    { x.ranClear s.now with timing := timingAfter l s.now }

/-- A measurement trips its line, is skipped, or is classified (R113). -/
theorem State.measure_cases (s : State) (l : Line) (m u : Nat) :
    (Config.tripCurrent ≤ m ∧ s.measure l m u = (s.setPresence l .loaded).tripLine l (some (m, u)))
    ∨ (m < Config.tripCurrent ∧ (s.presented l m).skips u = true
        ∧ s.measure l m u = (s.presented l m).modifyLine l fun x => { x with verdict := { x.verdict with held := true } })
    ∨ (m < Config.tripCurrent ∧ (s.presented l m).skips u = false ∧ s.measure l m u = (s.presented l m).classified l m u) := by
  by_cases h : Config.tripCurrent ≤ m
  · exact .inl ⟨h, if_pos h⟩
  · refine .inr ?_
    have hm : s.measure l m u = if (s.presented l m).skips u
        then (s.presented l m).modifyLine l fun x => { x with verdict := { x.verdict with held := true } }
        else (s.presented l m).classified l m u := if_neg h
    rewrite [hm]
    cases hk : (s.presented l m).skips u with
    | true => exact .inl ⟨Nat.lt_of_not_le h, rfl, if_pos rfl⟩
    | false => exact .inr ⟨Nat.lt_of_not_le h, rfl, if_neg (by decide)⟩

theorem SwitchesFollow.presented {s : State} (h : SwitchesFollow s) {l : Line} (hl : (s.lamps.get l).on = true) (m : Nat) :
    SwitchesFollow (s.presented l m) := by
  have hp := h.of_same (switchesSame_setPresence s l (if s.setting .openThreshold ≤ m then .loaded else .open))
  refine hp.measured (hp.requested_of_on (((switchesSame_setPresence s l _).lines l).1.trans hl)) fun x => ?_
  unfold LampLine.ranClear
  repeat' split
  all_goals exact ⟨rfl, rfl⟩

theorem SwitchesFollow.measure {s : State} (h : SwitchesFollow s) {l : Line} (hl : (s.lamps.get l).on = true) (m u : Nat) :
    SwitchesFollow (s.measure l m u) := by
  obtain ⟨-, e⟩ | ⟨-, -, e⟩ | ⟨-, -, e⟩ := s.measure_cases l m u
  · rewrite [e]
    have hs := switchesSame_setPresence s l .loaded
    exact (h.of_same hs).tripLine ((hs.lines l).1.trans hl) _
  · rewrite [e]
    exact (h.presented hl m).of_same (switchesSame_modifyLine _ l fun _ => ⟨rfl, rfl, rfl⟩)
  · rewrite [e]
    exact (h.presented hl m).of_same (switchesSame_classified _ l m u)

end Sys2Proof.Machine
end

section
/-! PROOFS. The commands of the trailer side, which leave the lamps, the Flash Generator, the request sets and the inputs alone; with
them, every step keeps the switch law. -/
namespace Sys2Proof.Machine

/-- The lamp side of the part is the same. -/
structure LampsUntouched (s t : State) : Prop where
  lamps : t.lamps = s.lamps
  flash : t.flash = s.flash
  requests : t.requestSets = s.requestSets
  sense : t.sense = s.sense

theorem LampsUntouched.refl (s : State) : LampsUntouched s s := ⟨rfl, rfl, rfl, rfl⟩

theorem LampsUntouched.trans {s t u : State} (h : LampsUntouched s t) (k : LampsUntouched t u) : LampsUntouched s u :=
  ⟨k.lamps.trans h.lamps, k.flash.trans h.flash, k.requests.trans h.requests, k.sense.trans h.sense⟩

theorem LampsUntouched.of_fields {s t : State} (hl : t.lamps = s.lamps) (hf : t.flash = s.flash) (hi : t.inlets = s.inlets)
    (hs : t.sense = s.sense) : LampsUntouched s t := ⟨hl, hf, requestSets_of_inlets hi, hs⟩

theorem LampsUntouched.switchesSame {s t : State} (h : LampsUntouched s t) : SwitchesSame s t :=
  ⟨fun l => by rw [h.lamps]; exact ⟨rfl, rfl, rfl⟩, h.flash, h.requests⟩

theorem Undisturbed.lampsUntouched {s t : State} (h : Undisturbed s t) : LampsUntouched s t :=
  ⟨h.lamps, h.flash, h.requests, h.sense⟩

theorem lampsUntouched_answer (s : State) (e : IntakeEntry) (st : Status) (d : List Byte) (b : Bool) :
    LampsUntouched s (s.answer e st d b) := (undisturbed_answer s e st d b).lampsUntouched

theorem lampsUntouched_lineWork (s : State) : LampsUntouched s s.lineWork :=
  .of_fields (by simp) (by simp) (by simp) (by simp)

theorem lampsUntouched_event {f : State → State} {s t : State} (hf : LampsUntouched s (f s)) (h : event f s = .next t) :
    LampsUntouched s t :=
  event_keeps (.refl s) (fun _ => hf.trans (.of_fields (by simp) (by simp) (by simp) (by simp))) h

theorem lampsUntouched_powered {f : State → State} {s t : State} (hf : LampsUntouched s (f s)) (h : powered f s = .next t) :
    LampsUntouched s t := powered_keeps (.refl s) (fun _ => hf) h

theorem lampsUntouched_taking {s : State} {w : IntakeEntry → Bool} {d : IntakeEntry → State → State}
    (hd : ∀ e u, LampsUntouched u (d e u)) : LampsUntouched s (s.taking w d) :=
  taking_keeps (.refl s) fun e rest _ _ _ => (undisturbed_taken s rest).lampsUntouched.trans (hd e _)

theorem lampsUntouched_proceed (s : State) (c : Claim) (f : FunctionEntry) (cmd : Command) (e : IntakeEntry) :
    LampsUntouched s (s.proceed c f cmd e) := by
  cases cmd <;> exact .of_fields (by simp [State.proceed]) (by simp [State.proceed]) (by simp [State.proceed])
    (by simp [State.proceed])

theorem lampsUntouched_decideActuate (s : State) (e : IntakeEntry) (f : FunctionEntry) (cmd : Command) (p i : Nat) :
    LampsUntouched s (s.decideActuate e f cmd p i) := by
  unfold State.decideActuate
  repeat' split
  · exact LampsUntouched.trans (t := { s with claims := insertClaim (newClaim p i e.slot f.cls) s.claims })
      ⟨rfl, rfl, rfl, rfl⟩ ((lampsUntouched_proceed _ _ _ _ _).trans (lampsUntouched_lineWork _))
  · exact LampsUntouched.trans (t := s.count .requestsBusy) ⟨rfl, rfl, rfl, rfl⟩ (lampsUntouched_answer _ _ _ _ _)
  · exact lampsUntouched_answer _ _ _ _ _
  · exact (lampsUntouched_proceed _ _ _ _ _).trans (lampsUntouched_lineWork _)
  · exact lampsUntouched_answer _ _ _ _ _

theorem lampsUntouched_relinquish (s : State) (c : Claim) (b : Bool) : LampsUntouched s (s.relinquish c b) := by
  unfold State.relinquish
  split
  all_goals exact .of_fields (by simp) (by simp) (by simp) (by simp)

theorem lampsUntouched_requestAccess (s : State) (e : IntakeEntry) (k : AccessKind) :
    LampsUntouched s (s.requestAccess e k) := by
  unfold State.requestAccess
  repeat' split
  · exact lampsUntouched_answer _ _ _ _ _
  · exact lampsUntouched_answer _ _ _ _ _
  · exact lampsUntouched_answer _ _ _ _ _
  · exact LampsUntouched.trans (t := s.count .requestsBusy) ⟨rfl, rfl, rfl, rfl⟩ (lampsUntouched_answer _ _ _ _ _)
  · exact .of_fields (by simp) (by simp) (by simp; rfl) (by simp)

/-- The entry to BUILDING, before the line is given its first work (R10). -/
def State.startBuilding (s : State) (since : Nat) : State :=
  let t := (s.reach (since + s.setting .feedStartWait)).enter .building
  { t with
    comb := { t.comb with feedStartSince := none }
    walker := { t.walker with pointer := 1, active := true, offered := some .probe } }

/-- The commands of the trailer line, the sensors, the claims and the unit accesses. -/
inductive TrailerCommand : Instr → Prop
  | callSent : TrailerCommand .callSent
  | answerWindowExpiry : TrailerCommand .answerWindowExpiry
  | byteGapTimeout : TrailerCommand .byteGapTimeout
  | lengthByteError (bs : List Byte) : TrailerCommand (.lengthByteError bs)
  | answerFrameComplete (bs : List Byte) : TrailerCommand (.answerFrameComplete bs)
  | discardedByte (b : Byte) : TrailerCommand (.discardedByte b)
  | answerByteReceived (b : Byte) : TrailerCommand (.answerByteReceived b)
  | resyncGapEnd : TrailerCommand .resyncGapEnd
  | pollDue (p i : Nat) : TrailerCommand (.pollDue p i)
  | extensionTimerExpiry : TrailerCommand .extensionTimerExpiry
  | feedStartWaitExpiry : TrailerCommand .feedStartWaitExpiry
  | stalenessThreshold (p i : Nat) : TrailerCommand (.stalenessThreshold p i)
  | senseSubscribe : TrailerCommand .senseSubscribe
  | senseUnsubscribe : TrailerCommand .senseUnsubscribe
  | actuate : TrailerCommand .actuate
  | holdTimeExpiry (p i : Nat) : TrailerCommand (.holdTimeExpiry p i)
  | release : TrailerCommand .release
  | forceRelease : TrailerCommand .forceRelease
  | unitParamRead : TrailerCommand .unitParamRead
  | unitParamWrite : TrailerCommand .unitParamWrite

theorem TrailerCommand.lampsUntouched {c : Instr} (hc : TrailerCommand c) {s t : State} (h : exec c s = .next t) :
    LampsUntouched s t := by
  cases hc with
  | callSent =>
    dsimp only [exec, execCallSent] at h
    refine lampsUntouched_powered ?_ h
    repeat' split
    · exact ⟨rfl, rfl, rfl, rfl⟩
    · exact .refl s
    · exact .refl s
  | answerWindowExpiry | byteGapTimeout =>
    dsimp only [exec, execAnswerWindowExpiry, execByteGapTimeout] at h
    refine lampsUntouched_event ?_ h
    repeat' split
    · exact .of_fields (by simp) (by simp) (by simp) (by simp)
    · exact .refl s
    · exact .refl s
  | lengthByteError bs | answerFrameComplete bs | discardedByte b | answerByteReceived b =>
    dsimp only [exec, execLengthByteError, execAnswerFrameComplete, execDiscardedByte, execAnswerByteReceived] at h
    exact lampsUntouched_event (.of_fields (by simp) (by simp) (by simp) (by simp)) h
  | resyncGapEnd =>
    dsimp only [exec, execResyncGapEnd] at h
    refine lampsUntouched_powered ?_ h
    repeat' split
    · exact ⟨rfl, rfl, rfl, rfl⟩
    · exact LampsUntouched.trans (t := { s.reach _ with line := { s.line with gapSince := none } })
        ⟨rfl, rfl, rfl, rfl⟩ (lampsUntouched_lineWork _)
    · exact .refl s
  | pollDue p i =>
    dsimp only [exec, execPollDue] at h
    refine lampsUntouched_powered ?_ h
    repeat' split
    · exact .of_fields (by simp) (by simp) (by simp) (by simp)
    · exact .refl s
    · exact .refl s
  | extensionTimerExpiry =>
    dsimp only [exec, execExtensionTimerExpiry] at h
    refine lampsUntouched_powered ?_ h
    split
    · exact .of_fields (by simp) (by simp) (by simp) (by simp)
    · exact .refl s
  | feedStartWaitExpiry =>
    dsimp only [exec, execFeedStartWaitExpiry] at h
    refine lampsUntouched_event ?_ h
    split
    · next since _ _ =>
      exact LampsUntouched.trans (t := s.startBuilding since) ⟨rfl, rfl, rfl, rfl⟩ (lampsUntouched_lineWork _)
    · exact .refl s
  | stalenessThreshold p i =>
    dsimp only [exec, execStalenessThreshold] at h
    refine lampsUntouched_event ?_ h
    repeat' split
    · exact .of_fields (by simp) (by simp) (by simp) (by simp)
    all_goals exact .refl s
  | senseSubscribe | senseUnsubscribe =>
    dsimp only [exec, execSenseSubscribe, execSenseUnsubscribe] at h
    refine lampsUntouched_powered (lampsUntouched_taking fun e u => ?_) h
    repeat' split
    · exact lampsUntouched_answer u e _ _ _
    · exact lampsUntouched_answer u e _ _ _
    · exact .of_fields (by simp) (by simp) (by simp) (by simp)
  | actuate =>
    dsimp only [exec, execActuate] at h
    refine lampsUntouched_event (lampsUntouched_taking fun e u => ?_) h
    repeat' split
    all_goals first
      | exact lampsUntouched_answer u e _ _ _
      | exact lampsUntouched_decideActuate u e _ _ _ _
  | holdTimeExpiry p i =>
    dsimp only [exec, execHoldTimeExpiry] at h
    refine lampsUntouched_event ?_ h
    repeat' split
    · exact .of_fields (by simp) (by simp) (by simp) (by simp)
    all_goals exact .refl s
  | release =>
    dsimp only [exec, execRelease] at h
    refine lampsUntouched_event (lampsUntouched_taking fun e u => ?_) h
    repeat' split
    all_goals first
      | exact lampsUntouched_answer u e _ _ _
      | exact (lampsUntouched_answer u e .done _ _).trans
          ((lampsUntouched_relinquish _ _ _).trans (lampsUntouched_lineWork _))
  | forceRelease =>
    dsimp only [exec, execForceRelease] at h
    refine lampsUntouched_event (lampsUntouched_taking fun e u => ?_) h
    repeat' split
    all_goals first
      | exact lampsUntouched_answer u e _ _ _
      | exact LampsUntouched.trans (t := (u.answer e .done).noticeClaimEnd _ .forced)
          (.of_fields (by simp) (by simp) (by simp) (by simp))
          ((lampsUntouched_relinquish _ _ _).trans (lampsUntouched_lineWork _))
  | unitParamRead | unitParamWrite =>
    dsimp only [exec, execUnitParamRead, execUnitParamWrite] at h
    exact lampsUntouched_event (lampsUntouched_taking fun e u => lampsUntouched_requestAccess u e _) h

/-! ### The switch law over a step -/

theorem switchesFollow_resetAt (t : Nat) : SwitchesFollow (State.resetAt t) := by
  intro l
  have hn : requestedBy (State.resetAt t).slots = 0 := by simp [requestedBy, State.resetAt, PerSlot.const]
  have hr : (State.resetAt t).requested l = false := by simp [State.requested, hn, inLineSet]
  have hl : (State.resetAt t).lamps.get l = LampLine.resetAt t := PerLine.get_const _ l
  rewrite [hl, hr]
  exact ⟨rfl, fun _ => ⟨rfl, rfl⟩⟩

theorem switchesSame_powerOn (s : State) (cause : ResetCause) : SwitchesSame (State.resetAt s.now) (s.powerOn cause) :=
  ⟨fun _ => ⟨rfl, rfl, rfl⟩, rfl, rfl⟩

theorem SwitchesFollow.powerOn (s : State) (cause : ResetCause) : SwitchesFollow (s.powerOn cause) :=
  (switchesFollow_resetAt s.now).of_same (switchesSame_powerOn s cause)

theorem switchesSame_drop (s : State) (next : CombState) : SwitchesSame s (s.drop next) := by
  obtain ⟨-, -, hf, -, -, -, hi, -⟩ := s.drop_rest next
  exact ⟨fun l => by rw [s.drop_lamps next l]; exact ⟨rfl, rfl, rfl⟩, hf, requestSets_of_inlets hi⟩

theorem switchesSame_clearAgreement (s : State) (p : Line → Bool) : SwitchesSame s (s.clearAgreement p) :=
  switchesSame_map s fun l x => by split <;> exact ⟨rfl, rfl, rfl⟩

theorem SwitchesFollow.lampSet {s : State} (h : SwitchesFollow s) (k : Slot) (q l w : Byte) :
    SwitchesFollow (s.lampSet k q l w) := by
  have hc := h.changeSlot k { s.slots.get k with
    requestSet := l &&& coveredLines (s.settings.slotWord.get k), refreshSince := s.now, refreshExpired := false }
  unfold State.lampSet
  dsimp only
  split
  · exact hc.of_same (.of_fields (by simp) (by simp) (by simp))
  · exact hc

theorem switchesSame_offerIntake (s : State) (e : IntakeEntry) : SwitchesSame s (s.offerIntake e) := by
  unfold State.offerIntake State.refuseBusy
  dsimp only
  repeat' split
  · exact SwitchesSame.trans (t := s.count .requestsBusy) ⟨fun _ => ⟨rfl, rfl, rfl⟩, rfl, rfl⟩ (switchesSame_answer _ _ _ _ _)
  · exact .of_fields (by simp) (by simp) (by simp)
  · exact ⟨fun _ => ⟨rfl, rfl, rfl⟩, rfl, rfl⟩

theorem SwitchesFollow.wake {s : State} (h : SwitchesFollow s) (c : WakeCause) : SwitchesFollow (s.wake c) := by
  unfold State.wake
  split
  · exact h
  · exact h.of_same ⟨fun _ => ⟨rfl, rfl, rfl⟩, rfl, rfl⟩

theorem SwitchesFollow.hearFrame {s : State} (h : SwitchesFollow s) (f : BusFrame) : SwitchesFollow (s.hearFrame f) := by
  have haccept : SwitchesFollow (s.acceptRequest f) := by
    unfold State.acceptRequest
    repeat' split
    · exact h.of_same ⟨fun _ => ⟨rfl, rfl, rfl⟩, rfl, rfl⟩
    · exact h.lampSet _ _ _ _
    · exact h.of_same (switchesSame_offerIntake s _)
  unfold State.hearFrame
  repeat' split
  · exact h
  · exact h.wake _
  · exact haccept
  · exact h

theorem SwitchesFollow.writeWord {s : State} (h : SwitchesFollow s) (n : Setting) (w : Word32) :
    SwitchesFollow (s.writeWord n w) := by
  have hstore : SwitchesFollow (s.storeWord n w) := h.of_same ⟨fun _ => ⟨rfl, rfl, rfl⟩, rfl, rfl⟩
  unfold State.writeWord
  dsimp only
  split
  · refine SwitchesFollow.changeSlot ?_ _ _
    split
    · exact hstore.of_same ⟨fun _ => ⟨rfl, rfl, rfl⟩, rfl, rfl⟩
    · exact hstore
  · exact hstore.of_same (switchesSame_clearAgreement _ _)
  · exact hstore

theorem SwitchesFollow.decideWrite {s : State} (h : SwitchesFollow s) (e : IntakeEntry) (n : Setting) (w : Word32) :
    SwitchesFollow (s.decideWrite e n w) := by
  have hdone (v : Word32) : SwitchesFollow ((s.writeWord n v).takeHolder n e.slot) := by
    unfold State.takeHolder
    split
    · exact (h.writeWord n v).of_same ⟨fun _ => ⟨rfl, rfl, rfl⟩, rfl, rfl⟩
    · exact h.writeWord n v
  unfold State.decideWrite
  repeat' split
  all_goals first
    | exact h.answer _ _ _ _
    | exact (hdone _).answer _ _ _ _

theorem SwitchesFollow.combinationReset {s : State} (h : SwitchesFollow s) : SwitchesFollow s.combinationReset := by
  have hq : SwitchesSame s ((s.abandon.endAllClaims .forced).discardAllWork s.line.tx) := .of_fields
    (by simp [State.discardAllWork, State.endAllClaims]) (by simp [State.discardAllWork, State.endAllClaims])
    (by simp [State.discardAllWork, State.endAllClaims])
  refine (h.of_same hq).of_same ⟨fun l => ?_, rfl, rfl⟩
  simp [State.combinationReset]

theorem SwitchesFollow.sampleInstant {s t : State} (hs : SwitchesFollow s) (plug ignition : Bool) (loaded : Byte)
    (h : exec (.sampleInstant plug ignition loaded) s = .next t) : SwitchesFollow t := by
  dsimp only [exec, execSampleInstant] at h
  refine hs.event ?_ h
  split
  · next due _ =>
    have hsame : SwitchesSame ((s.reach due).sampleInputs plug ignition)
        (((s.reach due).sampleInputs plug ignition).senseLines loaded) := switchesSame_map _ fun l x => by
      unfold LampLine.countSample
      dsimp only
      repeat' split
      all_goals exact ⟨rfl, rfl, rfl⟩
    have hin : SwitchesFollow ((s.reach due).sampleInputs plug ignition) := hs.of_same ⟨fun _ => ⟨rfl, rfl, rfl⟩, rfl, rfl⟩
    exact (hin.of_same hsame).of_same ⟨fun _ => ⟨rfl, rfl, rfl⟩, rfl, rfl⟩
  · exact hs

theorem SwitchesFollow.attachDebounceExpiry {s t : State} (hs : SwitchesFollow s)
    (h : exec .attachDebounceExpiry s = .next t) : SwitchesFollow t := by
  have hr (n : Nat) : SwitchesFollow (s.reach n) := hs.of_same ⟨fun _ => ⟨rfl, rfl, rfl⟩, rfl, rfl⟩
  dsimp only [exec, execAttachDebounceExpiry] at h
  refine hs.event ?_ h
  split
  · next since _ =>
    split
    · split
      · exact (hr (since + s.setting .attachDebounce)).of_same ⟨fun _ => ⟨rfl, rfl, rfl⟩, rfl, rfl⟩
      · exact (hr (since + s.setting .attachDebounce)).of_same ⟨fun _ => ⟨rfl, rfl, rfl⟩, rfl, rfl⟩
    · exact (hr _).of_same (switchesSame_drop _ _)
    · exact (hr _).of_same (switchesSame_drop _ _)
    · exact (hr _).of_same (switchesSame_drop _ _)
    · exact hs
  · exact hs

theorem SwitchesFollow.parkDelayExpiry {s t : State} (hs : SwitchesFollow s)
    (h : exec .parkDelayExpiry s = .next t) : SwitchesFollow t := by
  dsimp only [exec, execParkDelayExpiry] at h
  refine hs.event ?_ h
  repeat' split
  · next since _ _ =>
    have hr : SwitchesFollow (s.reach (since + s.parkDelayMs)) := hs.of_same ⟨fun _ => ⟨rfl, rfl, rfl⟩, rfl, rfl⟩
    have hd := hr.of_same (switchesSame_drop _ .parked)
    rewrite [State.enterParked_eq]
    generalize (s.reach (since + s.parkDelayMs)).drop .parked = d at hd
    exact (hd.of_same (switchesSame_clearAgreement d fun _ => true)).of_same ⟨fun _ => ⟨rfl, rfl, rfl⟩, rfl, rfl⟩
  all_goals exact hs

theorem SwitchesFollow.selfWake {s t : State} (hs : SwitchesFollow s) (plug : Bool) (loaded : Byte)
    (h : exec (.selfWake plug loaded) s = .next t) : SwitchesFollow t := by
  dsimp only [exec, execSelfWake] at h
  refine hs.event ?_ h
  split
  · split
    · exact hs.of_same ⟨fun _ => ⟨rfl, rfl, rfl⟩, rfl, rfl⟩
    · refine SwitchesFollow.wake ?_ _
      exact hs.of_same ⟨fun _ => ⟨rfl, rfl, rfl⟩, rfl, rfl⟩
  · exact hs

theorem SwitchesFollow.ignitionWake {s t : State} (hs : SwitchesFollow s)
    (h : exec .ignitionWake s = .next t) : SwitchesFollow t := by
  dsimp only [exec, execIgnitionWake] at h
  refine hs.event ?_ h
  split
  · refine SwitchesFollow.wake ?_ _
    exact hs.of_same ⟨fun _ => ⟨rfl, rfl, rfl⟩, rfl, rfl⟩
  · exact hs

theorem SwitchesFollow.startWaitExpiry {s t : State} (hs : SwitchesFollow s)
    (h : exec .startWaitExpiry s = .next t) : SwitchesFollow t := by
  have hm := hs.of_same (switchesSame_map s (f := fun l x => if s.senseEnabled l then
      { x with agree := none, verdict := { x.verdict with presence := s.sense.parkedLines.get l } }
    else { x with agree := none }) fun l x => by split <;> exact ⟨rfl, rfl, rfl⟩)
  dsimp only [exec, execStartWaitExpiry] at h
  refine hs.event ?_ h
  split
  · split
    · split
      · exact hm.of_same ⟨fun _ => ⟨rfl, rfl, rfl⟩, rfl, rfl⟩
      · exact hm.of_same ⟨fun _ => ⟨rfl, rfl, rfl⟩, rfl, rfl⟩
    · exact hm.of_same ⟨fun _ => ⟨rfl, rfl, rfl⟩, rfl, rfl⟩
  · exact hs

theorem SwitchesFollow.feedOffTimeExpiry {s t : State} (hs : SwitchesFollow s)
    (h : exec .feedOffTimeExpiry s = .next t) : SwitchesFollow t := by
  dsimp only [exec, execFeedOffTimeExpiry] at h
  refine hs.event ?_ h
  split
  · split
    · exact hs.of_same ⟨fun _ => ⟨rfl, rfl, rfl⟩, rfl, rfl⟩
    · exact hs.of_same ⟨fun _ => ⟨rfl, rfl, rfl⟩, rfl, rfl⟩
  · exact hs

theorem SwitchesFollow.combinationResetTaken {s t : State} (hs : SwitchesFollow s)
    (h : exec .combinationReset s = .next t) : SwitchesFollow t := by
  dsimp only [exec, execCombinationReset] at h
  refine powered_keeps hs (fun _ => hs.taking fun e u hu => ?_) h
  split
  · have hr := (hu.answer e .done [] false).combinationReset
    exact hr.of_same (.of_fields (by simp) (by simp) (by simp))
  · exact hu.answer e _ _ _

theorem SwitchesFollow.refreshWindowExpiry {s t : State} (hs : SwitchesFollow s) (k : Slot)
    (h : exec (.refreshWindowExpiry k) s = .next t) : SwitchesFollow t := by
  dsimp only [exec, execRefreshWindowExpiry] at h
  refine hs.event ?_ h
  split
  · exact hs
  · refine SwitchesFollow.changeSlot ?_ _ _
    exact hs.of_same ⟨fun _ => ⟨rfl, rfl, rfl⟩, rfl, rfl⟩

theorem SwitchesFollow.flashPhaseEnd {s t : State} (hs : SwitchesFollow s)
    (h : exec .flashPhaseEnd s = .next t) : SwitchesFollow t := by
  dsimp only [exec, execFlashPhaseEnd] at h
  refine hs.event ?_ h
  split
  · exact hs
  · refine switchesFollow_resolve (fun l hl => ?_) _
    have hsame := switchesSame_map s (f := fun l x => x.endOnPhase l) fun l x => by
      unfold LampLine.endOnPhase
      repeat' split
      all_goals exact ⟨rfl, rfl, rfl⟩
    obtain ⟨-, h2, h3⟩ := hsame.lines l
    obtain ⟨k2, k3⟩ := (hs l).2 hl
    exact ⟨h2.trans k2, h3.trans k3⟩
  · refine switchesFollow_resolve (fun l hl => ?_) _
    exact (hs l).2 hl

theorem SwitchesFollow.switchFaultIndication {s t : State} (hs : SwitchesFollow s) (l : Line)
    (h : exec (.switchFaultIndication l) s = .next t) : SwitchesFollow t := by
  dsimp only [exec, execSwitchFaultIndication] at h
  refine hs.event ?_ h
  split
  · next hc => exact hs.tripLine hc.1 _
  · exact hs

theorem SwitchesFollow.restartDelayExpiry {s t : State} (hs : SwitchesFollow s) (l : Line)
    (h : exec (.restartDelayExpiry l) s = .next t) : SwitchesFollow t := by
  dsimp only [exec, execRestartDelayExpiry] at h
  refine hs.event ?_ h
  split
  · next ht _ =>
    refine SwitchesFollow.modified (s := s.reach _) (hs.of_same ⟨fun _ => ⟨rfl, rfl, rfl⟩, rfl, rfl⟩) ?_ _ _
    exact hs.requested_of_trip (l := l) (by rw [ht]; decide)
  · exact hs

theorem SwitchesFollow.lineReset {s t : State} (hs : SwitchesFollow s)
    (h : exec .lineReset s = .next t) : SwitchesFollow t := by
  dsimp only [exec, execLineReset] at h
  refine hs.event (hs.taking fun e u hu => ?_) h
  split
  · exact hu.answer e _ _ _
  · next l _ =>
    split
    · exact hu.answer e _ _ _
    · split
      · exact hu.answer e _ _ _
      · next hl =>
        have hreset : SwitchesFollow ((u.modifyLine l fun x => x.unlatched u.now).resolveSwitches false) := by
          refine hu.modified (hu.requested_of_trip ?_) _ _
          rewrite [not_ne_iff.mp hl]
          decide
        exact hreset.answer e _ _ _

theorem SwitchesFollow.measurementInstant {s t : State} (hs : SwitchesFollow s) (l : Line) (c1 c2 c3 c4 : Conversion)
    (h : exec (.measurementInstant l c1 c2 c3 c4) s = .next t) : SwitchesFollow t := by
  dsimp only [exec, execMeasurementInstant] at h
  refine hs.event ?_ h
  split
  · next ho _ =>
    exact SwitchesFollow.measure (s := s.reach _) (hs.of_same ⟨fun _ => ⟨rfl, rfl, rfl⟩, rfl, rfl⟩) ho _ _
  · exact hs

theorem SwitchesFollow.settingWrite {s t : State} (hs : SwitchesFollow s)
    (h : exec .settingWrite s = .next t) : SwitchesFollow t := by
  dsimp only [exec, execSettingWrite] at h
  refine hs.event (hs.taking fun e u hu => ?_) h
  split
  · exact hu.answer _ _ _ _
  · exact hu.decideWrite _ _ _

theorem SwitchesFollow.settingFieldWrite {s t : State} (hs : SwitchesFollow s)
    (h : exec .settingFieldWrite s = .next t) : SwitchesFollow t := by
  dsimp only [exec, execSettingFieldWrite] at h
  refine hs.event (hs.taking fun e u hu => ?_) h
  repeat' split
  · exact hu.answer _ _ _ _
  · exact hu.answer _ _ _ _
  · exact hu.decideWrite _ _ _

theorem exec_keeps_switchesFollow (c : Instr) (s t : State) (hs : SwitchesFollow s) (h : exec c s = .next t) :
    SwitchesFollow t := by
  cases c with
  | combinationRead | unitRead | functionRead | verdictRead | senseRead | refusedFormat | refusedUnknown | settingRead
    | partStatusRead | countersDump | countersDumpReset | fullReset | setupClose | setupDeadlineExpiry | noticeRoute
    | frameTransmitted | busOffEntry | busOffExit =>
    exact hs.of_same (PortCommand.undisturbed (by constructor) h).switchesSame
  | callSent | answerWindowExpiry | byteGapTimeout | lengthByteError | answerFrameComplete | discardedByte
    | answerByteReceived | resyncGapEnd | pollDue | extensionTimerExpiry | feedStartWaitExpiry | stalenessThreshold
    | senseSubscribe | senseUnsubscribe | actuate | holdTimeExpiry | release | forceRelease | unitParamRead
    | unitParamWrite =>
    exact hs.of_same (TrailerCommand.lampsUntouched (by constructor) h).switchesSame
  | powerOnReset => exact next_keeps (SwitchesFollow.powerOn s _) h
  | lowSupplyReset =>
    refine next_keeps ?_ h
    have hp := SwitchesFollow.powerOn s .lowSupply
    exact hp.of_same ⟨fun _ => ⟨rfl, rfl, rfl⟩, rfl, rfl⟩
  | lowSupplyRelease =>
    refine next_keeps ?_ h
    split
    · exact SwitchesFollow.powerOn s _
    · exact hs
  | fullResetWaitEnd =>
    dsimp only [exec, execFullResetWaitEnd] at h
    refine powered_keeps hs (fun _ => ?_) h
    split
    · exact SwitchesFollow.powerOn _ _
    · exact hs
  | busFrameWake f =>
    dsimp only [exec, execBusFrameWake] at h
    refine hs.event ?_ h
    split
    · exact hs.hearFrame f
    · exact hs
  | requestFrame f =>
    dsimp only [exec, execRequestFrame] at h
    exact hs.event (hs.hearFrame f) h
  | lampSet =>
    dsimp only [exec, execLampSet] at h
    exact hs.event (hs.hearFrame _) h
  | sampleInstant plug ignition loaded => exact hs.sampleInstant plug ignition loaded h
  | attachDebounceExpiry => exact hs.attachDebounceExpiry h
  | parkDelayExpiry => exact hs.parkDelayExpiry h
  | selfWake plug loaded => exact hs.selfWake plug loaded h
  | ignitionWake => exact hs.ignitionWake h
  | startWaitExpiry => exact hs.startWaitExpiry h
  | feedOffTimeExpiry => exact hs.feedOffTimeExpiry h
  | combinationReset => exact hs.combinationResetTaken h
  | refreshWindowExpiry k => exact hs.refreshWindowExpiry k h
  | flashPhaseEnd => exact hs.flashPhaseEnd h
  | switchFaultIndication l => exact hs.switchFaultIndication l h
  | restartDelayExpiry l => exact hs.restartDelayExpiry l h
  | lineReset => exact hs.lineReset h
  | measurementInstant l c1 c2 c3 c4 => exact hs.measurementInstant l c1 c2 c3 c4 h
  | settingWrite => exact hs.settingWrite h
  | settingFieldWrite => exact hs.settingFieldWrite h

/-- Settles O54: what a command does to the lamps, the Flash Generator and the request sets ends in the switches re-evaluated. -/
theorem stepKeepsSwitchLaw : Obligations.StepKeepsSwitchLaw := fun _ _ hs h =>
  step_keeps (fun _ _ h => h) (fun _ h => h) exec_keeps_switchesFollow hs h

end Sys2Proof.Machine
end

section
/-! PROOFS. The attach debounce, the waiting entry and the park delay over a step: an event puts them in step at its end, and a
command that is no event leaves their conditions alone. -/
namespace Sys2Proof.Machine

/-- What the timers of chapter 1 read is the same. -/
structure TimersSame (s t : State) : Prop where
  comb : t.comb = s.comb
  sense : t.sense = s.sense
  lamps : t.lamps = s.lamps
  requests : t.requestSets = s.requestSets
  claims : t.claims.isEmpty = s.claims.isEmpty
  accesses : (t.line.access.isEmpty && !t.accessInFlight) = (s.line.access.isEmpty && !s.accessInFlight)

theorem State.attached_congr {s t : State} (hs : t.sense = s.sense) (hl : t.lamps = s.lamps) : t.attached = s.attached := by
  simp only [State.attached, hs, hl]

theorem TimersSame.attachDiffers {s t : State} (h : TimersSame s t) : t.attachDiffers = s.attachDiffers := by
  simp only [State.attachDiffers, h.comb, State.attached_congr h.sense h.lamps]

theorem TimersSame.mayPark {s t : State} (h : TimersSame s t) : t.mayPark = s.mayPark := by
  have hr : ∀ k, (t.slots.get k).requestSet = (s.slots.get k).requestSet := fun k => by
    rw [← requestSets_get, ← requestSets_get, h.requests]
  simp only [State.mayPark, h.comb, h.sense, hr, h.claims, Bool.and_assoc, h.accesses]

theorem TimersFollow.of_same {s t : State} (h : TimersFollow s) (k : TimersSame s t) : TimersFollow t := by
  refine ⟨?_, ?_, ?_⟩
  · rewrite [k.comb, k.attachDiffers]
    exact h.attach
  · rewrite [k.comb, State.attached_congr k.sense k.lamps]
    exact h.waiting
  · rewrite [k.comb, k.mayPark]
    exact h.park

theorem Undisturbed.timersSame {s t : State} (h : Undisturbed s t) : TimersSame s t :=
  ⟨h.comb, h.sense, h.lamps, h.requests, by rw [h.claims], by simp only [State.accessInFlight, h.line]⟩

/-- At the end of an event the timers run exactly under their conditions (R8, R14, R19). -/
theorem timersFollow_retimed (s : State) : TimersFollow s.retimeAttach.retimePark := by
  have hpark : s.retimeAttach.retimePark.mayPark = s.mayPark := rfl
  have hdiff : s.retimeAttach.retimePark.attachDiffers = s.attachDiffers := rfl
  refine ⟨?_, ?_, ?_⟩
  · rewrite [hdiff]
    simp only [State.retimePark, State.retimeAttach]
    cases s.attachDiffers <;> rfl
  · intro hw
    have hw' : (s.comb.entryWaiting && s.attached && s.comb.state == .detached) = true := hw
    simp only [Bool.and_eq_true, beq_iff_eq] at hw'
    exact ⟨hw'.1.2, hw'.2⟩
  · rewrite [hpark]
    have hp : s.retimeAttach.mayPark = s.mayPark := rfl
    simp only [State.retimePark, hp]
    cases s.mayPark <;> rfl

theorem timersSame_announce (s before : State) : TimersSame s (s.announce before) :=
  ⟨by simp, by simp, by simp, requestSets_of_inlets (by simp), by simp, by simp [State.accessInFlight]⟩

theorem timersSame_noticeCombination (s : State) : TimersSame s s.noticeCombination :=
  ⟨by simp, by simp, by simp, requestSets_of_inlets (by simp), by simp, by simp [State.accessInFlight]⟩

theorem TimersFollow.event {f : State → State} {s t : State} (hs : TimersFollow s) (h : event f s = .next t) :
    TimersFollow t := event_keeps hs (fun _ => (timersFollow_retimed (f s)).of_same (timersSame_announce _ s)) h

theorem TimersSame.refl (s : State) : TimersSame s s := ⟨rfl, rfl, rfl, rfl, rfl, rfl⟩

theorem TimersSame.trans {s t u : State} (h : TimersSame s t) (k : TimersSame t u) : TimersSame s u :=
  ⟨k.comb.trans h.comb, k.sense.trans h.sense, k.lamps.trans h.lamps, k.requests.trans h.requests, k.claims.trans h.claims,
    k.accesses.trans h.accesses⟩

/-! ### The next work (R33) -/

theorem State.claims_claimStarted (s : State) (p i : Nat) : (s.claimStarted p i).claims.isEmpty = s.claims.isEmpty := by
  unfold State.claimStarted
  split
  · simp [State.putClaim]
  · rfl

/-- The first work available is started, or the part stays as it is (R33). -/
theorem State.schedule_cases (s : State) :
    s.schedule = s
    ∨ (s.lineFree = true ∧ (s.comb.state = .building ∨ s.comb.state = .serving)
      ∧ ((∃ e rest, s.line.urgent = e :: rest
            ∧ s.schedule = (State.claimStarted { s with line := { s.line with urgent := rest } } e.position e.index).start
                (.urgent e))
        ∨ (∃ step, s.line.urgent = [] ∧ s.walker.offered = some step
            ∧ s.schedule = (s.modifyWalker fun w => w.started step).start (.bringUp step))
        ∨ (∃ e rest, s.line.urgent = [] ∧ s.walker.offered = none ∧ s.line.access = e :: rest
            ∧ s.schedule = State.start { s with line := { s.line with access := rest } } (.access e))
        ∨ (∃ d, s.line.urgent = [] ∧ s.walker.offered = none ∧ s.line.access = [] ∧ firstPoll s.availablePolls = some d
            ∧ s.schedule = (s.clearDue d.position d.index).start (.poll d.position d.index)))) := by
  unfold State.schedule
  split
  · next hc =>
    simp only [Bool.and_eq_true, Bool.or_eq_true, beq_iff_eq] at hc
    split
    · next e rest hu => exact .inr ⟨hc.1, hc.2, .inl ⟨e, rest, hu, rfl⟩⟩
    · next hu =>
      split
      · next step ho => exact .inr ⟨hc.1, hc.2, .inr (.inl ⟨step, hu, ho, rfl⟩)⟩
      · next ho =>
        split
        · next e rest ha => exact .inr ⟨hc.1, hc.2, .inr (.inr (.inl ⟨e, rest, hu, ho, ha, rfl⟩))⟩
        · next ha =>
          split
          · next d hd => exact .inr ⟨hc.1, hc.2, .inr (.inr (.inr ⟨d, hu, ho, ha, hd, rfl⟩))⟩
          · exact .inl rfl
  · exact .inl rfl

theorem State.lineFree_tx {s : State} (h : s.lineFree = true) : s.line.tx = none := by
  simp only [State.lineFree, Bool.and_eq_true, Option.isNone_iff_eq_none] at h
  exact h.1

theorem State.accessInFlight_none {s : State} (h : s.line.tx = none) : s.accessInFlight = false := by
  simp [State.accessInFlight, h]

/-- A unit access in flight is one that waited. -/
theorem timersSame_schedule (s : State) : TimersSame s s.schedule := by
  refine ⟨by simp, by simp, by simp, requestSets_of_inlets (by simp), ?_, ?_⟩
  · obtain h | ⟨-, -, ⟨e, rest, -, h⟩ | ⟨step, -, -, h⟩ | ⟨e, rest, -, -, -, h⟩ | ⟨d, -, -, -, -, h⟩⟩ := s.schedule_cases
    · rw [h]
    · rewrite [h]
      exact State.claims_claimStarted _ _ _
    all_goals
      rewrite [h]
      simp
  · obtain h | ⟨hf, -, ⟨e, rest, -, h⟩ | ⟨step, -, -, h⟩ | ⟨e, rest, -, -, ha, h⟩ | ⟨d, -, -, ha, -, h⟩⟩ := s.schedule_cases
    · rw [h]
    all_goals
      have htx := State.accessInFlight_none (State.lineFree_tx hf)
      rw [h, htx]
    · simp [State.start, State.accessInFlight, Originator.transaction]
    · simp [State.start, State.accessInFlight, Originator.transaction]
    · simp [State.start, State.accessInFlight, Originator.transaction, ha]
    · simp [State.start, State.accessInFlight, Originator.transaction]

theorem timersSame_offerNext (s : State) : TimersSame s s.offerNext :=
  ⟨by simp, by simp, by simp, requestSets_of_inlets (by simp), by simp, by simp [State.accessInFlight]⟩

theorem timersSame_lineWork (s : State) : TimersSame s s.lineWork :=
  (timersSame_offerNext s).trans (timersSame_schedule _)

/-! ### The commands that are no events -/

theorem timersFollow_resetAt (t : Nat) : TimersFollow (State.resetAt t) := ⟨rfl, fun h => (by cases h), rfl⟩

theorem timersFollow_powerOn (s : State) (cause : ResetCause) : TimersFollow (s.powerOn cause) :=
  ⟨rfl, fun h => (by cases h), rfl⟩

/-- The resync gap at its end (R25). -/
def State.gapEnded (s : State) (since : Nat) : State :=
  { s.reach (since + Config.resyncGap) with line := { s.line with gapSince := none } }

theorem timersSame_setTx {s : State} {t : Transaction} (ht : s.line.tx = some t) {v : Transaction}
    (hv : v.originator = t.originator) : TimersSame s (s.setTx (some v)) := by
  have hsame : (s.setTx (some v)).accessInFlight = s.accessInFlight := State.accessInFlight_same ht rfl hv
  exact ⟨rfl, rfl, rfl, rfl, rfl, by rw [hsame]; rfl⟩

theorem exec_keeps_timersFollow (c : Instr) (s t : State) (hs : TimersFollow s) (h : exec c s = .next t) :
    TimersFollow t := by
  cases c with
  | combinationRead | unitRead | functionRead | verdictRead | senseRead | refusedFormat | refusedUnknown | settingRead
    | partStatusRead | countersDump | countersDumpReset | fullReset | setupClose | setupDeadlineExpiry | noticeRoute
    | frameTransmitted | busOffEntry | busOffExit =>
    exact hs.of_same (PortCommand.undisturbed (by constructor) h).timersSame
  | sampleInstant => exact hs.event (by dsimp only [exec, execSampleInstant] at h; exact h)
  | attachDebounceExpiry => exact hs.event (by dsimp only [exec, execAttachDebounceExpiry] at h; exact h)
  | feedStartWaitExpiry => exact hs.event (by dsimp only [exec, execFeedStartWaitExpiry] at h; exact h)
  | parkDelayExpiry => exact hs.event (by dsimp only [exec, execParkDelayExpiry] at h; exact h)
  | selfWake => exact hs.event (by dsimp only [exec, execSelfWake] at h; exact h)
  | ignitionWake => exact hs.event (by dsimp only [exec, execIgnitionWake] at h; exact h)
  | busFrameWake => exact hs.event (by dsimp only [exec, execBusFrameWake] at h; exact h)
  | startWaitExpiry => exact hs.event (by dsimp only [exec, execStartWaitExpiry] at h; exact h)
  | feedOffTimeExpiry => exact hs.event (by dsimp only [exec, execFeedOffTimeExpiry] at h; exact h)
  | answerWindowExpiry => exact hs.event (by dsimp only [exec, execAnswerWindowExpiry] at h; exact h)
  | byteGapTimeout => exact hs.event (by dsimp only [exec, execByteGapTimeout] at h; exact h)
  | lengthByteError => exact hs.event (by dsimp only [exec, execLengthByteError] at h; exact h)
  | answerFrameComplete => exact hs.event (by dsimp only [exec, execAnswerFrameComplete] at h; exact h)
  | answerByteReceived => exact hs.event (by dsimp only [exec, execAnswerByteReceived] at h; exact h)
  | discardedByte => exact hs.event (by dsimp only [exec, execDiscardedByte] at h; exact h)
  | lampSet => exact hs.event (by dsimp only [exec, execLampSet] at h; exact h)
  | refreshWindowExpiry => exact hs.event (by dsimp only [exec, execRefreshWindowExpiry] at h; exact h)
  | flashPhaseEnd => exact hs.event (by dsimp only [exec, execFlashPhaseEnd] at h; exact h)
  | switchFaultIndication => exact hs.event (by dsimp only [exec, execSwitchFaultIndication] at h; exact h)
  | restartDelayExpiry => exact hs.event (by dsimp only [exec, execRestartDelayExpiry] at h; exact h)
  | lineReset => exact hs.event (by dsimp only [exec, execLineReset] at h; exact h)
  | measurementInstant => exact hs.event (by dsimp only [exec, execMeasurementInstant] at h; exact h)
  | stalenessThreshold => exact hs.event (by dsimp only [exec, execStalenessThreshold] at h; exact h)
  | actuate => exact hs.event (by dsimp only [exec, execActuate] at h; exact h)
  | holdTimeExpiry => exact hs.event (by dsimp only [exec, execHoldTimeExpiry] at h; exact h)
  | release => exact hs.event (by dsimp only [exec, execRelease] at h; exact h)
  | forceRelease => exact hs.event (by dsimp only [exec, execForceRelease] at h; exact h)
  | requestFrame => exact hs.event (by dsimp only [exec, execRequestFrame] at h; exact h)
  | unitParamRead => exact hs.event (by dsimp only [exec, execUnitParamRead] at h; exact h)
  | unitParamWrite => exact hs.event (by dsimp only [exec, execUnitParamWrite] at h; exact h)
  | settingWrite => exact hs.event (by dsimp only [exec, execSettingWrite] at h; exact h)
  | settingFieldWrite => exact hs.event (by dsimp only [exec, execSettingFieldWrite] at h; exact h)
  | powerOnReset => exact next_keeps (timersFollow_powerOn s _) h
  | lowSupplyReset =>
    refine next_keeps ?_ h
    exact ⟨rfl, fun h => (by cases h), rfl⟩
  | lowSupplyRelease =>
    refine next_keeps ?_ h
    split
    · exact timersFollow_powerOn s _
    · exact hs
  | fullResetWaitEnd =>
    dsimp only [exec, execFullResetWaitEnd] at h
    refine powered_keeps hs (fun _ => ?_) h
    split
    · exact timersFollow_powerOn _ _
    · exact hs
  | combinationReset =>
    dsimp only [exec, execCombinationReset] at h
    refine powered_keeps hs (fun _ => taking_keeps hs fun e rest _ _ _ => ?_) h
    split
    · exact (timersFollow_retimed _).of_same (timersSame_noticeCombination _)
    · exact (hs.of_same (undisturbed_taken s rest).timersSame).of_same (undisturbed_answer _ _ _ _ _).timersSame
  | callSent =>
    dsimp only [exec, execCallSent] at h
    refine powered_keeps hs (fun _ => ?_) h
    split
    · next v hv =>
      split
      · have hc : TimersFollow (s.count .callsSent) := hs.of_same ⟨rfl, rfl, rfl, rfl, rfl, rfl⟩
        have ht := hc.of_same (timersSame_setTx (s := s.count .callsSent) (v := { v with phase := .awaiting s.now [] }) hv rfl)
        exact ht.of_same ⟨rfl, rfl, rfl, rfl, rfl, rfl⟩
      · exact hs
    · exact hs
  | resyncGapEnd =>
    dsimp only [exec, execResyncGapEnd] at h
    refine powered_keeps hs (fun _ => ?_) h
    split
    · next since _ =>
      have hu : TimersFollow (s.gapEnded since) := hs.of_same ⟨rfl, rfl, rfl, rfl, rfl, rfl⟩
      split
      · next v hv => exact hu.of_same (timersSame_setTx (s := s.gapEnded since) hv rfl)
      · exact hu.of_same (timersSame_lineWork (s.gapEnded since))
    · exact hs
  | pollDue =>
    dsimp only [exec, execPollDue] at h
    refine powered_keeps hs (fun _ => ?_) h
    repeat' split
    · refine TimersFollow.of_same (s := s.reach _) ?_ (timersSame_lineWork _)
      exact hs.of_same ⟨rfl, rfl, rfl, rfl, rfl, rfl⟩
    all_goals exact hs
  | extensionTimerExpiry =>
    dsimp only [exec, execExtensionTimerExpiry] at h
    refine powered_keeps hs (fun _ => ?_) h
    split
    · next since _ =>
      refine TimersFollow.of_same (s := (s.reach _).modifyWalker _) ?_ (timersSame_lineWork _)
      exact hs.of_same ⟨rfl, rfl, rfl, rfl, rfl, rfl⟩
    · exact hs
  | senseSubscribe | senseUnsubscribe =>
    dsimp only [exec, execSenseSubscribe, execSenseUnsubscribe] at h
    refine powered_keeps hs (fun _ => taking_keeps hs fun e rest _ _ _ => ?_) h
    have hu := hs.of_same (undisturbed_taken s rest).timersSame
    repeat' split
    · exact hu.of_same (undisturbed_answer _ _ _ _ _).timersSame
    · exact hu.of_same (undisturbed_answer _ _ _ _ _).timersSame
    · next f v _ =>
      have hw (b : Option Subscription) :
          TimersFollow ((s.taken rest).setSubscription (e.operand 2) (e.operand 3) e.slot b) :=
        hu.of_same ⟨rfl, rfl, rfl, rfl, rfl, rfl⟩
      exact (hw _).of_same (undisturbed_answer _ _ _ _ _).timersSame

/-- Settles O55: an event puts the timers in step at its end, any other command leaves their conditions alone. -/
theorem stepKeepsTimers : Obligations.StepKeepsTimers := fun _ _ hs h =>
  step_keeps (fun _ _ h => ⟨h.attach, h.waiting, h.park⟩) (fun _ h => ⟨h.attach, h.waiting, h.park⟩)
    exec_keeps_timersFollow hs h

end Sys2Proof.Machine
end

section
/-! PROOFS. What the laws of the trailer side read of a unit record, and which operations leave it alone. -/
namespace Sys2Proof.Machine

/-- What places a unit record and its functions: position, identity, unit state, and the index and class of each function. -/
structure UnitCard where
  position : Nat
  identity : Word32
  state : UnitState
  functions : List (Nat × FunctionClass)

def UnitRecord.card (u : UnitRecord) : UnitCard :=
  { position := u.position, identity := u.identity, state := u.state
    functions := u.functions.map fun e => (e.index, e.cls) }

def State.cards (s : State) : List UnitCard := s.units.map UnitRecord.card

theorem cards_of_units {s t : State} (h : t.units = s.units) : t.cards = s.cards := by rw [State.cards, State.cards, h]

theorem cards_modifyUnit (s : State) (p : Nat) {f : UnitRecord → UnitRecord} (hf : ∀ u, (f u).card = u.card) :
    (s.modifyUnit p f).cards = s.cards := by
  simp only [State.cards, State.modifyUnit, List.map_map]
  refine List.map_congr_left fun u _ => ?_
  simp only [Function.comp_apply]
  split
  · exact hf u
  · rfl

theorem cards_modifyEntry (s : State) (p i : Nat) {f : FunctionEntry → FunctionEntry}
    (hf : ∀ e, (f e).index = e.index ∧ (f e).cls = e.cls) : (s.modifyEntry p i f).cards = s.cards := by
  refine cards_modifyUnit s p fun u => ?_
  simp only [UnitRecord.card, List.map_map, UnitCard.mk.injEq, true_and]
  refine List.map_congr_left fun e _ => ?_
  simp only [Function.comp_apply]
  split
  · obtain ⟨h1, h2⟩ := hf e
    rw [h1, h2]
  · rfl

section
variable (s : State) (p i : Nat)

@[simp] theorem State.clearDue_cards : (s.clearDue p i).cards = s.cards := cards_modifyEntry s p i fun _ => ⟨rfl, rfl⟩
@[simp] theorem State.writeValue_cards (v : ValueRecord) : (s.writeValue p i v).cards = s.cards :=
  cards_modifyEntry s p i fun _ => ⟨rfl, rfl⟩
@[simp] theorem State.setSubscription_cards (k : Slot) (b : Option Subscription) :
    (s.setSubscription p i k b).cards = s.cards := cards_modifyEntry s p i fun _ => ⟨rfl, rfl⟩
@[simp] theorem State.lampReported_cards (x : Byte) : (s.lampReported p x).cards = s.cards :=
  cards_modifyUnit s p fun _ => rfl
@[simp] theorem State.joinRing_cards : (s.joinRing p).cards = s.cards :=
  cards_modifyUnit s p fun u => by simp [UnitRecord.card]
@[simp] theorem State.dropSubscriptions_cards (k : Slot) : (s.dropSubscriptions k).cards = s.cards := by
  simp [State.cards, State.dropSubscriptions, UnitRecord.card]

@[simp] theorem State.testSubscription_cards (q : Quality) (k : Slot) :
    (State.testSubscription p i q s k).cards = s.cards := by
  have ho (d : List Byte) : (s.offerNotice .sense k d).cards = s.cards := cards_of_units (by simp)
  unfold State.testSubscription
  dsimp only
  repeat' split
  all_goals first
    | rfl
    | exact ho _
    | (refine (cards_modifyEntry _ p i ?_).trans (ho _); exact fun _ => ⟨rfl, rfl⟩)

@[simp] theorem State.testSubscriptions_cards (q : Quality) : (s.testSubscriptions p i q).cards = s.cards :=
  foldl_keeps State.cards _ (fun t k => t.testSubscription_cards p i q k) _ _

@[simp] theorem State.pollAnswered_cards (d : List Byte) (f : Bool) : (s.pollAnswered p i d f).cards = s.cards := by
  unfold State.pollAnswered
  repeat' split
  all_goals simp

@[simp] theorem State.pollUnanswered_cards : (s.pollUnanswered p i).cards = s.cards := by
  unfold State.pollUnanswered
  repeat' split
  all_goals simp

@[simp] theorem State.schedule_cards : s.schedule.cards = s.cards := by
  obtain h | ⟨-, -, ⟨e, rest, -, h⟩ | ⟨step, -, -, h⟩ | ⟨e, rest, -, -, -, h⟩ | ⟨d, -, -, -, -, h⟩⟩ := s.schedule_cases
  · rw [h]
  · rewrite [h]
    exact cards_of_units (by simp)
  · rewrite [h]
    exact cards_of_units (by simp)
  · rewrite [h]
    exact cards_of_units (by simp)
  · rewrite [h]
    exact (cards_of_units (by simp)).trans (s.clearDue_cards d.position d.index)

@[simp] theorem State.lineWork_cards : s.lineWork.cards = s.cards :=
  (State.schedule_cards _).trans (cards_of_units (by simp))
end

theorem any_unsettles_of_cards {s t : State} (h : t.cards = s.cards) :
    t.units.any UnitRecord.unsettles = s.units.any UnitRecord.unsettles := by
  have hs : ∀ u : UnitRecord, u.unsettles = (match u.card.state with
      | .placed | .listing | .bridging => true
      | .serving | .refused => false) := fun u => rfl
  have hm (s : State) : s.units.any UnitRecord.unsettles = s.cards.any fun c => match c.state with
      | .placed | .listing | .bridging => true
      | .serving | .refused => false := by
    rewrite [State.cards, List.any_map]
    rfl
  rw [hm, hm, h]

end Sys2Proof.Machine
end

section
/-! PROOFS. UNSETTLED and PASSIVE-LOAD over a step (R3, R5). -/
namespace Sys2Proof.Machine

/-- PASSIVE-LOAD says what R5 defines it to say. -/
def PassiveTrue (s : State) : Prop :=
  s.comb.passiveLoad = allLines.any fun l => (s.lamps.get l).verdict.verdict.isPassive

theorem PassiveTrue.of_same {s t : State} (h : PassiveTrue s) (hp : t.comb.passiveLoad = s.comb.passiveLoad)
    (hv : ∀ l, (t.lamps.get l).verdict.verdict = (s.lamps.get l).verdict.verdict) : PassiveTrue t := by
  unfold PassiveTrue
  simp only [hp, hv]
  exact h

theorem FlagsFollow.of_same {s t : State} (h : FlagsFollow s) (hu : t.comb.unsettled = s.comb.unsettled)
    (hp : t.comb.passiveLoad = s.comb.passiveLoad) (hc : t.cards = s.cards)
    (hv : ∀ l, (t.lamps.get l).verdict.verdict = (s.lamps.get l).verdict.verdict) : FlagsFollow t :=
  ⟨by rw [hu, any_unsettles_of_cards hc]; exact h.unsettled, PassiveTrue.of_same h.passive hp hv⟩

/-- The combination record, the records' cards and the lamps are the same. -/
theorem FlagsFollow.of_comb {s t : State} (h : FlagsFollow s) (hb : t.comb = s.comb) (hc : t.cards = s.cards)
    (hl : t.lamps = s.lamps) : FlagsFollow t :=
  h.of_same (by rw [hb]) (by rw [hb]) hc fun l => by rw [hl]

theorem Undisturbed.flagsFollow {s t : State} (h : Undisturbed s t) (hs : FlagsFollow s) : FlagsFollow t :=
  hs.of_comb h.comb (cards_of_units h.units) h.lamps

theorem FlagsFollow.closed {s : State} (h : FlagsFollow s) (before : State) :
    FlagsFollow ((s.retimeAttach.retimePark).announce before) :=
  h.of_same (by simp [State.retimed_comb]) (by simp [State.retimed_comb]) (cards_of_units (by simp)) (by simp)

theorem FlagsFollow.event {f : State → State} {s t : State} (hs : FlagsFollow s) (hf : FlagsFollow (f s))
    (h : event f s = .next t) : FlagsFollow t := event_keeps hs (fun _ => hf.closed s) h

theorem FlagsFollow.answer {s : State} (h : FlagsFollow s) (e : IntakeEntry) (st : Status) (d : List Byte) (b : Bool) :
    FlagsFollow (s.answer e st d b) := (undisturbed_answer s e st d b).flagsFollow h

theorem FlagsFollow.taking {w : IntakeEntry → Bool} {d : IntakeEntry → State → State} {s : State} (hs : FlagsFollow s)
    (hd : ∀ e u, FlagsFollow u → FlagsFollow (d e u)) : FlagsFollow (s.taking w d) :=
  taking_keeps hs fun e rest _ _ _ => hd e _ ((undisturbed_taken s rest).flagsFollow hs)

/-! ### The flags made anew -/

theorem flagsFollow_refreshUnsettled {s : State} (h : PassiveTrue s) : FlagsFollow s.refreshUnsettled := ⟨rfl, h⟩

theorem FlagsFollow.refreshPassive {s : State} (h : s.comb.unsettled = s.units.any UnitRecord.unsettles) :
    FlagsFollow s.refreshPassive := ⟨h, rfl⟩

theorem FlagsFollow.noticeUnitAt {s : State} (h : FlagsFollow s) (p : Nat) : FlagsFollow (s.noticeUnitAt p) :=
  h.of_comb (by simp) (cards_of_units (by simp)) (by simp)

theorem flagsFollow_setUnitState {s : State} (h : PassiveTrue s) (p : Nat) (x : UnitState) :
    FlagsFollow (s.setUnitState p x) :=
  (flagsFollow_refreshUnsettled (s := s.modifyUnit p fun u => { u with state := x })
    (h.of_same rfl fun _ => rfl)).noticeUnitAt p

/-! ### The walk -/

theorem FlagsFollow.offer {s : State} (h : FlagsFollow s) (x : Step) : FlagsFollow (s.offer x) :=
  h.of_comb rfl rfl rfl

theorem FlagsFollow.modifyWalker {s : State} (h : FlagsFollow s) (f : Walker → Walker) : FlagsFollow (s.modifyWalker f) :=
  h.of_comb rfl rfl rfl

theorem FlagsFollow.endWalk {s : State} (h : FlagsFollow s) : FlagsFollow s.endWalk := by
  unfold State.endWalk
  dsimp only
  repeat' split
  all_goals exact h.of_same rfl rfl rfl fun _ => rfl

theorem FlagsFollow.setIdentityClash {s : State} (h : FlagsFollow s) (b : Bool) : FlagsFollow (s.setIdentityClash b) :=
  h.of_same rfl rfl rfl fun _ => rfl

theorem FlagsFollow.setChainFull {s : State} (h : FlagsFollow s) (b : Bool) : FlagsFollow (s.setChainFull b) :=
  h.of_same rfl rfl rfl fun _ => rfl

theorem FlagsFollow.probeAnswered {s : State} (h : FlagsFollow s) (i : Word32) (g : Generation) (n : Word16) :
    FlagsFollow (s.probeAnswered i g n) := by
  unfold State.probeAnswered
  repeat' split
  · exact (h.setIdentityClash _).endWalk
  · exact (h.setChainFull _).endWalk
  · exact (h.setIdentityClash _).offer _
  · exact ((h.setIdentityClash _).setChainFull _).endWalk

theorem FlagsFollow.placeAccepted {s : State} (h : FlagsFollow s) (p : Nat) (i : Word32) (g : Generation) (n : Word16) :
    FlagsFollow (s.placeAccepted p i g n) := by
  unfold State.placeAccepted
  split
  · exact h.endWalk
  · have hp : PassiveTrue ((s.forgetPosition p).placeRecord (newUnit p i g n)) :=
      PassiveTrue.of_same h.passive (by simp) (by simp)
    have hn := (flagsFollow_refreshUnsettled hp).noticeUnitAt p
    dsimp only
    split
    · exact hn.offer _
    · exact hn.offer _

theorem FlagsFollow.refuseUnit {s : State} (h : FlagsFollow s) (p : Nat) (c : RefusalCause) (n : Nat) :
    FlagsFollow (s.refuseUnit p c n) := by
  refine FlagsFollow.offer (flagsFollow_setUnitState (s := s.forgetList.modifyUnit p _) ?_ p .refused) _
  exact PassiveTrue.of_same h.passive rfl fun _ => rfl

theorem FlagsFollow.endListing {s : State} (h : FlagsFollow s) (p : Nat) : FlagsFollow (s.endListing p) := by
  refine FlagsFollow.offer (flagsFollow_setUnitState (s := s.forgetList) ?_ p .bridging) _
  exact PassiveTrue.of_same h.passive rfl fun _ => rfl

theorem FlagsFollow.listFrom {s : State} (h : FlagsFollow s) (p i : Nat) : FlagsFollow (s.listFrom p i) := by
  unfold State.listFrom
  split
  · exact h.offer _
  · exact h.endListing p

/-- A record changed but for its state. -/
theorem FlagsFollow.modifyUnit {s : State} (h : FlagsFollow s) (p : Nat) {f : UnitRecord → UnitRecord}
    (hf : ∀ u, (f u).state = u.state) : FlagsFollow (s.modifyUnit p f) := by
  refine ⟨?_, h.passive⟩
  have hany : (s.modifyUnit p f).units.any UnitRecord.unsettles = s.units.any UnitRecord.unsettles := by
    simp only [State.modifyUnit, List.any_map]
    refine congrArg (s.units.any ·) (funext fun u => ?_)
    simp only [Function.comp_apply]
    split
    · simp only [UnitRecord.unsettles, hf]
    · rfl
  rewrite [hany]
  exact h.unsettled

theorem FlagsFollow.listOpened {s : State} (h : FlagsFollow s) (p : Nat) (d : List Byte) : FlagsFollow (s.listOpened p d) := by
  refine FlagsFollow.offer (FlagsFollow.modifyWalker (h.modifyUnit p ?_) _) _
  exact fun _ => rfl

theorem FlagsFollow.loadRead {s : State} (h : FlagsFollow s) (p : Nat) (l : Line) (d : List Byte) :
    FlagsFollow (s.loadRead p l d) := by
  unfold State.loadRead
  split
  · exact h
  · split
    · exact h.refuseUnit _ _ _
    · dsimp only
      split
      · refine FlagsFollow.offer (h.modifyUnit p ?_) _
        exact fun _ => rfl
      · refine FlagsFollow.listFrom (h.modifyUnit p ?_) _ _
        exact fun _ => rfl

theorem FlagsFollow.makeRoom {s : State} (h : FlagsFollow s) : FlagsFollow s.makeRoom :=
  h.of_comb (by simp) (cards_of_units (by simp)) (by simp)

theorem FlagsFollow.admitFunction {s : State} (h : FlagsFollow s) (p i : Nat) (r : FunctionRecord) :
    FlagsFollow (s.admitFunction p i r) := by
  unfold State.admitFunction
  dsimp only
  split
  · refine FlagsFollow.listFrom (h.makeRoom.modifyUnit p ?_) _ _
    exact fun _ => rfl
  · refine FlagsFollow.endListing (h.makeRoom.modifyUnit p ?_) _
    exact fun _ => rfl

theorem FlagsFollow.entryListed {s : State} (h : FlagsFollow s) (p i : Nat) (d : List Byte) :
    FlagsFollow (s.entryListed p i d) := by
  unfold State.entryListed
  split
  · exact h.refuseUnit _ _ _
  · exact h.admitFunction _ _ _

theorem FlagsFollow.entryDeclined {s : State} (h : FlagsFollow s) (p i : Nat) : FlagsFollow (s.entryDeclined p i) := by
  refine FlagsFollow.listFrom (h.modifyUnit p ?_) _ _
  exact fun _ => rfl

theorem FlagsFollow.bridged {s : State} (h : FlagsFollow s) (p : Nat) : FlagsFollow (s.bridged p) := by
  unfold State.bridged
  dsimp only
  split
  · have hs := flagsFollow_setUnitState h.passive p .serving
    have hj : FlagsFollow ((s.setUnitState p .serving).joinRing p) := hs.of_comb (by simp) (by simp) (by simp)
    exact (hj.modifyWalker _).offer _
  · exact (h.modifyWalker _).offer _

theorem FlagsFollow.stepAnswered {s : State} (h : FlagsFollow s) (x : Step) (a : Option (AnswerResult × List Byte)) :
    FlagsFollow (s.stepAnswered x a) := by
  unfold State.stepAnswered
  repeat' split
  all_goals first
    | exact h.probeAnswered _ _ _
    | exact (h.setIdentityClash false).endWalk
    | exact h.placeAccepted _ _ _ _
    | exact h.endWalk
    | exact h.listOpened _ _
    | exact h.refuseUnit _ _ _
    | exact h.loadRead _ _ _
    | exact h.entryListed _ _ _
    | exact h.entryDeclined _ _
    | exact h.bridged _
    | exact h.of_comb (by simp) (by simp) (by simp)

theorem FlagsFollow.handOutcome {s : State} (h : FlagsFollow s) (t : Transaction) (st : Byte)
    (a : Option (AnswerResult × List Byte)) : FlagsFollow (s.handOutcome t st a) := by
  unfold State.handOutcome
  repeat' split
  · exact h.stepAnswered _ _
  · exact h.of_comb (by simp) (cards_of_units (by simp)) (by simp)
  · exact h.of_comb (by simp) (cards_of_units (by simp)) (by simp)
  · exact h.of_comb (by simp) (by simp) (by simp)
  · exact h.of_comb (by simp) (by simp) (by simp)

theorem FlagsFollow.lineWork {s : State} (h : FlagsFollow s) : FlagsFollow s.lineWork :=
  h.of_comb (by simp) (by simp) (by simp)

theorem FlagsFollow.goodAnswer {s : State} (h : FlagsFollow s) (t : Transaction) (st : Byte) (d : List Byte) :
    FlagsFollow (s.goodAnswer t st d) := by
  have hh : FlagsFollow (((s.count .answersGood).setTx none).handFlags t.target st) :=
    h.of_comb (by simp) (cards_of_units (by simp)) (by simp)
  exact (hh.handOutcome t st _).lineWork

theorem FlagsFollow.loseUnits {s : State} (h : FlagsFollow s) (k : Nat) (t : Option Transaction) :
    FlagsFollow (s.loseUnits k t) := by
  have hwork : ∀ u : State, PassiveTrue u → FlagsFollow ((((u.walkerAfterLoss k).setChainFull false).refreshUnsettled).probeAfterLoss) :=
    fun u hu => (flagsFollow_refreshUnsettled (s := (u.walkerAfterLoss k).setChainFull false)
      (hu.of_same rfl fun _ => rfl)).of_comb (by simp) (cards_of_units (by simp)) (by simp)
  refine hwork _ (PassiveTrue.of_same h.passive ?_ fun l => ?_)
  · rewrite [foldl_keeps (fun u => State.comb u) _ fun u r => u.loseRecord_comb r]
    simp
  · rewrite [foldl_keeps (fun u => State.lamps u) _ fun u r => u.loseRecord_lamps r]
    simp

theorem FlagsFollow.offerNext {s : State} (h : FlagsFollow s) : FlagsFollow s.offerNext :=
  h.of_comb (by simp) (cards_of_units (by simp)) (by simp)

theorem FlagsFollow.failedTransaction {s : State} (h : FlagsFollow s) (t : Transaction) :
    FlagsFollow (s.failedTransaction t) := by
  have hn : FlagsFollow (s.setTx none) := h.of_comb rfl rfl rfl
  have hc : FlagsFollow ((s.setTx none).count .transactionsFailed) := h.of_comb rfl rfl rfl
  unfold State.failedTransaction
  dsimp only
  repeat' split
  · exact (hc.loseUnits _ _).offerNext
  · exact ((hn.setIdentityClash false).endWalk).offerNext
  · exact hn.endWalk.offerNext

/-- The state in which a failed attempt is judged: counted, the resync gap running (R24, R25). -/
def State.gapStarted (s : State) (counter : Option Counter) : State :=
  let u := match counter with
    | some c => s.count c
    | none => s
  { u with line := { u.line with gapSince := some u.now } }

theorem State.attemptFailed_cases (s : State) (t : Transaction) (c : Option Counter) :
    (t.attempts < 1 + s.setting .retryLimit
      ∧ s.attemptFailed t c = (s.gapStarted c).setTx (some { t with phase := .resync }))
    ∨ (1 + s.setting .retryLimit ≤ t.attempts ∧ s.attemptFailed t c = (s.gapStarted c).failedTransaction t) := by
  by_cases h : t.attempts < 1 + s.setting .retryLimit
  · exact .inl ⟨h, if_pos h⟩
  · exact .inr ⟨Nat.le_of_not_lt h, if_neg h⟩

section
variable (s : State) (c : Option Counter)
@[simp] theorem State.gapStarted_now : (s.gapStarted c).now = s.now := by cases c <;> rfl
@[simp] theorem State.gapStarted_comb : (s.gapStarted c).comb = s.comb := by cases c <;> rfl
@[simp] theorem State.gapStarted_sense : (s.gapStarted c).sense = s.sense := by cases c <;> rfl
@[simp] theorem State.gapStarted_line : (s.gapStarted c).line = { s.line with gapSince := some s.now } := by cases c <;> rfl
@[simp] theorem State.gapStarted_walker : (s.gapStarted c).walker = s.walker := by cases c <;> rfl
@[simp] theorem State.gapStarted_units : (s.gapStarted c).units = s.units := by cases c <;> rfl
@[simp] theorem State.gapStarted_cache : (s.gapStarted c).cache = s.cache := by cases c <;> rfl
@[simp] theorem State.gapStarted_lamps : (s.gapStarted c).lamps = s.lamps := by cases c <;> rfl
@[simp] theorem State.gapStarted_flash : (s.gapStarted c).flash = s.flash := by cases c <;> rfl
@[simp] theorem State.gapStarted_claims : (s.gapStarted c).claims = s.claims := by cases c <;> rfl
@[simp] theorem State.gapStarted_slots : (s.gapStarted c).slots = s.slots := by cases c <;> rfl
@[simp] theorem State.gapStarted_settings : (s.gapStarted c).settings = s.settings := by cases c <;> rfl
@[simp] theorem State.gapStarted_setup : (s.gapStarted c).setup = s.setup := by cases c <;> rfl
@[simp] theorem State.gapStarted_port : (s.gapStarted c).port = s.port := by cases c <;> rfl
@[simp] theorem State.gapStarted_pending : (s.gapStarted c).pending = s.pending := by cases c <;> rfl
end

theorem FlagsFollow.attemptFailed {s : State} (h : FlagsFollow s) (t : Transaction) (c : Option Counter) :
    FlagsFollow (s.attemptFailed t c) := by
  have hg : FlagsFollow (s.gapStarted c) := h.of_comb (by simp) (cards_of_units (by simp)) (by simp)
  obtain ⟨-, e⟩ | ⟨-, e⟩ := s.attemptFailed_cases t c
  · rewrite [e]
    exact hg.of_comb rfl rfl rfl
  · rewrite [e]
    exact hg.failedTransaction t

/-! ### Bytes received: one case analysis for every law -/

/-- A byte received leaves the line alone but for a running gap or the bytes kept; or it judges the attempt failed or the answer good
(R23, R25). -/
theorem State.receiveByte_cases (s : State) (b : Byte) :
    s.receiveByte b = s
    ∨ s.receiveByte b = { s with line := { s.line with gapSince := s.line.gapSince.map fun _ => s.now } }
    ∨ ∃ t since received, s.line.tx = some t ∧ t.phase = .awaiting since received
      ∧ (s.receiveByte b = s.setTx (some { t with phase := .awaiting s.now (received ++ [b]) })
        ∨ s.receiveByte b = s.attemptFailed t (some .checkErrors)
        ∨ ∃ status payload, s.receiveByte b = s.goodAnswer t status payload) := by
  unfold State.receiveByte
  cases ht : s.line.tx with
  | none => exact .inr (.inl rfl)
  | some t =>
    cases hp : t.phase with
    | calling => exact .inl (by simp only [hp])
    | resync => exact .inr (.inl (by simp only [hp]))
    | awaiting since received =>
      refine .inr (.inr ⟨t, since, received, rfl, hp, ?_⟩)
      simp only [hp]
      split
      · exact .inr (.inl rfl)
      · split
        · unfold State.judgeFrame
          split
          · exact .inr (.inr ⟨_, _, rfl⟩)
          · exact .inr (.inl rfl)
        · exact .inl rfl

/-- What a byte keeps, bytes keep. -/
theorem receiveBytes_keeps {P : State → Prop} (hb : ∀ s b, P s → P (s.receiveByte b)) (bs : List Byte) :
    ∀ s, P s → P (s.receiveBytes bs) := by
  induction bs with
  | nil => exact fun _ h => h
  | cons b bs ih => exact fun s h => ih _ (hb s b h)

theorem FlagsFollow.receiveByte {s : State} (b : Byte) (h : FlagsFollow s) : FlagsFollow (s.receiveByte b) := by
  obtain e | e | ⟨t, since, received, -, -, e | e | ⟨st, d, e⟩⟩ := s.receiveByte_cases b
  · rwa [e]
  · rewrite [e]
    exact h.of_comb rfl rfl rfl
  · rewrite [e]
    exact h.of_comb rfl rfl rfl
  · rewrite [e]
    exact h.attemptFailed _ _
  · rewrite [e]
    exact h.goodAnswer _ _ _

end Sys2Proof.Machine
end

section
/-! PROOFS. UNSETTLED and PASSIVE-LOAD over a step: the lamp side, the combination, and the statement. -/
namespace Sys2Proof.Machine

/-! ### The verdicts -/

theorem verdicts_map (s : State) {f : Line → LampLine → LampLine} (hf : ∀ l x, (f l x).verdict.verdict = x.verdict.verdict)
    (l : Line) : ((s.lamps.map f).get l).verdict.verdict = (s.lamps.get l).verdict.verdict := by
  simpa using hf l (s.lamps.get l)

theorem FlagsFollow.mapLamps {s : State} (h : FlagsFollow s) {f : Line → LampLine → LampLine}
    (hf : ∀ l x, (f l x).verdict.verdict = x.verdict.verdict) : FlagsFollow { s with lamps := s.lamps.map f } :=
  h.of_same rfl rfl rfl (verdicts_map s hf)

theorem FlagsFollow.resolveSwitches {s : State} (h : FlagsFollow s) (b : Bool) : FlagsFollow (s.resolveSwitches b) :=
  h.mapLamps fun l x => by rw [LampLine.follow_verdict]

theorem FlagsFollow.changeRequests {s : State} (h : FlagsFollow s) (k : PerSlot SlotState) :
    FlagsFollow (s.changeRequests k) := by
  have hm := h.mapLamps (f := fun l x => x.requestChanged (inLineSet (requestedBy s.slots) l) (inLineSet (requestedBy k) l) s.now)
    fun l x => by
      unfold LampLine.requestChanged
      repeat' split
      all_goals rfl
  refine FlagsFollow.resolveSwitches ?_ _
  exact hm.of_same rfl rfl rfl fun _ => rfl

theorem FlagsFollow.modifyLine {s : State} (h : FlagsFollow s) (l : Line) {f : LampLine → LampLine}
    (hf : ∀ x, (f x).verdict.verdict = x.verdict.verdict) : FlagsFollow (s.modifyLine l f) := by
  refine h.of_same rfl rfl rfl fun j => ?_
  by_cases hj : j = l
  · subst hj
    simpa [State.modifyLine] using hf (s.lamps.get j)
  · simp [State.modifyLine, hj]

theorem FlagsFollow.verdictChanged {s : State} (h : s.comb.unsettled = s.units.any UnitRecord.unsettles) (l : Line) :
    FlagsFollow (s.verdictChanged l) := by
  refine FlagsFollow.refreshPassive ?_
  simpa using h

/-- A line's verdict record replaced: PASSIVE-LOAD is recomputed where the verdict has changed (R124). -/
theorem FlagsFollow.setVerdict {s : State} (h : FlagsFollow s) (l : Line) (w : VerdictRecord) :
    FlagsFollow (if w.verdict = (s.lamps.get l).verdict.verdict then s.modifyLine l fun x => { x with verdict := w }
      else (s.modifyLine l fun x => { x with verdict := w }).verdictChanged l) := by
  split
  · next hw =>
    refine h.of_same rfl rfl rfl fun j => ?_
    by_cases hj : j = l
    · subst hj
      simpa [State.modifyLine] using hw
    · simp [State.modifyLine, hj]
  · exact .verdictChanged (s := s.modifyLine l _) h.unsettled l

theorem FlagsFollow.shortVerdict {s : State} (h : FlagsFollow s) (l : Line) (m : Option (Nat × Nat)) :
    FlagsFollow (s.shortVerdict l m) := by
  have hs := h.setVerdict l ((s.lamps.get l).verdict.short m)
  have hw : ((s.lamps.get l).verdict.short m).verdict = (s.lamps.get l).verdict.verdict
      ↔ (s.lamps.get l).verdict.verdict = .short := eq_comm
  simpa only [State.shortVerdict, hw] using hs

theorem FlagsFollow.classified {s : State} (h : FlagsFollow s) (l : Line) (m u : Nat) : FlagsFollow (s.classified l m u) :=
  h.setVerdict l ((s.lamps.get l).verdict.debounce (s.figures l m u))

theorem FlagsFollow.tripLine {s : State} (h : FlagsFollow s) (l : Line) (m : Option (Nat × Nat)) :
    FlagsFollow (s.tripLine l m) := by
  have h1 : FlagsFollow ((s.modifyLine l fun x => x.trip_ (s.setting .tripAttempts) s.now).resolveSwitches false) :=
    (h.modifyLine l fun x => by unfold LampLine.trip_; split <;> rfl).resolveSwitches _
  exact (h1.shortVerdict l m).of_comb (by simp [State.tripLine]) (cards_of_units (by simp)) (by simp [State.tripLine])

theorem FlagsFollow.measure {s : State} (h : FlagsFollow s) (l : Line) (m u : Nat) : FlagsFollow (s.measure l m u) := by
  have hp (p : Presence) : FlagsFollow (s.setPresence l p) := h.modifyLine l fun _ => rfl
  have hq : FlagsFollow (s.presented l m) := (hp _).modifyLine l fun x => by
    unfold LampLine.ranClear
    repeat' split
    all_goals rfl
  obtain ⟨-, e⟩ | ⟨-, -, e⟩ | ⟨-, -, e⟩ := s.measure_cases l m u
  · rewrite [e]
    exact (hp _).tripLine l _
  · rewrite [e]
    refine hq.modifyLine l ?_
    exact fun _ => rfl
  · rewrite [e]
    exact hq.classified l m u

/-! ### The port -/

theorem FlagsFollow.wake {s : State} (h : FlagsFollow s) (c : WakeCause) : FlagsFollow (s.wake c) := by
  unfold State.wake
  split
  · exact h
  · exact h.of_same rfl rfl rfl fun _ => rfl

theorem FlagsFollow.offerIntake {s : State} (h : FlagsFollow s) (e : IntakeEntry) : FlagsFollow (s.offerIntake e) := by
  have hb : FlagsFollow (s.count .requestsBusy) := h.of_comb rfl rfl rfl
  unfold State.offerIntake State.refuseBusy
  dsimp only
  repeat' split
  · exact hb.answer _ _ _ _
  · exact hb.of_comb rfl rfl rfl
  · exact h.of_comb rfl rfl rfl

theorem FlagsFollow.lampSet {s : State} (h : FlagsFollow s) (k : Slot) (q l w : Byte) : FlagsFollow (s.lampSet k q l w) := by
  have hc := h.changeRequests (s.slots.set k { s.slots.get k with
    requestSet := l &&& coveredLines (s.settings.slotWord.get k), refreshSince := s.now, refreshExpired := false })
  unfold State.lampSet
  dsimp only
  split
  · refine FlagsFollow.of_comb (s := s.changeSlot k _) hc (by simp) (cards_of_units (by simp)) (by simp)
  · exact hc

theorem FlagsFollow.hearFrame {s : State} (h : FlagsFollow s) (f : BusFrame) : FlagsFollow (s.hearFrame f) := by
  unfold State.hearFrame State.acceptRequest
  repeat' split
  · exact h
  · exact h.wake _
  · exact h.of_comb rfl rfl rfl
  · exact h.lampSet _ _ _ _
  · exact h.offerIntake _
  · exact h

theorem FlagsFollow.writeWord {s : State} (h : FlagsFollow s) (n : Setting) (w : Word32) : FlagsFollow (s.writeWord n w) := by
  have hstore : FlagsFollow (s.storeWord n w) := h.of_comb rfl rfl rfl
  unfold State.writeWord
  dsimp only
  split
  · refine FlagsFollow.changeRequests ?_ _
    split
    · exact hstore.of_comb rfl (State.dropSubscriptions_cards _ _) rfl
    · exact hstore
  · refine hstore.mapLamps ?_
    intro l x
    split <;> rfl
  · exact hstore

theorem FlagsFollow.decideWrite {s : State} (h : FlagsFollow s) (e : IntakeEntry) (n : Setting) (w : Word32) :
    FlagsFollow (s.decideWrite e n w) := by
  have hdone (v : Word32) : FlagsFollow ((s.writeWord n v).takeHolder n e.slot) := by
    unfold State.takeHolder
    split
    · exact (h.writeWord n v).of_comb rfl rfl rfl
    · exact h.writeWord n v
  unfold State.decideWrite
  repeat' split
  all_goals first
    | exact h.answer _ _ _ _
    | exact (hdone _).answer _ _ _ _

/-! ### The combination -/

/-- Retiring a list of records leaves those at other positions. -/
theorem retire_units (l : List UnitRecord) : ∀ s : State,
    (l.foldl State.retireUnit s).units = s.units.filter fun v => l.all fun u => v.position ≠ u.position := by
  induction l with
  | nil => exact fun s => by simp
  | cons u l ih =>
    intro s
    have hu : (s.retireUnit u).units = s.units.filter fun v => v.position ≠ u.position := by
      unfold State.retireUnit
      dsimp only
      split <;> rfl
    rewrite [List.foldl_cons, ih, hu, List.filter_filter]
    simp [Bool.and_comm]

/-- The drop leaves no unit record (R12). -/
theorem State.units_drop (s : State) (next : CombState) : (s.drop next).units = [] := by
  have h : ((s.dropped.unitsFrom 0).foldl State.retireUnit s.dropped).units = [] := by
    rewrite [retire_units]
    simp only [State.unitsFrom, List.all_reverse, List.filter_eq_nil_iff]
    intro v hv hall
    have := List.all_eq_true.mp hall v (by simpa using hv)
    simp at this
  rewrite [State.drop_eq]
  generalize (s.dropped.unitsFrom 0).foldl State.retireUnit s.dropped = d at h ⊢
  exact h

theorem FlagsFollow.drop {s : State} (h : FlagsFollow s) (next : CombState) : FlagsFollow (s.drop next) := by
  refine ⟨?_, PassiveTrue.of_same h.passive ?_ fun l => ?_⟩
  · rewrite [s.drop_comb, s.units_drop]
    rfl
  · rw [s.drop_comb]
  · rw [s.drop_lamps]

theorem FlagsFollow.enterSettling {s : State} (h : FlagsFollow s) : FlagsFollow s.enterSettling :=
  h.of_same rfl rfl rfl fun _ => rfl

theorem FlagsFollow.reach {s : State} (h : FlagsFollow s) (n : Nat) : FlagsFollow (s.reach n) := h.of_comb rfl rfl rfl

theorem flagsFollow_powerOn (s : State) (c : ResetCause) : FlagsFollow (s.powerOn c) := by
  refine ⟨rfl, ?_⟩
  have hl (l : Line) : ((s.powerOn c).lamps.get l).verdict.verdict = .pending := by cases l <;> rfl
  simp only [hl]
  rfl

theorem flagsFollow_combinationReset (s : State) : FlagsFollow s.combinationReset := by
  refine ⟨rfl, ?_⟩
  have hl (l : Line) : (s.combinationReset.lamps.get l).verdict.verdict = .pending := by
    simp [State.combinationReset, VerdictRecord.cleared]
  simp only [hl]
  rfl

/-! ### Claims -/

theorem FlagsFollow.proceed {s : State} (h : FlagsFollow s) (c : Claim) (f : FunctionEntry) (cmd : Command)
    (e : IntakeEntry) : FlagsFollow (s.proceed c f cmd e) := by
  cases cmd <;> exact h.of_comb (by simp [State.proceed]) (cards_of_units (by simp [State.proceed])) (by simp [State.proceed])

theorem FlagsFollow.decideActuate {s : State} (h : FlagsFollow s) (e : IntakeEntry) (f : FunctionEntry) (cmd : Command)
    (p i : Nat) : FlagsFollow (s.decideActuate e f cmd p i) := by
  unfold State.decideActuate
  repeat' split
  · refine FlagsFollow.lineWork (FlagsFollow.proceed ?_ _ _ _ _)
    exact h.of_comb rfl rfl rfl
  · refine FlagsFollow.answer (s := s.count .requestsBusy) ?_ _ _ _ _
    exact h.of_comb rfl rfl rfl
  · exact h.answer _ _ _ _
  · exact (h.proceed _ _ _ _).lineWork
  · exact h.answer _ _ _ _

theorem FlagsFollow.relinquish {s : State} (h : FlagsFollow s) (c : Claim) (b : Bool) : FlagsFollow (s.relinquish c b) := by
  unfold State.relinquish
  split
  all_goals exact h.of_comb (by simp) (cards_of_units (by simp)) (by simp)

theorem FlagsFollow.noticeClaimEnd {s : State} (h : FlagsFollow s) (c : Claim) (r : EndReason) :
    FlagsFollow (s.noticeClaimEnd c r) := h.of_comb (by simp) (cards_of_units (by simp)) (by simp)

theorem FlagsFollow.requestAccess {s : State} (h : FlagsFollow s) (e : IntakeEntry) (k : AccessKind) :
    FlagsFollow (s.requestAccess e k) := by
  unfold State.requestAccess
  repeat' split
  · exact h.answer _ _ _ _
  · exact h.answer _ _ _ _
  · exact h.answer _ _ _ _
  · refine FlagsFollow.answer (s := s.count .requestsBusy) ?_ _ _ _ _
    exact h.of_comb rfl rfl rfl
  · refine FlagsFollow.lineWork ?_
    exact h.of_comb rfl rfl rfl

/-! ### The commands -/

/-- The trailer line and the sensors. -/
theorem FlagsFollow.trailer {c : Instr} (hc : TrailerCommand c) {s t : State} (hs : FlagsFollow s)
    (h : exec c s = .next t) : FlagsFollow t := by
  cases hc with
  | callSent =>
    dsimp only [exec, execCallSent] at h
    refine powered_keeps hs (fun _ => ?_) h
    repeat' split
    · exact hs.of_comb rfl rfl rfl
    all_goals exact hs
  | answerWindowExpiry | byteGapTimeout =>
    dsimp only [exec, execAnswerWindowExpiry, execByteGapTimeout] at h
    refine hs.event ?_ h
    repeat' split
    · exact (hs.reach _).attemptFailed _ _
    all_goals exact hs
  | lengthByteError bs | answerFrameComplete bs =>
    dsimp only [exec, execLengthByteError, execAnswerFrameComplete] at h
    exact hs.event (receiveBytes_keeps (fun _ b h => h.receiveByte b) bs s hs) h
  | discardedByte b | answerByteReceived b =>
    dsimp only [exec, execDiscardedByte, execAnswerByteReceived] at h
    exact hs.event (hs.receiveByte b) h
  | resyncGapEnd =>
    dsimp only [exec, execResyncGapEnd] at h
    refine powered_keeps hs (fun _ => ?_) h
    repeat' split
    · exact hs.of_comb rfl rfl rfl
    · refine FlagsFollow.lineWork ?_
      exact hs.of_comb rfl rfl rfl
    · exact hs
  | pollDue p i =>
    dsimp only [exec, execPollDue] at h
    refine powered_keeps hs (fun _ => ?_) h
    repeat' split
    · exact (hs.reach _).lineWork
    all_goals exact hs
  | extensionTimerExpiry =>
    dsimp only [exec, execExtensionTimerExpiry] at h
    refine powered_keeps hs (fun _ => ?_) h
    split
    · exact ((hs.reach _).modifyWalker _).lineWork
    · exact hs
  | feedStartWaitExpiry =>
    dsimp only [exec, execFeedStartWaitExpiry] at h
    refine hs.event ?_ h
    split
    · refine FlagsFollow.lineWork ?_
      exact hs.of_same rfl rfl rfl fun _ => rfl
    · exact hs
  | stalenessThreshold p i =>
    dsimp only [exec, execStalenessThreshold] at h
    refine hs.event ?_ h
    repeat' split
    · refine (hs.reach _).of_comb (by simp) ((State.testSubscriptions_cards _ _ _ _).trans (State.writeValue_cards _ _ _ _))
        (by simp)
    all_goals exact hs
  | senseSubscribe | senseUnsubscribe =>
    dsimp only [exec, execSenseSubscribe, execSenseUnsubscribe] at h
    refine powered_keeps hs (fun _ => hs.taking fun e u hu => ?_) h
    repeat' split
    · exact hu.answer _ _ _ _
    · exact hu.answer _ _ _ _
    · refine FlagsFollow.answer ?_ _ _ _ _
      exact hu.of_comb (by simp) (by simp) (by simp)
  | actuate =>
    dsimp only [exec, execActuate] at h
    refine hs.event (hs.taking fun e u hu => ?_) h
    repeat' split
    all_goals first
      | exact hu.answer _ _ _ _
      | exact hu.decideActuate _ _ _ _ _
  | holdTimeExpiry p i =>
    dsimp only [exec, execHoldTimeExpiry] at h
    refine hs.event ?_ h
    repeat' split
    · next since _ _ _ =>
      refine FlagsFollow.lineWork (FlagsFollow.noticeClaimEnd ?_ _ _)
      exact (hs.reach (since + s.setting .momentaryHold)).of_comb (by simp) (cards_of_units (by simp)) (by simp)
    all_goals exact hs
  | release =>
    dsimp only [exec, execRelease] at h
    refine hs.event (hs.taking fun e u hu => ?_) h
    repeat' split
    all_goals first
      | exact hu.answer _ _ _ _
      | exact ((hu.answer _ _ _ _).relinquish _ _).lineWork
  | forceRelease =>
    dsimp only [exec, execForceRelease] at h
    refine hs.event (hs.taking fun e u hu => ?_) h
    repeat' split
    all_goals first
      | exact hu.answer _ _ _ _
      | exact (((hu.answer _ _ _ _).noticeClaimEnd _ _).relinquish _ _).lineWork
  | unitParamRead | unitParamWrite =>
    dsimp only [exec, execUnitParamRead, execUnitParamWrite] at h
    exact hs.event (hs.taking fun e u hu => hu.requestAccess _ _) h

/-- The combination and its inputs. -/
inductive CombCommand : Instr → Prop
  | powerOnReset : CombCommand .powerOnReset
  | lowSupplyReset : CombCommand .lowSupplyReset
  | lowSupplyRelease : CombCommand .lowSupplyRelease
  | fullResetWaitEnd : CombCommand .fullResetWaitEnd
  | sampleInstant (p i : Bool) (l : Byte) : CombCommand (.sampleInstant p i l)
  | attachDebounceExpiry : CombCommand .attachDebounceExpiry
  | parkDelayExpiry : CombCommand .parkDelayExpiry
  | selfWake (p : Bool) (l : Byte) : CombCommand (.selfWake p l)
  | ignitionWake : CombCommand .ignitionWake
  | startWaitExpiry : CombCommand .startWaitExpiry
  | feedOffTimeExpiry : CombCommand .feedOffTimeExpiry
  | combinationReset : CombCommand .combinationReset

theorem FlagsFollow.combination {c : Instr} (hc : CombCommand c) {s t : State} (hs : FlagsFollow s)
    (h : exec c s = .next t) : FlagsFollow t := by
  cases hc with
  | powerOnReset => exact next_keeps (flagsFollow_powerOn s _) h
  | lowSupplyReset =>
    refine next_keeps ?_ h
    have hp := flagsFollow_powerOn s .lowSupply
    exact hp.of_same rfl rfl rfl fun _ => rfl
  | lowSupplyRelease =>
    refine next_keeps ?_ h
    split
    · exact flagsFollow_powerOn s _
    · exact hs
  | fullResetWaitEnd =>
    dsimp only [exec, execFullResetWaitEnd] at h
    refine powered_keeps hs (fun _ => ?_) h
    split
    · exact flagsFollow_powerOn _ _
    · exact hs
  | sampleInstant p i l =>
    dsimp only [exec, execSampleInstant] at h
    refine hs.event ?_ h
    split
    · next due _ =>
      have hm : FlagsFollow (((s.reach due).sampleInputs p i).senseLines l) :=
        FlagsFollow.mapLamps (s := (s.reach due).sampleInputs p i) (hs.of_comb rfl rfl rfl) fun l x => by
          unfold LampLine.countSample
          dsimp only
          repeat' split
          all_goals rfl
      exact hm.of_comb rfl rfl rfl
    · exact hs
  | attachDebounceExpiry =>
    dsimp only [exec, execAttachDebounceExpiry] at h
    refine hs.event ?_ h
    split
    · split
      · split
        · exact hs.of_same rfl rfl rfl fun _ => rfl
        · exact (hs.reach _).enterSettling
      · exact (hs.reach _).drop _
      · exact (hs.reach _).drop _
      · exact (hs.reach _).drop _
      · exact hs
    · exact hs
  | parkDelayExpiry =>
    dsimp only [exec, execParkDelayExpiry] at h
    refine hs.event ?_ h
    split
    · next since _ =>
      split
      · have hd := (hs.reach (since + s.parkDelayMs)).drop .parked
        rewrite [State.enterParked_eq]
        generalize (s.reach (since + s.parkDelayMs)).drop .parked = d at hd
        exact (hd.mapLamps (f := fun _ x => { x with agree := none }) fun _ _ => rfl).of_same rfl rfl rfl fun _ => rfl
      · exact hs
    · exact hs
  | selfWake p l =>
    dsimp only [exec, execSelfWake] at h
    refine hs.event ?_ h
    split
    · split
      · exact hs.of_same rfl rfl rfl fun _ => rfl
      · refine FlagsFollow.wake ?_ _
        exact hs.of_same rfl rfl rfl fun _ => rfl
    · exact hs
  | ignitionWake =>
    dsimp only [exec, execIgnitionWake] at h
    refine hs.event ?_ h
    split
    · refine FlagsFollow.wake ?_ _
      exact hs.of_same rfl rfl rfl fun _ => rfl
    · exact hs
  | startWaitExpiry =>
    have hm := hs.mapLamps (f := fun l x => if s.senseEnabled l then
      { x with agree := none, verdict := { x.verdict with presence := s.sense.parkedLines.get l } }
    else { x with agree := none }) fun l x => by split <;> rfl
    dsimp only [exec, execStartWaitExpiry] at h
    refine hs.event ?_ h
    split
    · split
      · split
        · exact hm.of_same rfl rfl rfl fun _ => rfl
        · exact hm.of_same rfl rfl rfl fun _ => rfl
      · exact hm.of_same rfl rfl rfl fun _ => rfl
    · exact hs
  | feedOffTimeExpiry =>
    dsimp only [exec, execFeedOffTimeExpiry] at h
    refine hs.event ?_ h
    split
    · split
      · exact hs.of_same rfl rfl rfl fun _ => rfl
      · exact hs.of_same rfl rfl rfl fun _ => rfl
    · exact hs
  | combinationReset =>
    dsimp only [exec, execCombinationReset] at h
    refine powered_keeps hs (fun _ => hs.taking fun e u hu => ?_) h
    split
    · have hr := flagsFollow_combinationReset (u.answer e .done)
      exact hr.of_same (by simp [State.retimed_comb]) (by simp [State.retimed_comb]) (cards_of_units (by simp)) (by simp)
    · exact hu.answer _ _ _ _

theorem exec_keeps_flagsFollow (c : Instr) (s t : State) (hs : FlagsFollow s) (h : exec c s = .next t) : FlagsFollow t := by
  cases c with
  | combinationRead | unitRead | functionRead | verdictRead | senseRead | refusedFormat | refusedUnknown | settingRead
    | partStatusRead | countersDump | countersDumpReset | fullReset | setupClose | setupDeadlineExpiry | noticeRoute
    | frameTransmitted | busOffEntry | busOffExit => exact (PortCommand.undisturbed (by constructor) h).flagsFollow hs
  | callSent | answerWindowExpiry | byteGapTimeout | lengthByteError | answerFrameComplete | discardedByte
    | answerByteReceived | resyncGapEnd | pollDue | extensionTimerExpiry | feedStartWaitExpiry | stalenessThreshold
    | senseSubscribe | senseUnsubscribe | actuate | holdTimeExpiry | release | forceRelease | unitParamRead
    | unitParamWrite => exact hs.trailer (by constructor) h
  | powerOnReset | lowSupplyReset | lowSupplyRelease | fullResetWaitEnd | sampleInstant | attachDebounceExpiry
    | parkDelayExpiry | selfWake | ignitionWake | startWaitExpiry | feedOffTimeExpiry | combinationReset =>
    exact hs.combination (by constructor) h
  | busFrameWake f =>
    dsimp only [exec, execBusFrameWake] at h
    refine hs.event ?_ h
    split
    · exact hs.hearFrame f
    · exact hs
  | requestFrame f =>
    dsimp only [exec, execRequestFrame] at h
    exact hs.event (hs.hearFrame f) h
  | lampSet =>
    dsimp only [exec, execLampSet] at h
    exact hs.event (hs.hearFrame _) h
  | refreshWindowExpiry k =>
    dsimp only [exec, execRefreshWindowExpiry] at h
    refine hs.event ?_ h
    split
    · exact hs
    · exact (hs.reach _).changeRequests _
  | flashPhaseEnd =>
    dsimp only [exec, execFlashPhaseEnd] at h
    refine hs.event ?_ h
    split
    · exact hs
    · have he := hs.mapLamps (f := fun l x => x.endOnPhase l) fun l x => by
        unfold LampLine.endOnPhase
        repeat' split
        all_goals rfl
      refine FlagsFollow.resolveSwitches ?_ _
      exact he.of_same rfl rfl rfl fun _ => rfl
    · refine FlagsFollow.resolveSwitches ?_ _
      exact hs.of_comb rfl rfl rfl
  | switchFaultIndication l =>
    dsimp only [exec, execSwitchFaultIndication] at h
    refine hs.event ?_ h
    split
    · exact hs.tripLine l _
    · exact hs
  | restartDelayExpiry l =>
    dsimp only [exec, execRestartDelayExpiry] at h
    refine hs.event ?_ h
    split
    · refine FlagsFollow.resolveSwitches ((hs.reach _).modifyLine l ?_) _
      exact fun _ => rfl
    · exact hs
  | lineReset =>
    dsimp only [exec, execLineReset] at h
    refine hs.event (hs.taking fun e u hu => ?_) h
    repeat' split
    · exact hu.answer _ _ _ _
    · exact hu.answer _ _ _ _
    · exact hu.answer _ _ _ _
    · refine FlagsFollow.answer (FlagsFollow.resolveSwitches (hu.modifyLine _ ?_) _) _ _ _ _
      exact fun _ => rfl
  | measurementInstant l c1 c2 c3 c4 =>
    dsimp only [exec, execMeasurementInstant] at h
    refine hs.event ?_ h
    split
    · exact (hs.reach _).measure _ _ _
    · exact hs
  | settingWrite =>
    dsimp only [exec, execSettingWrite] at h
    refine hs.event (hs.taking fun e u hu => ?_) h
    split
    · exact hu.answer _ _ _ _
    · exact hu.decideWrite _ _ _
  | settingFieldWrite =>
    dsimp only [exec, execSettingFieldWrite] at h
    refine hs.event (hs.taking fun e u hu => ?_) h
    repeat' split
    · exact hu.answer _ _ _ _
    · exact hu.answer _ _ _ _
    · exact hu.decideWrite _ _ _

/-- Settles O56: every operation that moves a unit state or a verdict re-evaluates its flag. -/
theorem stepKeepsFlags : Obligations.StepKeepsFlags := fun _ _ hs h =>
  step_keeps (fun _ _ h => h.of_comb rfl rfl rfl) (fun _ h => h.of_comb rfl rfl rfl) exec_keeps_flagsFollow hs h

end Sys2Proof.Machine
end

section
/-! PROOFS. What the work of the trailer line does to the combination record, and what the combination state rules out (R9 to R17)
over a step. -/
namespace Sys2Proof.Machine

/-- The combination record but for what the walk writes and the two timers of chapter 1. -/
def Combination.steady (c : Combination) : Combination :=
  { c with
    state := .detached, unsettled := false, chainFull := false, identityClash := false
    attachSince := none, parkSince := none, entryWaiting := false }

/-- BUILDING or SERVING. -/
def State.busy (s : State) : Prop := s.comb.state = .building ∨ s.comb.state = .serving

/-- The work of the trailer line stays within BUILDING and SERVING and writes nothing else of the combination record. -/
structure Works (s t : State) : Prop where
  steady : t.comb.steady = s.comb.steady
  busy : s.busy → t.busy
  idle : ¬ s.busy → t.comb.state = s.comb.state

theorem Works.of_state {s t : State} (h : t.comb.steady = s.comb.steady) (hs : t.comb.state = s.comb.state) : Works s t :=
  ⟨h, fun hb => by unfold State.busy; rwa [hs], fun _ => hs⟩

theorem Works.of_comb {s t : State} (h : t.comb = s.comb) : Works s t := .of_state (by rw [h]) (by rw [h])

theorem Works.refl (s : State) : Works s s := .of_comb rfl

theorem Works.trans {s t u : State} (h : Works s t) (k : Works t u) : Works s u :=
  ⟨k.steady.trans h.steady, fun hb => k.busy (h.busy hb), fun hb =>
    have e := h.idle hb
    (k.idle (by unfold State.busy; rwa [e])).trans e⟩

theorem Works.feed {s t : State} (h : Works s t) : t.comb.feed = s.comb.feed := by
  have e : t.comb.steady.feed = s.comb.steady.feed := by rw [h.steady]
  exact e
theorem Works.feedStartSince {s t : State} (h : Works s t) : t.comb.feedStartSince = s.comb.feedStartSince := by
  have e : t.comb.steady.feedStartSince = s.comb.steady.feedStartSince := by rw [h.steady]
  exact e
theorem Works.startWaitSince {s t : State} (h : Works s t) : t.comb.startWaitSince = s.comb.startWaitSince := by
  have e : t.comb.steady.startWaitSince = s.comb.steady.startWaitSince := by rw [h.steady]
  exact e

/-! ### The operations of the walk -/

theorem works_setIdentityClash (s : State) (b : Bool) : Works s (s.setIdentityClash b) := .of_state rfl rfl
theorem works_setChainFull (s : State) (b : Bool) : Works s (s.setChainFull b) := .of_state rfl rfl
theorem works_refreshUnsettled (s : State) : Works s s.refreshUnsettled := .of_state rfl rfl

theorem works_endWalk (s : State) : Works s s.endWalk := by
  unfold State.endWalk
  dsimp only
  repeat' split
  · exact .of_comb rfl
  · next hb _ => exact ⟨rfl, fun _ => .inr rfl, fun h => absurd (.inl hb) h⟩
  · exact .of_comb rfl
  · exact .of_comb rfl

theorem works_probeUnanswered (s : State) : Works s s.probeUnanswered :=
  (works_setIdentityClash s false).trans (works_endWalk _)

theorem works_probeAnswered (s : State) (i : Word32) (g : Generation) (n : Word16) : Works s (s.probeAnswered i g n) := by
  unfold State.probeAnswered
  repeat' split
  · exact (works_setIdentityClash s true).trans (works_endWalk _)
  · exact (works_setChainFull s true).trans (works_endWalk _)
  · exact (works_setIdentityClash s false).trans (.of_comb rfl)
  · exact ((works_setIdentityClash s false).trans (works_setChainFull _ true)).trans (works_endWalk _)

theorem works_setUnitState (s : State) (p : Nat) (x : UnitState) : Works s (s.setUnitState p x) :=
  have h := works_refreshUnsettled (s.modifyUnit p fun u => { u with state := x })
  have k := h.trans (.of_comb (State.noticeUnitAt_comb _ p))
  ⟨k.steady, k.busy, k.idle⟩

theorem works_placeAccepted (s : State) (p : Nat) (i : Word32) (g : Generation) (n : Word16) :
    Works s (s.placeAccepted p i g n) := by
  unfold State.placeAccepted
  split
  · exact works_endWalk s
  · have hr : Works s ((s.forgetPosition p).placeRecord (newUnit p i g n)) := .of_comb (by simp)
    have hn : Works s (((s.forgetPosition p).placeRecord (newUnit p i g n)).refreshUnsettled.noticeUnitAt p) :=
      (hr.trans (works_refreshUnsettled _)).trans (.of_comb (by simp))
    dsimp only
    split
    · exact hn.trans (.of_comb rfl)
    · exact hn.trans (.of_comb rfl)

theorem works_refuseUnit (s : State) (p : Nat) (c : RefusalCause) (n : Nat) : Works s (s.refuseUnit p c n) := by
  have h := works_setUnitState (s.forgetList.modifyUnit p fun u =>
    { u with functions := [], partialFlag := false, refusal := some (c, n) }) p .refused
  exact ⟨h.steady, h.busy, h.idle⟩

theorem works_endListing (s : State) (p : Nat) : Works s (s.endListing p) :=
  have h := works_setUnitState s.forgetList p .bridging
  ⟨h.steady, h.busy, h.idle⟩

theorem works_listFrom (s : State) (p i : Nat) : Works s (s.listFrom p i) := by
  unfold State.listFrom
  split
  · exact .of_comb rfl
  · exact works_endListing s p

theorem works_loadRead (s : State) (p : Nat) (l : Line) (d : List Byte) : Works s (s.loadRead p l d) := by
  unfold State.loadRead
  split
  · exact .refl s
  · split
    · exact works_refuseUnit _ _ _ _
    · dsimp only
      split
      · exact .of_comb rfl
      · refine Works.trans (t := s.modifyUnit p _) ?_ (works_listFrom _ _ _)
        exact .of_comb rfl

theorem works_admitFunction (s : State) (p i : Nat) (r : FunctionRecord) : Works s (s.admitFunction p i r) := by
  unfold State.admitFunction
  dsimp only
  split
  · refine Works.trans (t := s.makeRoom.modifyUnit p _) ?_ (works_listFrom _ _ _)
    exact .of_comb (by simp)
  · refine Works.trans (t := s.makeRoom.modifyUnit p _) ?_ (works_endListing _ _)
    exact .of_comb (by simp)

theorem works_bridged (s : State) (p : Nat) : Works s (s.bridged p) := by
  unfold State.bridged
  dsimp only
  split
  · refine Works.trans (works_setUnitState s p .serving) ?_
    exact .of_comb (by simp)
  · exact .of_comb rfl

theorem works_stepAnswered (s : State) (x : Step) (a : Option (AnswerResult × List Byte)) : Works s (s.stepAnswered x a) := by
  unfold State.stepAnswered
  repeat' split
  all_goals first
    | exact works_probeAnswered _ _ _ _
    | exact works_probeUnanswered _
    | exact works_placeAccepted _ _ _ _ _
    | exact works_endWalk _
    | exact works_refuseUnit _ _ _ _
    | exact works_loadRead _ _ _ _
    | exact works_bridged _ _
    | exact .of_comb (by simp)
    | skip
  · unfold State.entryListed
    split
    · exact works_refuseUnit _ _ _ _
    · exact works_admitFunction _ _ _ _
  · refine Works.trans (t := s.modifyUnit _ _) ?_ (works_listFrom _ _ _)
    exact .of_comb rfl

theorem works_handOutcome (s : State) (t : Transaction) (st : Byte) (a : Option (AnswerResult × List Byte)) :
    Works s (s.handOutcome t st a) := by
  unfold State.handOutcome
  repeat' split
  · exact works_stepAnswered _ _ _
  all_goals exact .of_comb (by simp)

theorem works_goodAnswer (s : State) (t : Transaction) (st : Byte) (d : List Byte) : Works s (s.goodAnswer t st d) := by
  have hh : Works s (((s.count .answersGood).setTx none).handFlags t.target st) := .of_comb (by simp)
  exact (hh.trans (works_handOutcome _ t st _)).trans (.of_comb (State.lineWork_comb _))

theorem works_loseUnits (s : State) (k : Nat) (t : Option Transaction) : Works s (s.loseUnits k t) := by
  have hwork (u : State) :
      Works u ((((u.walkerAfterLoss k).setChainFull false).refreshUnsettled).probeAfterLoss) :=
    have h := ((works_setChainFull (u.walkerAfterLoss k) false).trans (works_refreshUnsettled _)).trans
      (.of_comb (State.probeAfterLoss_comb _))
    ⟨h.steady, h.busy, h.idle⟩
  refine Works.trans (.of_comb ?_) (hwork _)
  rewrite [foldl_keeps (fun u => State.comb u) _ fun u r => u.loseRecord_comb r]
  simp

theorem works_failedTransaction (s : State) (t : Transaction) : Works s (s.failedTransaction t) := by
  have hn : Works s (s.setTx none) := .of_comb rfl
  unfold State.failedTransaction
  dsimp only
  repeat' split
  · refine (Works.trans ?_ (works_loseUnits ((s.setTx none).count .transactionsFailed) t.target (some t))).trans
      (.of_comb (by simp))
    exact .of_comb rfl
  · exact (hn.trans (works_probeUnanswered _)).trans (.of_comb (by simp))
  · exact (hn.trans (works_endWalk _)).trans (.of_comb (by simp))

theorem works_attemptFailed (s : State) (t : Transaction) (c : Option Counter) : Works s (s.attemptFailed t c) := by
  have hg : Works s (s.gapStarted c) := .of_comb (by simp)
  obtain ⟨-, e⟩ | ⟨-, e⟩ := s.attemptFailed_cases t c
  · rewrite [e]
    exact hg.trans (.of_comb rfl)
  · rewrite [e]
    exact hg.trans (works_failedTransaction _ t)

theorem works_receiveByte (s : State) (b : Byte) : Works s (s.receiveByte b) := by
  obtain e | e | ⟨t, since, received, -, -, e | e | ⟨st, d, e⟩⟩ := s.receiveByte_cases b
  · rewrite [e]
    exact .refl s
  · rewrite [e]
    exact .of_comb rfl
  · rewrite [e]
    exact .of_comb rfl
  · rewrite [e]
    exact works_attemptFailed _ _ _
  · rewrite [e]
    exact works_goodAnswer _ _ _ _

theorem works_receiveBytes (s : State) (bs : List Byte) : Works s (s.receiveBytes bs) :=
  receiveBytes_keeps (P := Works s) (fun _ b h => h.trans (works_receiveByte _ b)) bs s (.refl s)

/-! ### The claims and the accesses -/

theorem comb_lineWork_proceed (s : State) (c : Claim) (f : FunctionEntry) (cmd : Command) (e : IntakeEntry) :
    (s.proceed c f cmd e).lineWork.comb = s.comb := by
  cases cmd <;> simp [State.proceed]

theorem comb_decideActuate (s : State) (e : IntakeEntry) (f : FunctionEntry) (cmd : Command) (p i : Nat) :
    (s.decideActuate e f cmd p i).comb = s.comb := by
  unfold State.decideActuate
  dsimp only
  repeat' split
  · exact comb_lineWork_proceed _ _ _ _ _
  · rfl
  · rfl
  · exact comb_lineWork_proceed _ _ _ _ _
  · rfl

theorem comb_relinquish (s : State) (c : Claim) (b : Bool) : (s.relinquish c b).comb = s.comb := by
  unfold State.relinquish
  split
  all_goals simp

theorem comb_requestAccess (s : State) (e : IntakeEntry) (k : AccessKind) : (s.requestAccess e k).comb = s.comb := by
  unfold State.requestAccess
  repeat' split
  · rfl
  · rfl
  · rfl
  · rfl
  · simp

/-! ### The commands of the trailer side -/

theorem works_closed (s before : State) : Works s ((s.retimeAttach.retimePark).announce before) :=
  Works.trans (t := s.retimeAttach.retimePark) (.of_state rfl rfl) (.of_comb (by simp))

theorem works_event {f : State → State} {s t : State} (hf : Works s (f s)) (h : event f s = .next t) : Works s t :=
  event_keeps (P := Works s) (.refl s) (fun _ => hf.trans (works_closed _ s)) h

theorem works_powered {f : State → State} {s t : State} (hf : Works s (f s)) (h : powered f s = .next t) : Works s t :=
  powered_keeps (P := Works s) (.refl s) (fun _ => hf) h

theorem works_taking {s : State} {w : IntakeEntry → Bool} {d : IntakeEntry → State → State} (hd : ∀ e u, Works u (d e u)) :
    Works s (s.taking w d) :=
  taking_keeps (P := Works s) (.refl s) fun e rest _ _ _ =>
    Works.trans (t := s.taken rest) (.of_comb rfl) (hd e (s.taken rest))

/-- A command of the trailer side but for the end of the feed start wait. -/
theorem TrailerCommand.works {c : Instr} (hc : TrailerCommand c) (hf : c ≠ .feedStartWaitExpiry) {s t : State}
    (h : exec c s = .next t) : Works s t := by
  cases hc with
  | feedStartWaitExpiry => exact absurd rfl hf
  | callSent =>
    dsimp only [exec, execCallSent] at h
    refine works_powered ?_ h
    repeat' split
    all_goals exact .of_comb rfl
  | answerWindowExpiry | byteGapTimeout =>
    dsimp only [exec, execAnswerWindowExpiry, execByteGapTimeout] at h
    refine works_event ?_ h
    repeat' split
    · exact Works.trans (t := s.reach _) (.of_comb rfl) (works_attemptFailed _ _ _)
    all_goals exact .of_comb rfl
  | lengthByteError bs | answerFrameComplete bs =>
    dsimp only [exec, execLengthByteError, execAnswerFrameComplete] at h
    exact works_event (works_receiveBytes s bs) h
  | discardedByte b | answerByteReceived b =>
    dsimp only [exec, execDiscardedByte, execAnswerByteReceived] at h
    exact works_event (works_receiveByte s b) h
  | resyncGapEnd =>
    dsimp only [exec, execResyncGapEnd] at h
    refine works_powered ?_ h
    repeat' split
    · exact .of_comb rfl
    · exact .of_comb (by simp)
    · exact .of_comb rfl
  | pollDue p i =>
    dsimp only [exec, execPollDue] at h
    refine works_powered ?_ h
    repeat' split
    all_goals exact .of_comb (by simp)
  | extensionTimerExpiry =>
    dsimp only [exec, execExtensionTimerExpiry] at h
    refine works_powered ?_ h
    split
    all_goals exact .of_comb (by simp)
  | stalenessThreshold p i =>
    dsimp only [exec, execStalenessThreshold] at h
    refine works_event ?_ h
    repeat' split
    all_goals exact .of_comb (by simp)
  | senseSubscribe | senseUnsubscribe =>
    dsimp only [exec, execSenseSubscribe, execSenseUnsubscribe] at h
    refine works_powered (works_taking fun e u => ?_) h
    repeat' split
    all_goals exact .of_comb rfl
  | actuate =>
    dsimp only [exec, execActuate] at h
    refine works_event (works_taking fun e u => .of_comb ?_) h
    repeat' split
    all_goals first
      | rfl
      | exact comb_decideActuate _ _ _ _ _ _
  | holdTimeExpiry p i =>
    dsimp only [exec, execHoldTimeExpiry] at h
    refine works_event ?_ h
    repeat' split
    all_goals exact .of_comb (by simp)
  | release =>
    dsimp only [exec, execRelease] at h
    refine works_event (works_taking fun e u => .of_comb ?_) h
    repeat' split
    all_goals first
      | rfl
      | exact (State.lineWork_comb _).trans (comb_relinquish _ _ _)
  | forceRelease =>
    dsimp only [exec, execForceRelease] at h
    refine works_event (works_taking fun e u => .of_comb ?_) h
    repeat' split
    all_goals first
      | rfl
      | exact (State.lineWork_comb _).trans ((comb_relinquish _ _ _).trans (State.noticeClaimEnd_comb _ _ _))
  | unitParamRead | unitParamWrite =>
    dsimp only [exec, execUnitParamRead, execUnitParamWrite] at h
    exact works_event (works_taking fun e u => .of_comb (comb_requestAccess u e _)) h

/-! ### Nothing on the trailer: no unit, no claim, no work (R10, R12, R15) -/

/-- No unit, no claim and no work on the trailer line. -/
structure Empty (s : State) : Prop where
  units : s.units = []
  claims : s.claims = []
  tx : s.line.tx = none
  urgent : s.line.urgent = []
  access : s.line.access = []

theorem StatesFollow.empty {s : State} (h : StatesFollow s) (hb : ¬ s.busy) : Empty s := by
  obtain ⟨h1, h2, h3, h4, h5⟩ := h.quiet (fun e => hb (.inl e)) (fun e => hb (.inr e))
  exact ⟨h1, h2, h3, h4, h5⟩

theorem Empty.of_same {s t : State} (h : Empty s) (hu : t.units = s.units) (hc : t.claims = s.claims)
    (hl : t.line = s.line) : Empty t :=
  ⟨hu.trans h.units, hc.trans h.claims, by rw [hl]; exact h.tx, by rw [hl]; exact h.urgent, by rw [hl]; exact h.access⟩

theorem State.offerNext_idle {s : State} (hb : ¬ s.busy) : s.offerNext = s := by
  unfold State.offerNext
  split
  · rfl
  · rw [if_neg (by simpa [State.busy] using hb)]

theorem State.schedule_idle {s : State} (hb : ¬ s.busy) : s.schedule = s := by
  obtain h | ⟨-, hw, -⟩ := s.schedule_cases
  · exact h
  · exact absurd hw hb

theorem State.lineWork_idle {s : State} (hb : ¬ s.busy) : s.lineWork = s := by
  rw [State.lineWork, State.offerNext_idle hb, State.schedule_idle hb]

/-- Nothing on the trailer: the units, the claims, the walker, the cache stay as they are, and the line but for its gap. -/
structure Rests (s t : State) : Prop where
  units : t.units = s.units
  claims : t.claims = s.claims
  cache : t.cache = s.cache
  tx : t.line.tx = s.line.tx
  urgent : t.line.urgent = s.line.urgent
  access : t.line.access = s.line.access

theorem Rests.refl (s : State) : Rests s s := ⟨rfl, rfl, rfl, rfl, rfl, rfl⟩

theorem Rests.trans {s t u : State} (h : Rests s t) (k : Rests t u) : Rests s u :=
  ⟨k.units.trans h.units, k.claims.trans h.claims, k.cache.trans h.cache, k.tx.trans h.tx, k.urgent.trans h.urgent,
    k.access.trans h.access⟩

theorem Rests.of_fields {s t : State} (hu : t.units = s.units) (hc : t.claims = s.claims) (hk : t.cache = s.cache)
    (hl : t.line = s.line) : Rests s t := ⟨hu, hc, hk, by rw [hl], by rw [hl], by rw [hl]⟩

theorem Rests.empty {s t : State} (h : Rests s t) (hs : Empty s) : Empty t :=
  ⟨h.units.trans hs.units, h.claims.trans hs.claims, h.tx.trans hs.tx, h.urgent.trans hs.urgent, h.access.trans hs.access⟩

theorem rests_answer (s : State) (e : IntakeEntry) (st : Status) (d : List Byte) (b : Bool) : Rests s (s.answer e st d b) :=
  ⟨rfl, rfl, rfl, rfl, rfl, rfl⟩

theorem rests_lineWork {s : State} (hb : ¬ s.busy) : Rests s s.lineWork := by
  rewrite [State.lineWork_idle hb]
  exact .refl s

theorem rests_event {f : State → State} {s t : State} (hf : Rests s (f s)) (h : event f s = .next t) : Rests s t :=
  event_keeps (P := Rests s) (.refl s) (fun _ => hf.trans (.of_fields (by simp) (by simp) (by simp) (by simp))) h

theorem rests_powered {f : State → State} {s t : State} (hf : Rests s (f s)) (h : powered f s = .next t) : Rests s t :=
  powered_keeps (P := Rests s) (.refl s) (fun _ => hf) h

theorem rests_taking {s : State} {w : IntakeEntry → Bool} {d : IntakeEntry → State → State} (hs : Empty s)
    (hd : ∀ e u, Empty u → Rests u (d e u)) : Rests s (s.taking w d) :=
  taking_keeps (P := Rests s) (.refl s) fun e rest _ _ _ =>
    Rests.trans (t := s.taken rest) ⟨rfl, rfl, rfl, rfl, rfl, rfl⟩ (hd e _ (hs.of_same rfl rfl rfl))

section
variable {s : State} (hs : Empty s)
include hs

theorem Empty.unitAt (p : Nat) : s.unitAt p = none := by simp [State.unitAt, hs.units]
theorem Empty.entryAt (p i : Nat) : s.entryAt p i = none := by simp [State.entryAt, hs.unitAt]
theorem Empty.servingAt (p : Nat) : s.servingAt p = false := by simp [State.servingAt, hs.unitAt]
theorem Empty.claimOn (p i : Nat) : s.claimOn p i = none := by simp [State.claimOn, hs.claims]
theorem Empty.bodyFunctionAt (p i : Nat) : s.bodyFunctionAt p i = none := by simp [State.bodyFunctionAt, hs.servingAt]
theorem Empty.accessibleAt (p : Nat) : s.accessibleAt p = false := by simp [State.accessibleAt, hs.unitAt]
theorem Empty.sensorAt (f : UnitState → Bool) (p i : Nat) : s.sensorAt f p i = none := by simp [State.sensorAt, hs.unitAt]

theorem Empty.receiveByte (b : Byte) : Rests s (s.receiveByte b) := by
  obtain e | e | ⟨t, _, _, ht, -, -⟩ := s.receiveByte_cases b
  · rewrite [e]
    exact .refl s
  · rewrite [e]
    exact ⟨rfl, rfl, rfl, rfl, rfl, rfl⟩
  · exact absurd (hs.tx.symm.trans ht) (by simp)

theorem Empty.receiveBytes (bs : List Byte) : Rests s (s.receiveBytes bs) :=
  (receiveBytes_keeps (P := fun u => Empty u ∧ Rests s u)
    (fun _ b h => ⟨(h.1.receiveByte b).empty h.1, h.2.trans (h.1.receiveByte b)⟩) bs s ⟨hs, .refl s⟩).2
end

/-- With nothing on the trailer a command of the trailer side finds nothing to do. -/
theorem TrailerCommand.rests {c : Instr} (hc : TrailerCommand c) (hf : c ≠ .feedStartWaitExpiry) {s t : State}
    (hs : Empty s) (hb : ¬ s.busy) (h : exec c s = .next t) : Rests s t := by
  cases hc with
  | feedStartWaitExpiry => exact absurd rfl hf
  | callSent =>
    dsimp only [exec, execCallSent] at h
    refine rests_powered ?_ h
    simp only [hs.tx]
    exact .refl s
  | answerWindowExpiry | byteGapTimeout =>
    dsimp only [exec, execAnswerWindowExpiry, execByteGapTimeout] at h
    refine rests_event ?_ h
    simp only [hs.tx]
    exact .refl s
  | lengthByteError bs | answerFrameComplete bs =>
    dsimp only [exec, execLengthByteError, execAnswerFrameComplete] at h
    exact rests_event (hs.receiveBytes bs) h
  | discardedByte b | answerByteReceived b =>
    dsimp only [exec, execDiscardedByte, execAnswerByteReceived] at h
    exact rests_event (hs.receiveByte b) h
  | resyncGapEnd =>
    dsimp only [exec, execResyncGapEnd] at h
    refine rests_powered ?_ h
    split
    · split
      · next v hv => exact absurd (hs.tx.symm.trans hv) (by simp)
      · exact Rests.trans (t := s.gapEnded _) ⟨rfl, rfl, rfl, rfl, rfl, rfl⟩ (rests_lineWork hb)
    · exact .refl s
  | pollDue p i =>
    dsimp only [exec, execPollDue] at h
    refine rests_powered ?_ h
    rewrite [hs.servingAt]
    exact .refl s
  | extensionTimerExpiry =>
    dsimp only [exec, execExtensionTimerExpiry] at h
    refine rests_powered ?_ h
    split
    · exact Rests.trans (t := (s.reach _).modifyWalker _) ⟨rfl, rfl, rfl, rfl, rfl, rfl⟩ (rests_lineWork hb)
    · exact .refl s
  | stalenessThreshold p i =>
    dsimp only [exec, execStalenessThreshold] at h
    refine rests_event ?_ h
    rewrite [hs.servingAt]
    exact .refl s
  | senseSubscribe | senseUnsubscribe =>
    dsimp only [exec, execSenseSubscribe, execSenseUnsubscribe] at h
    refine rests_powered (rests_taking hs fun e u hu => ?_) h
    simp only [hu.sensorAt]
    split
    all_goals exact rests_answer u e _ _ _
  | actuate =>
    dsimp only [exec, execActuate] at h
    refine rests_event (rests_taking hs fun e u hu => ?_) h
    simp only [hu.bodyFunctionAt]
    repeat' split
    all_goals exact rests_answer u e _ _ _
  | holdTimeExpiry p i =>
    dsimp only [exec, execHoldTimeExpiry] at h
    refine rests_event ?_ h
    rewrite [hs.claimOn]
    exact .refl s
  | release | forceRelease =>
    dsimp only [exec, execRelease, execForceRelease] at h
    refine rests_event (rests_taking hs fun e u hu => ?_) h
    simp only [hu.claimOn]
    repeat' split
    all_goals exact rests_answer u e _ _ _
  | unitParamRead | unitParamWrite =>
    dsimp only [exec, execUnitParamRead, execUnitParamWrite] at h
    refine rests_event (rests_taking hs fun e u hu => ?_) h
    unfold State.requestAccess
    simp only [hu.accessibleAt]
    split
    · exact rests_answer u e _ _ _
    · split
      · exact rests_answer u e _ _ _
      · exact rests_answer u e _ _ _

end Sys2Proof.Machine
end

section
/-! PROOFS. The commands of the lamps, the settings and the inputs leave the trailer side alone; with them, every step keeps what the
combination state rules out. -/
namespace Sys2Proof.Machine

/-- The trailer side is the same, but for subscriptions that an emptied slot gives up; a start wait begins in PARKED alone. -/
structure RoadSame (s t : State) : Prop where
  state : t.comb.state = s.comb.state
  feed : t.comb.feed = s.comb.feed
  feedStart : t.comb.feedStartSince = s.comb.feedStartSince
  startWait : t.comb.startWaitSince = s.comb.startWaitSince ∨ s.comb.state = .parked
  line : t.line = s.line
  walker : t.walker = s.walker
  claims : t.claims = s.claims
  cache : t.cache = s.cache
  units : t.units = s.units ∨ ∃ k, t.units = (s.dropSubscriptions k).units

theorem RoadSame.of_fields {s t : State} (hb : t.comb.steady = s.comb.steady) (hs : t.comb.state = s.comb.state)
    (hl : t.line = s.line) (hw : t.walker = s.walker) (hc : t.claims = s.claims) (hk : t.cache = s.cache)
    (hu : t.units = s.units) : RoadSame s t := by
  have h : Works s t := .of_state hb hs
  exact ⟨hs, h.feed, h.feedStartSince, .inl h.startWaitSince, hl, hw, hc, hk, .inl hu⟩

theorem RoadSame.refl (s : State) : RoadSame s s := .of_fields rfl rfl rfl rfl rfl rfl rfl

/-- Before and after, nothing but the trailer side counts. -/
theorem RoadSame.trans_fields {s t u : State} (h : RoadSame s t) (k : t.comb.startWaitSince = u.comb.startWaitSince)
    (hs : u.comb.state = t.comb.state) (hf : u.comb.feed = t.comb.feed) (hfs : u.comb.feedStartSince = t.comb.feedStartSince)
    (hl : u.line = t.line) (hw : u.walker = t.walker) (hc : u.claims = t.claims) (hk : u.cache = t.cache)
    (hu : u.units = t.units) : RoadSame s u :=
  ⟨hs.trans h.state, hf.trans h.feed, hfs.trans h.feedStart, k ▸ h.startWait, hl.trans h.line, hw.trans h.walker,
    hc.trans h.claims, hk.trans h.cache, by rw [hu]; exact h.units⟩

theorem RoadSame.trans_left {s t u : State} (h : RoadSame t u) (hb : t.comb = s.comb) (hl : t.line = s.line)
    (hw : t.walker = s.walker) (hc : t.claims = s.claims) (hk : t.cache = s.cache) (hu : t.units = s.units) : RoadSame s u := by
  have hd (k : Slot) : (t.dropSubscriptions k).units = (s.dropSubscriptions k).units := by
    simp only [State.dropSubscriptions, hu]
  exact ⟨hb ▸ h.state, hb ▸ h.feed, hb ▸ h.feedStart, hb ▸ h.startWait, h.line.trans hl, h.walker.trans hw, h.claims.trans hc,
    h.cache.trans hk, by simpa only [hu, hd] using h.units⟩

theorem RoadSame.closed {s t : State} (h : RoadSame s t) (before : State) :
    RoadSame s ((t.retimeAttach.retimePark).announce before) :=
  h.trans_fields (by simp [State.retimed_comb]) (by simp) (by simp) (by simp [State.retimed_comb]) (by simp) (by simp)
    (by simp) (by simp) (by simp)

theorem roadSame_event {f : State → State} {s t : State} (hf : RoadSame s (f s)) (h : event f s = .next t) : RoadSame s t :=
  event_keeps (P := RoadSame s) (.refl s) (fun _ => hf.closed s) h

theorem roadSame_taking {s : State} {w : IntakeEntry → Bool} {d : IntakeEntry → State → State}
    (hd : ∀ e u, RoadSame u (d e u)) : RoadSame s (s.taking w d) :=
  taking_keeps (P := RoadSame s) (.refl s) fun e rest _ _ _ => (hd e (s.taken rest)).trans_left rfl rfl rfl rfl rfl rfl

theorem RoadSame.answer {s t : State} (h : RoadSame s t) (e : IntakeEntry) (st : Status) (d : List Byte) (b : Bool) :
    RoadSame s (t.answer e st d b) := h.trans_fields rfl rfl rfl rfl rfl rfl rfl rfl rfl

theorem Undisturbed.roadSame {s t : State} (h : Undisturbed s t) : RoadSame s t :=
  .of_fields (by rw [h.comb]) (by rw [h.comb]) h.line h.walker h.claims h.cache h.units

/-! ### The operations of the lamp side -/

theorem roadSame_lamps (s : State) (x : PerLine LampLine) : RoadSame s { s with lamps := x } :=
  .of_fields rfl rfl rfl rfl rfl rfl rfl

theorem roadSame_changeRequests (s : State) (k : PerSlot SlotState) : RoadSame s (s.changeRequests k) :=
  .of_fields rfl rfl rfl rfl rfl rfl rfl

theorem roadSame_refreshPassive (s : State) : RoadSame s s.refreshPassive :=
  ⟨rfl, rfl, rfl, .inl rfl, rfl, rfl, rfl, rfl, .inl rfl⟩

theorem roadSame_verdictChanged (s : State) (l : Line) : RoadSame s (s.verdictChanged l) :=
  (roadSame_refreshPassive ((s.count .verdictChanges).noticeVerdict l)).trans_left (by simp) (by simp) (by simp) (by simp)
    (by simp) (by simp)

theorem roadSame_shortVerdict (s : State) (l : Line) (m : Option (Nat × Nat)) : RoadSame s (s.shortVerdict l m) := by
  unfold State.shortVerdict
  dsimp only
  split
  · exact roadSame_lamps s _
  · exact (roadSame_verdictChanged (s.modifyLine l _) l).trans_left rfl rfl rfl rfl rfl rfl

theorem roadSame_classified (s : State) (l : Line) (m u : Nat) : RoadSame s (s.classified l m u) := by
  unfold State.classified
  dsimp only
  split
  · exact roadSame_lamps s _
  · exact (roadSame_verdictChanged (s.modifyLine l _) l).trans_left rfl rfl rfl rfl rfl rfl

theorem roadSame_tripLine (s : State) (l : Line) (m : Option (Nat × Nat)) : RoadSame s (s.tripLine l m) := by
  have h := (roadSame_shortVerdict ((s.modifyLine l fun x => x.trip_ (s.setting .tripAttempts) s.now).resolveSwitches false)
    l m).trans_left (s := s) rfl rfl rfl rfl rfl rfl
  exact h.trans_fields (by simp [State.tripLine]) (by simp [State.tripLine]) (by simp [State.tripLine])
    (by simp [State.tripLine]) (by simp) (by simp) (by simp) (by simp) (by simp)

theorem roadSame_measure (s : State) (l : Line) (m u : Nat) : RoadSame s (s.measure l m u) := by
  obtain ⟨-, e⟩ | ⟨-, -, e⟩ | ⟨-, -, e⟩ := s.measure_cases l m u
  · rewrite [e]
    exact (roadSame_tripLine (s.setPresence l .loaded) l _).trans_left rfl rfl rfl rfl rfl rfl
  · rewrite [e]
    exact (roadSame_lamps (s.presented l m) _).trans_left rfl rfl rfl rfl rfl rfl
  · rewrite [e]
    exact (roadSame_classified (s.presented l m) l m u).trans_left rfl rfl rfl rfl rfl rfl

/-! ### The port and the settings -/

theorem roadSame_wake (s : State) (c : WakeCause) (h : s.comb.state = .parked) : RoadSame s (s.wake c) := by
  unfold State.wake
  split
  · exact .refl s
  · exact ⟨rfl, rfl, rfl, .inr h, rfl, rfl, rfl, rfl, .inl rfl⟩

theorem roadSame_offerIntake (s : State) (e : IntakeEntry) : RoadSame s (s.offerIntake e) := by
  have hcount : RoadSame s (s.count .requestsBusy) := .of_fields rfl rfl rfl rfl rfl rfl rfl
  unfold State.offerIntake State.refuseBusy
  split
  · dsimp only
    split
    · exact hcount.answer e _ _ _
    · exact .of_fields rfl rfl rfl rfl rfl rfl rfl
  · exact .of_fields rfl rfl rfl rfl rfl rfl rfl

theorem roadSame_lampSet (s : State) (k : Slot) (q l w : Byte) : RoadSame s (s.lampSet k q l w) := by
  unfold State.lampSet
  dsimp only
  split
  · exact .of_fields (by simp) (by simp) (by simp) (by simp) (by simp) (by simp) (by simp)
  · exact roadSame_changeRequests s _

theorem roadSame_hearFrame (s : State) (f : BusFrame) : RoadSame s (s.hearFrame f) := by
  unfold State.hearFrame State.acceptRequest
  split
  · exact .refl s
  · split
    · next hp => exact roadSame_wake s _ hp
    · split
      · split
        · exact .of_fields rfl rfl rfl rfl rfl rfl rfl
        · split
          · exact roadSame_lampSet s _ _ _ _
          · exact roadSame_offerIntake s _
      · exact .refl s

theorem roadSame_writeWord (s : State) (n : Setting) (w : Word32) : RoadSame s (s.writeWord n w) := by
  unfold State.writeWord
  dsimp only
  split
  · next k =>
    split
    · have he : RoadSame s ((s.storeWord (.slotWord k) w).emptySlot k) :=
        ⟨rfl, rfl, rfl, .inl rfl, rfl, rfl, rfl, rfl, .inr ⟨k, rfl⟩⟩
      generalize (s.storeWord (.slotWord k) w).emptySlot k = d at he
      exact he.trans_fields rfl rfl rfl rfl rfl rfl rfl rfl rfl
    · exact .of_fields rfl rfl rfl rfl rfl rfl rfl
  · exact .of_fields rfl rfl rfl rfl rfl rfl rfl
  · exact .of_fields rfl rfl rfl rfl rfl rfl rfl

theorem roadSame_decideWrite (s : State) (e : IntakeEntry) (n : Setting) (w : Word32) : RoadSame s (s.decideWrite e n w) := by
  have hdone (v : Word32) : RoadSame s ((s.writeWord n v).takeHolder n e.slot) := by
    unfold State.takeHolder
    split
    · exact (roadSame_writeWord s n v).trans_fields rfl rfl rfl rfl rfl rfl rfl rfl rfl
    · exact roadSame_writeWord s n v
  unfold State.decideWrite
  repeat' split
  all_goals first
    | exact (RoadSame.refl s).answer _ _ _ _
    | exact (hdone _).answer _ _ _ _

/-- The commands of the lamps, the settings and the inputs. -/
inductive LampCommand : Instr → Prop
  | sampleInstant (p i : Bool) (l : Byte) : LampCommand (.sampleInstant p i l)
  | selfWake (p : Bool) (l : Byte) : LampCommand (.selfWake p l)
  | ignitionWake : LampCommand .ignitionWake
  | busFrameWake (f : BusFrame) : LampCommand (.busFrameWake f)
  | requestFrame (f : BusFrame) : LampCommand (.requestFrame f)
  | lampSet (i : Ident) (q l w : Byte) : LampCommand (.lampSet i q l w)
  | refreshWindowExpiry (k : Slot) : LampCommand (.refreshWindowExpiry k)
  | flashPhaseEnd : LampCommand .flashPhaseEnd
  | switchFaultIndication (l : Line) : LampCommand (.switchFaultIndication l)
  | restartDelayExpiry (l : Line) : LampCommand (.restartDelayExpiry l)
  | lineReset : LampCommand .lineReset
  | measurementInstant (l : Line) (c1 c2 c3 c4 : Conversion) : LampCommand (.measurementInstant l c1 c2 c3 c4)
  | settingWrite : LampCommand .settingWrite
  | settingFieldWrite : LampCommand .settingFieldWrite

theorem LampCommand.roadSame {c : Instr} (hc : LampCommand c) {s t : State} (h : exec c s = .next t) : RoadSame s t := by
  cases hc with
  | sampleInstant p i l =>
    dsimp only [exec, execSampleInstant] at h
    refine roadSame_event ?_ h
    split
    all_goals exact .of_fields rfl rfl rfl rfl rfl rfl rfl
  | selfWake p l =>
    dsimp only [exec, execSelfWake] at h
    refine roadSame_event ?_ h
    split
    · next hp _ =>
      split
      · exact .of_fields rfl rfl rfl rfl rfl rfl rfl
      · refine RoadSame.trans_left (roadSame_wake _ _ ?_) rfl rfl rfl rfl rfl rfl
        exact hp
    · exact .refl s
  | ignitionWake =>
    dsimp only [exec, execIgnitionWake] at h
    refine roadSame_event ?_ h
    split
    · next hp _ =>
      refine RoadSame.trans_left (roadSame_wake _ _ ?_) rfl rfl rfl rfl rfl rfl
      exact hp
    · exact .refl s
  | busFrameWake f =>
    dsimp only [exec, execBusFrameWake] at h
    refine roadSame_event ?_ h
    split
    · exact roadSame_hearFrame s f
    · exact .refl s
  | requestFrame f =>
    dsimp only [exec, execRequestFrame] at h
    exact roadSame_event (roadSame_hearFrame s f) h
  | lampSet =>
    dsimp only [exec, execLampSet] at h
    exact roadSame_event (roadSame_hearFrame s _) h
  | refreshWindowExpiry k =>
    dsimp only [exec, execRefreshWindowExpiry] at h
    refine roadSame_event ?_ h
    split
    · exact .refl s
    · exact .of_fields rfl rfl rfl rfl rfl rfl rfl
  | flashPhaseEnd =>
    dsimp only [exec, execFlashPhaseEnd] at h
    refine roadSame_event ?_ h
    split
    all_goals exact .of_fields rfl rfl rfl rfl rfl rfl rfl
  | switchFaultIndication l =>
    dsimp only [exec, execSwitchFaultIndication] at h
    refine roadSame_event ?_ h
    split
    · exact roadSame_tripLine s l _
    · exact .refl s
  | restartDelayExpiry l =>
    dsimp only [exec, execRestartDelayExpiry] at h
    refine roadSame_event ?_ h
    split
    all_goals exact .of_fields rfl rfl rfl rfl rfl rfl rfl
  | lineReset =>
    dsimp only [exec, execLineReset] at h
    refine roadSame_event (roadSame_taking fun e u => ?_) h
    split
    · exact (RoadSame.refl u).answer e _ _ _
    · split
      · exact (RoadSame.refl u).answer e _ _ _
      · split
        · exact (RoadSame.refl u).answer e _ _ _
        · refine RoadSame.answer (t := State.resolveSwitches _ _) ?_ e _ _ _
          exact .of_fields rfl rfl rfl rfl rfl rfl rfl
  | measurementInstant l c1 c2 c3 c4 =>
    dsimp only [exec, execMeasurementInstant] at h
    refine roadSame_event ?_ h
    split
    · exact (roadSame_measure (s.reach _) _ _ _).trans_left rfl rfl rfl rfl rfl rfl
    · exact .refl s
  | settingWrite =>
    dsimp only [exec, execSettingWrite] at h
    refine roadSame_event (roadSame_taking fun e u => ?_) h
    split
    · exact (RoadSame.refl u).answer _ _ _ _
    · exact roadSame_decideWrite _ _ _ _
  | settingFieldWrite =>
    dsimp only [exec, execSettingFieldWrite] at h
    refine roadSame_event (roadSame_taking fun e u => ?_) h
    repeat' split
    · exact (RoadSame.refl u).answer _ _ _ _
    · exact (RoadSame.refl u).answer _ _ _ _
    · exact roadSame_decideWrite _ _ _ _

/-! ### What the combination state rules out -/

theorem StatesFollow.of_roadSame {s t : State} (h : StatesFollow s) (k : RoadSame s t) : StatesFollow t := by
  refine ⟨fun h1 h2 => ?_, ?_, ?_, fun hw => ?_⟩
  · rewrite [k.state] at h1 h2
    obtain ⟨hu, hc, ht, hq, ha⟩ := h.quiet h1 h2
    refine ⟨?_, k.claims.trans hc, k.line ▸ ht, k.line ▸ hq, k.line ▸ ha⟩
    obtain e | ⟨j, e⟩ := k.units
    · exact e.trans hu
    · rewrite [e]
      simp [State.dropSubscriptions, hu]
  · rewrite [k.feed, k.state]
    exact h.feed
  · rewrite [k.feedStart, k.state]
    exact h.feedStart
  · rewrite [k.state]
    obtain e | e := k.startWait
    · exact h.startWait (e ▸ hw)
    · exact e

/-- The work of the trailer line in BUILDING or SERVING. -/
theorem StatesFollow.of_works {s t : State} (h : StatesFollow s) (k : Works s t) (hb : s.busy) : StatesFollow t := by
  have htb : t.comb.state = .building ∨ t.comb.state = .serving := k.busy hb
  have hnot : ∀ x : State, x.busy → x.comb.state ≠ .settling ∧ x.comb.state ≠ .parked := fun x hx => by
    obtain e | e := hx <;> rw [e] <;> exact ⟨by decide, by decide⟩
  refine ⟨fun h1 h2 => absurd htb (by simp [h1, h2]), ?_, ?_, fun hw => ?_⟩
  · rewrite [k.feed, h.feed]
    have hs : s.comb.state = .building ∨ s.comb.state = .serving := hb
    rw [decide_eq_true (Or.inr hs), decide_eq_true (Or.inr htb)]
  · rw [k.feedStartSince, h.feedStart, decide_eq_false (hnot s hb).1, decide_eq_false (hnot t (k.busy hb)).1]
  · exact absurd (h.startWait (k.startWaitSince ▸ hw)) (hnot s hb).2

/-- The work of the trailer line elsewhere. -/
theorem StatesFollow.of_rests {s t : State} (h : StatesFollow s) (k : Works s t) (hr : Rests s t) (hb : ¬ s.busy) :
    StatesFollow t := by
  have he := hr.empty (h.empty hb)
  refine ⟨fun _ _ => ⟨he.units, he.claims, he.tx, he.urgent, he.access⟩, ?_, ?_, fun hw => ?_⟩
  · rewrite [k.feed, k.idle hb]
    exact h.feed
  · rewrite [k.feedStartSince, k.idle hb]
    exact h.feedStart
  · rewrite [k.idle hb]
    exact h.startWait (k.startWaitSince ▸ hw)

theorem StatesFollow.trailer {c : Instr} (hc : TrailerCommand c) (hf : c ≠ .feedStartWaitExpiry) {s t : State}
    (hs : StatesFollow s) (h : exec c s = .next t) : StatesFollow t := by
  by_cases hb : s.busy
  · exact hs.of_works (hc.works hf h) hb
  · exact hs.of_rests (hc.works hf h) (hc.rests hf (hs.empty hb) hb h) hb

/-- A state from what it holds on the trailer side and its record. -/
theorem StatesFollow.of_empty {s : State} (he : Empty s)
    (hf : s.comb.feed = decide (s.comb.state = .settling ∨ s.comb.state = .building ∨ s.comb.state = .serving))
    (hfs : s.comb.feedStartSince.isSome = decide (s.comb.state = .settling))
    (hw : s.comb.startWaitSince.isSome = true → s.comb.state = .parked) : StatesFollow s :=
  ⟨fun _ _ => ⟨he.units, he.claims, he.tx, he.urgent, he.access⟩, hf, hfs, hw⟩

theorem StatesFollow.event {f : State → State} {s t : State} (hs : StatesFollow s) (hf : StatesFollow (f s))
    (h : event f s = .next t) : StatesFollow t :=
  event_keeps hs (fun _ => hf.of_roadSame ((RoadSame.refl (f s)).closed s)) h

theorem empty_drop (s : State) (next : CombState) : Empty (s.drop next) := by
  refine ⟨s.units_drop next, s.drop_claims next, ?_, ?_, ?_⟩ <;> rw [s.drop_line next]

/-- The drop ends in a state without feed (R12, R15). -/
theorem statesFollow_drop (s : State) {next : CombState} (hn : next = .detached ∨ next = .parked)
    (hw : s.comb.startWaitSince = none) : StatesFollow (s.drop next) := by
  refine .of_empty (empty_drop s next) ?_ ?_ ?_
  · rewrite [s.drop_comb next]
    obtain rfl | rfl := hn <;> rfl
  · rewrite [s.drop_comb next]
    obtain rfl | rfl := hn <;> rfl
  · rewrite [s.drop_comb next]
    simp [hw]

theorem statesFollow_powerOn (s : State) (c : ResetCause) : StatesFollow (s.powerOn c) :=
  .of_empty ⟨rfl, rfl, rfl, rfl, rfl⟩ rfl rfl fun h => (by cases h)

theorem StatesFollow.startWait_none {s : State} (h : StatesFollow s) (hp : s.comb.state ≠ .parked) :
    s.comb.startWaitSince = none := by
  cases hw : s.comb.startWaitSince with
  | none => rfl
  | some n => exact absurd (h.startWait (by simp [hw])) hp

theorem StatesFollow.enterSettling {s : State} (he : Empty s) (hw : s.comb.startWaitSince = none) :
    StatesFollow s.enterSettling :=
  .of_empty (he.of_same rfl rfl rfl) rfl rfl fun h => absurd (show s.comb.startWaitSince.isSome = true from h) (by simp [hw])

theorem empty_combinationReset (s : State) : Empty s.combinationReset := by
  have hq : ∀ (l : List UrgentEntry), l.filter (fun e => decide (e.position < 0)) = [] := by intro l; simp
  have ha : ∀ (l : List AccessEntry), l.filter (fun e => decide (e.position < 0)) = [] := by intro l; simp
  have hl : s.combinationReset.line = { s.line with tx := none, gapSince := none, urgent := [], access := [] } := by
    simp [State.combinationReset, State.discardAllWork, State.discardWork, State.endAllClaims, State.abandon]
  refine ⟨rfl, ?_, by rw [hl], by rw [hl], by rw [hl]⟩
  simp only [State.combinationReset, State.enter, State.discardAllWork, State.discardWork_claims, State.endAllClaims,
    State.endClaims]
  refine (foldl_keeps (fun t => State.claims t) _ (fun t c => t.noticeClaimEnd_claims c .forced) _ _).trans ?_
  simp

theorem StatesFollow.combination {c : Instr} (hc : CombCommand c) {s t : State} (hs : StatesFollow s)
    (h : exec c s = .next t) : StatesFollow t := by
  cases hc with
  | sampleInstant p i l => exact hs.of_roadSame (LampCommand.roadSame (by constructor) h)
  | selfWake p l => exact hs.of_roadSame (LampCommand.roadSame (by constructor) h)
  | ignitionWake => exact hs.of_roadSame (LampCommand.roadSame (by constructor) h)
  | powerOnReset => exact next_keeps (statesFollow_powerOn s _) h
  | lowSupplyReset =>
    refine next_keeps ?_ h
    exact .of_empty ⟨rfl, rfl, rfl, rfl, rfl⟩ rfl rfl fun h => (by cases h)
  | lowSupplyRelease =>
    refine next_keeps ?_ h
    split
    · exact statesFollow_powerOn s _
    · exact hs
  | fullResetWaitEnd =>
    dsimp only [exec, execFullResetWaitEnd] at h
    refine powered_keeps hs (fun _ => ?_) h
    split
    · exact statesFollow_powerOn _ _
    · exact hs
  | attachDebounceExpiry =>
    dsimp only [exec, execAttachDebounceExpiry] at h
    refine hs.event ?_ h
    split
    · next since _ =>
      split
      · next hd =>
        have he : Empty s := hs.empty (by simp [State.busy, hd])
        split
        · exact hs.of_roadSame (.of_fields rfl rfl rfl rfl rfl rfl rfl)
        · refine StatesFollow.enterSettling ?_ ?_
          · exact he.of_same rfl rfl rfl
          · exact hs.startWait_none (by simp [hd])
      · next hd => exact statesFollow_drop (s.reach _) (.inl rfl) (hs.startWait_none (by simp [hd]))
      · next hd => exact statesFollow_drop (s.reach _) (.inl rfl) (hs.startWait_none (by simp [hd]))
      · next hd => exact statesFollow_drop (s.reach _) (.inl rfl) (hs.startWait_none (by simp [hd]))
      · exact hs
    · exact hs
  | parkDelayExpiry =>
    dsimp only [exec, execParkDelayExpiry] at h
    refine hs.event ?_ h
    split
    · next since _ =>
      split
      · next hm =>
        have hp : s.comb.state ≠ .parked := by
          intro e
          simp [State.mayPark, e] at hm
        have hd := statesFollow_drop (s.reach (since + s.parkDelayMs)) (next := .parked) (.inr rfl) (hs.startWait_none hp)
        rewrite [State.enterParked_eq]
        generalize (s.reach (since + s.parkDelayMs)).drop .parked = d at hd
        exact hd.of_roadSame ⟨rfl, rfl, rfl, .inl rfl, rfl, rfl, rfl, rfl, .inl rfl⟩
      · exact hs
    · exact hs
  | startWaitExpiry =>
    dsimp only [exec, execStartWaitExpiry] at h
    refine hs.event ?_ h
    split
    · next since hw =>
      have hp := hs.startWait (by simp [hw])
      have he : Empty s := hs.empty (by simp [State.busy, hp])
      have hfeed : s.comb.feed = false := by rw [hs.feed, hp]; rfl
      have hstart : s.comb.feedStartSince.isSome = false := by rw [hs.feedStart, hp]; rfl
      split
      · split
        · exact .of_empty (he.of_same rfl rfl rfl) hfeed hstart fun h => (by cases h)
        · refine StatesFollow.enterSettling ?_ rfl
          exact he.of_same rfl rfl rfl
      · exact .of_empty (he.of_same rfl rfl rfl) hfeed hstart fun h => (by cases h)
    · exact hs
  | feedOffTimeExpiry =>
    dsimp only [exec, execFeedOffTimeExpiry] at h
    refine hs.event ?_ h
    split
    · split
      · next hc =>
        simp only [Bool.and_eq_true, beq_iff_eq] at hc
        have hd : s.comb.state = .detached := hc.2
        refine StatesFollow.enterSettling ?_ ?_
        · exact (hs.empty (by simp [State.busy, hd])).of_same rfl rfl rfl
        · exact hs.startWait_none (by simp [hd])
      · exact hs.of_roadSame ⟨rfl, rfl, rfl, .inl rfl, rfl, rfl, rfl, rfl, .inl rfl⟩
    · exact hs
  | combinationReset =>
    dsimp only [exec, execCombinationReset] at h
    refine powered_keeps hs (fun _ => ?_) h
    obtain e | ⟨e, rest, -, htake, -, -, he⟩ := s.taking_cases (isRequest codeCombinationReset) _
    · rwa [e]
    · rewrite [he]
      have hp : s.comb.state ≠ .parked := by
        simp only [State.takesRequests, Bool.and_eq_true, decide_eq_true_eq] at htake
        exact htake.1.1
      have hu : StatesFollow (s.taken rest) := hs.of_roadSame (undisturbed_taken s rest).roadSame
      split
      · have hr : StatesFollow ((s.taken rest).answer e .done).combinationReset := by
          refine .of_empty (empty_combinationReset _) rfl rfl fun h => ?_
          have hw : s.comb.startWaitSince.isSome = true := by
            simpa [State.combinationReset, State.discardAllWork, State.endAllClaims, State.enter] using h
          simp [hs.startWait_none hp] at hw
        exact hr.of_roadSame ((RoadSame.refl _).trans_fields (by simp [State.retimed_comb]) (by simp) (by simp)
          (by simp [State.retimed_comb]) (by simp) (by simp) (by simp) (by simp) (by simp))
      · exact hu.of_roadSame ((RoadSame.refl _).answer _ _ _ _)

theorem exec_keeps_statesFollow (c : Instr) (s t : State) (hs : StatesFollow s) (h : exec c s = .next t) : StatesFollow t := by
  cases c with
  | combinationRead | unitRead | functionRead | verdictRead | senseRead | refusedFormat | refusedUnknown | settingRead
    | partStatusRead | countersDump | countersDumpReset | fullReset | setupClose | setupDeadlineExpiry | noticeRoute
    | frameTransmitted | busOffEntry | busOffExit =>
    exact hs.of_roadSame (PortCommand.undisturbed (by constructor) h).roadSame
  | callSent | answerWindowExpiry | byteGapTimeout | lengthByteError | answerFrameComplete | discardedByte
    | answerByteReceived | resyncGapEnd | pollDue | extensionTimerExpiry | stalenessThreshold
    | senseSubscribe | senseUnsubscribe | actuate | holdTimeExpiry | release | forceRelease | unitParamRead
    | unitParamWrite => exact hs.trailer (by constructor) (by simp) h
  | powerOnReset | lowSupplyReset | lowSupplyRelease | fullResetWaitEnd | sampleInstant | attachDebounceExpiry
    | parkDelayExpiry | selfWake | ignitionWake | startWaitExpiry | feedOffTimeExpiry | combinationReset =>
    exact hs.combination (by constructor) h
  | busFrameWake | requestFrame | lampSet | refreshWindowExpiry | flashPhaseEnd | switchFaultIndication
    | restartDelayExpiry | lineReset | measurementInstant | settingWrite | settingFieldWrite =>
    exact hs.of_roadSame (LampCommand.roadSame (by constructor) h)
  | feedStartWaitExpiry =>
    dsimp only [exec, execFeedStartWaitExpiry] at h
    refine hs.event ?_ h
    split
    · next since hst hsince =>
      have hb : StatesFollow (s.startBuilding since) := by
        refine ⟨fun h1 _ => absurd rfl h1, ?_, rfl, fun hw => ?_⟩
        · have hf := hs.feed
          rewrite [hst] at hf
          exact hf
        · have hn := hs.startWait_none (by simp [hst])
          exact absurd (show s.comb.startWaitSince.isSome = true from hw) (by simp [hn])
      exact hb.of_works (.of_comb (State.lineWork_comb (s.startBuilding since))) (.inl rfl)
    · exact hs

/-- Settles O57: in BUILDING and SERVING the work stays there, elsewhere it finds nothing to do, and every entry to another state
empties the trailer side. -/
theorem stepKeepsStates : Obligations.StepKeepsStates := fun _ _ hs h =>
  step_keeps (fun _ _ h => ⟨h.quiet, h.feed, h.feedStart, h.startWait⟩)
    (fun _ h => ⟨h.quiet, h.feed, h.feedStart, h.startWait⟩) exec_keeps_statesFollow hs h

end Sys2Proof.Machine
end

section
/-! PROOFS. The stores: what an operation may do to the queues, the cache, the Claim Table, the counters and the settings so that
they stay within their bounds, for every operation that makes sure of its room. -/
namespace Sys2Proof.Machine

/-- Every counter at most 65 535 (R41). -/
def Counters.Capped (b : Counters) : Prop := ∀ n ∈ b.toList, n ≤ 65535

/-- The stores keep their bounds: nothing is added to the intake, to the outstanding unit accesses or to the claims, no setting
moves, and the Report Queue, the cache and the counters stay within theirs. -/
structure StoresKept (s t : State) : Prop where
  report : s.port.report.length ≤ Config.reportFrames → t.port.report.length ≤ Config.reportFrames
  intake : t.port.intake.Sublist s.port.intake
  accesses : ∀ k, t.accessOutstanding k ≤ s.accessOutstanding k
  cache : s.cache.length ≤ Config.cacheRecords → t.cache.length ≤ Config.cacheRecords
  claims : t.claims.length ≤ s.claims.length
  counters : s.counters.Capped → t.counters.Capped
  settings : t.settings = s.settings

theorem State.accessOutstanding_line {s t : State} (h : t.line = s.line) (k : Slot) :
    t.accessOutstanding k = s.accessOutstanding k := by
  simp only [State.accessOutstanding, h]

theorem StoresKept.of_same {s t : State} (hp : t.port = s.port := by simp) (hl : t.line = s.line := by simp)
    (hk : t.cache = s.cache := by simp) (hc : t.claims = s.claims := by simp) (hn : t.counters = s.counters := by simp)
    (hw : t.settings = s.settings := by simp) : StoresKept s t :=
  ⟨by rw [hp]; exact id, by rw [hp], fun k => (State.accessOutstanding_line hl k).le, by rw [hk]; exact id, by rw [hc],
    by rw [hn]; exact id, hw⟩

theorem StoresKept.refl (s : State) : StoresKept s s := .of_same rfl rfl rfl rfl rfl rfl

theorem StoresKept.trans {s t u : State} (h : StoresKept s t) (k : StoresKept t u) : StoresKept s u :=
  ⟨k.report ∘ h.report, k.intake.trans h.intake, fun j => (k.accesses j).trans (h.accesses j), k.cache ∘ h.cache,
    k.claims.trans h.claims, k.counters ∘ h.counters, k.settings.trans h.settings⟩

theorem StoresKept.foldl {α : Type} {f : State → α → State} (hf : ∀ s a, StoresKept s (f s a)) (as : List α) (s : State) :
    StoresKept s (as.foldl f s) := by
  induction as generalizing s with
  | nil => exact .refl s
  | cons a as ih => exact (hf s a).trans (ih _)

/-! ### What a kept store is worth -/

/-- Each slot's two outstanding requests bound the Access Queue (R38). -/
theorem State.access_le_eight {s : State} (h : ∀ k, s.accessOutstanding k ≤ 2) : s.line.access.length ≤ 8 := by
  have hsum (as : List AccessEntry) : as.length = (as.filter fun e => e.slot == .s0).length + (as.filter fun e => e.slot == .s1).length
      + (as.filter fun e => e.slot == .s2).length + (as.filter fun e => e.slot == .s3).length := by
    induction as with
    | nil => rfl
    | cons a as ih =>
      cases hk : a.slot <;> simp [hk, ih] <;> omega
  have hle (k : Slot) : (s.line.access.filter fun e => e.slot == k).length ≤ 2 := (Nat.le_add_right _ _).trans (h k)
  have := hle .s0
  have := hle .s1
  have := hle .s2
  have := hle .s3
  have := hsum s.line.access
  omega

theorem StoresLawful.of_kept {s t : State} (hs : StoresLawful s) (h : StoresKept s t) : StoresLawful t where
  report := h.report hs.report
  intake := h.intake.length_le.trans hs.intake
  quotas k := by
    have := ((h.intake.filter fun e => e.slot == k).length_le).trans (hs.quotas k)
    simpa only [State.quota, State.setting, h.settings] using this
  accesses :=
    have hk (k : Slot) := (h.accesses k).trans (hs.accesses.2 k)
    ⟨State.access_le_eight hk, hk⟩
  cache := h.cache hs.cache
  claims := h.claims.trans hs.claims
  counters := h.counters hs.counters
  ranges n lo hi hr := by
    simpa only [State.setting, h.settings] using hs.ranges n lo hi hr
  fields n := by rw [h.settings]; exact hs.fields n
  fixed := by rw [h.settings]; exact hs.fixed
  tags j k := by simpa only [State.tag, h.settings] using hs.tags j k

/-! ### The counters and the Report Queue -/

theorem Counters.capped_bump {b : Counters} (h : b.Capped) (c : Counter) : (b.bump c).Capped := by
  have hb : ∀ n, n ≤ 65535 → bumped n ≤ 65535 := by
    intro n hn
    unfold bumped Config.counterTop
    by_cases h : n < 65535
    · rewrite [if_pos h]
      omega
    · rewrite [if_neg h]
      omega
  simp only [Counters.Capped, Counters.toList, List.forall_mem_cons] at h ⊢
  cases c <;> simp only [Counters.bump, h, hb, true_and, List.not_mem_nil, IsEmpty.forall_iff, implies_true]

theorem storesKept_count (s : State) (c : Counter) : StoresKept s (s.count c) :=
  ⟨id, .refl _, fun _ => le_rfl, id, le_rfl, fun h => Counters.capped_bump h c, rfl⟩

theorem storesKept_queueFrame {s : State} (h : s.port.report.length < Config.reportFrames) (kind : Byte) (k : Slot) (d : List Byte) :
    StoresKept s (s.queueFrame kind k d) :=
  ⟨fun _ => by simpa [State.queueFrame] using h, .refl _, fun _ => le_rfl, id, le_rfl, id, rfl⟩

theorem storesKept_setMissed (s : State) (k : Slot) (b : Bool) : StoresKept s (s.setMissed k b) :=
  .of_same rfl rfl rfl rfl rfl rfl

theorem storesKept_queueResponse {s : State} (h : s.port.report.length < Config.reportFrames) (r : Response) :
    StoresKept s (s.queueResponse r) := (storesKept_queueFrame h _ _ _).trans (storesKept_setMissed _ _ _)

theorem storesKept_answer {s : State} (h : s.port.report.length < Config.reportFrames) (e : IntakeEntry) (st : Status)
    (d : List Byte) (b : Bool) : StoresKept s (s.answer e st d b) := storesKept_queueResponse h _

theorem State.report_room {s : State} (h : 0 < s.freeFrames) : s.port.report.length < Config.reportFrames := by
  simp only [State.freeFrames] at h
  omega

theorem storesKept_offerNotice (s : State) (n : NoticeKind) (k : Slot) (d : List Byte) : StoresKept s (s.offerNotice n k d) := by
  unfold State.offerNotice
  split
  · split
    · next hr =>
      simp only [State.noticeRoom, Bool.and_eq_true, decide_eq_true_eq] at hr
      exact (storesKept_queueFrame (State.report_room (Nat.zero_lt_of_lt hr.2)) _ _ _).trans (storesKept_setMissed _ _ _)
    · exact (storesKept_count s _).trans (storesKept_setMissed _ _ _)
  · exact .refl s

theorem storesKept_offerAll (s : State) (n : NoticeKind) (d : List Byte) : StoresKept s (s.offerAll n d) :=
  StoresKept.foldl (fun s k => storesKept_offerNotice s n k d) allSlots s

theorem storesKept_waitResponse (s : State) (r : Response) : StoresKept s (s.waitResponse r) := by
  unfold State.waitResponse
  dsimp only
  split
  · exact ⟨id, .refl _, fun _ => le_rfl, id, le_rfl, id, rfl⟩
  · exact ⟨id, .refl _, fun _ => le_rfl, id, le_rfl, id, rfl⟩

theorem storesKept_deferResponse (s : State) (r : Response) : StoresKept s (s.deferResponse r) := by
  unfold State.deferResponse
  split
  · exact .refl s
  · split
    · next hr =>
      simp only [Bool.and_eq_true, decide_eq_true_eq] at hr
      exact storesKept_queueResponse (State.report_room hr.2) r
    · exact storesKept_waitResponse s r

theorem storesKept_deferAll (s : State) (rs : List Response) : StoresKept s (s.deferAll rs) :=
  StoresKept.foldl storesKept_deferResponse rs s

theorem storesKept_serveDeferred (s : State) : StoresKept s s.serveDeferred := by
  unfold State.serveDeferred
  split
  · exact .refl s
  · next r rs hd =>
    split
    · next hr =>
      have h : StoresKept s { s with port := { s.port with deferred := rs } } :=
        ⟨id, .refl _, fun _ => le_rfl, id, le_rfl, id, rfl⟩
      exact h.trans (storesKept_queueResponse (s := { s with port := { s.port with deferred := rs } }) (State.report_room hr) r)
    · exact .refl s

/-! ### The end of an event -/

theorem StoresKept.closed {s t : State} (h : StoresKept s t) (before : State) :
    StoresKept s ((t.retimeAttach.retimePark).announce before) := by
  have hr : StoresKept t t.retimeAttach.retimePark := .of_same rfl rfl rfl rfl rfl rfl
  unfold State.announce
  split
  · exact h.trans hr
  · exact (h.trans hr).trans (storesKept_offerAll _ _ _)

theorem StoresLawful.event {f : State → State} {s t : State} (hs : StoresLawful s) (hf : StoresLawful (f s))
    (h : event f s = .next t) : StoresLawful t :=
  event_keeps hs (fun _ => hf.of_kept ((StoresKept.refl _).closed s)) h

theorem storesKept_taken {s : State} {e : IntakeEntry} {rest : List IntakeEntry} (h : s.port.intake = e :: rest) :
    StoresKept s (s.taken rest) := by
  have hr : StoresKept s { s with port := { s.port with intake := rest } } :=
    ⟨id, by rw [h]; exact List.sublist_cons_self e rest, fun _ => le_rfl, id, le_rfl, id, rfl⟩
  exact hr.trans (storesKept_count _ _)

/-- A taken request has a free frame to be answered in (R161). -/
theorem State.framesNeeded_pos (s : State) (e : IntakeEntry) : 1 ≤ s.framesNeeded e := by
  unfold State.framesNeeded
  repeat' split
  all_goals decide

/-- A decision that keeps the stores where one frame is free keeps them at the taking (R161). -/
theorem storesKept_taking {s : State} {w : IntakeEntry → Bool} {d : IntakeEntry → State → State}
    (hd : ∀ e u, u.port.report.length < Config.reportFrames → StoresKept u (d e u)) : StoresKept s (s.taking w d) :=
  taking_keeps (P := StoresKept s) (.refl s) fun e _ hi _ hf =>
    (storesKept_taken hi).trans (hd e _ (State.report_room (Nat.lt_of_lt_of_le (s.framesNeeded_pos e) hf)))

theorem StoresLawful.taking {s : State} {w : IntakeEntry → Bool} {d : IntakeEntry → State → State} (hs : StoresLawful s)
    (hd : ∀ e u, StoresLawful u → u.port.report.length < Config.reportFrames → StoresLawful (d e u)) :
    StoresLawful (s.taking w d) :=
  taking_keeps (P := StoresLawful) hs fun e _ hi _ hf =>
    hd e _ (hs.of_kept (storesKept_taken hi)) (State.report_room (Nat.lt_of_lt_of_le (s.framesNeeded_pos e) hf))

end Sys2Proof.Machine
end

section
/-! PROOFS. The operations of the trailer line, the walk, the records and the claims keep the stores. -/
namespace Sys2Proof.Machine

/-! ### Records and the walk -/

theorem storesKept_noticeUnitAt (s : State) (p : Nat) : StoresKept s (s.noticeUnitAt p) := by
  unfold State.noticeUnitAt
  split
  · exact storesKept_offerAll s _ _
  · exact .refl s

theorem storesKept_setUnitState (s : State) (p : Nat) (x : UnitState) : StoresKept s (s.setUnitState p x) :=
  (StoresKept.of_same (t := (s.modifyUnit p fun u => { u with state := x }).refreshUnsettled)).trans
    (storesKept_noticeUnitAt _ p)

theorem storesKept_offer (s : State) (x : Step) : StoresKept s (s.offer x) := .of_same

theorem storesKept_endWalk (s : State) : StoresKept s s.endWalk := by
  unfold State.endWalk
  dsimp only
  split
  · split
    · exact .of_same
    · exact (StoresKept.of_same (by simp) (by simp) (by simp) (by simp) (by simp) (by simp)).trans (storesKept_count _ _)
  · exact .of_same
  · exact .of_same

theorem storesKept_probeAnswered (s : State) (i : Word32) (g : Generation) (n : Word16) :
    StoresKept s (s.probeAnswered i g n) := by
  have hi (b : Bool) : StoresKept s (s.setIdentityClash b) := .of_same
  have hf : StoresKept s (s.setChainFull true) := .of_same
  unfold State.probeAnswered
  repeat' split
  · exact (hi true).trans (storesKept_endWalk _)
  · exact hf.trans (storesKept_endWalk _)
  · exact (hi false).trans (storesKept_offer _ _)
  · exact ((hi false).trans (.of_same)).trans (storesKept_endWalk _)

theorem storesKept_uncache (s : State) (i : Word32) : StoresKept s (s.uncache i) :=
  ⟨id, .refl _, fun _ => le_rfl, fun h => (List.length_filter_le _ _).trans h, le_rfl, id, rfl⟩

theorem storesKept_placeRecord (s : State) (u : UnitRecord) : StoresKept s (s.placeRecord u) := by
  have hu (us : List UnitRecord) : StoresKept s { s with units := us } := .of_same
  unfold State.placeRecord
  dsimp only
  repeat' split
  · exact ((hu _).trans (storesKept_uncache _ _)).trans (storesKept_count _ _)
  · exact (hu _).trans (storesKept_uncache _ _)
  · exact hu _

theorem storesKept_placeAccepted (s : State) (p : Nat) (i : Word32) (g : Generation) (n : Word16) :
    StoresKept s (s.placeAccepted p i g n) := by
  have hf : StoresKept s (s.forgetPosition p) := .of_same
  have hr (t : State) : StoresKept t t.refreshUnsettled := .of_same
  unfold State.placeAccepted
  dsimp only
  split
  · exact storesKept_endWalk s
  · have hn := ((hf.trans (storesKept_placeRecord _ (newUnit p i g n))).trans (hr _)).trans (storesKept_noticeUnitAt _ p)
    split
    · exact hn.trans (storesKept_offer _ _)
    · exact hn.trans (storesKept_offer _ _)

theorem storesKept_refuseUnit (s : State) (p : Nat) (c : RefusalCause) (n : Nat) : StoresKept s (s.refuseUnit p c n) := by
  have h : StoresKept s (s.forgetList.modifyUnit p fun u =>
    { u with functions := [], partialFlag := false, refusal := some (c, n) }) := .of_same
  exact (h.trans (storesKept_setUnitState _ _ _)).trans (storesKept_offer _ _)

theorem storesKept_endListing (s : State) (p : Nat) : StoresKept s (s.endListing p) := by
  have h : StoresKept s s.forgetList := .of_same
  exact (h.trans (storesKept_setUnitState _ _ _)).trans (storesKept_offer _ _)

theorem storesKept_listFrom (s : State) (p i : Nat) : StoresKept s (s.listFrom p i) := by
  unfold State.listFrom
  split
  · exact storesKept_offer _ _
  · exact storesKept_endListing s p

theorem storesKept_modifyUnit (s : State) (p : Nat) (f : UnitRecord → UnitRecord) : StoresKept s (s.modifyUnit p f) := .of_same

theorem storesKept_listOpened (s : State) (p : Nat) (d : List Byte) : StoresKept s (s.listOpened p d) := .of_same

theorem storesKept_loadRead (s : State) (p : Nat) (l : Line) (d : List Byte) : StoresKept s (s.loadRead p l d) := by
  unfold State.loadRead
  dsimp only
  repeat' split
  · exact .refl s
  · exact storesKept_refuseUnit s _ _ _
  · exact (storesKept_modifyUnit s _ _).trans (storesKept_offer _ _)
  · exact (storesKept_modifyUnit s _ _).trans (storesKept_listFrom _ _ _)

/-- Room is made out of the cache alone (R74). -/
theorem storesKept_makeRoom (s : State) : StoresKept s s.makeRoom := by
  have h (n : Nat) (s : State) : StoresKept s (Machine.makeRoom n s) := by
    induction n generalizing s with
    | zero => exact .refl s
    | succ n ih =>
      unfold Machine.makeRoom
      split
      · exact .refl s
      · have hd : StoresKept s { s with cache := s.cache.dropLast } :=
          ⟨id, .refl _, fun _ => le_rfl, fun h => (List.dropLast_sublist _).length_le.trans h, le_rfl, id, rfl⟩
        exact hd.trans (ih _)
  exact h _ s

theorem storesKept_admitFunction (s : State) (p i : Nat) (r : FunctionRecord) : StoresKept s (s.admitFunction p i r) := by
  unfold State.admitFunction
  dsimp only
  split
  · exact ((storesKept_makeRoom s).trans (storesKept_modifyUnit _ _ _)).trans (storesKept_listFrom _ _ _)
  · exact ((storesKept_makeRoom s).trans (storesKept_modifyUnit _ _ _)).trans (storesKept_endListing _ _)

theorem storesKept_entryListed (s : State) (p i : Nat) (d : List Byte) : StoresKept s (s.entryListed p i d) := by
  unfold State.entryListed
  split
  · exact storesKept_refuseUnit s _ _ _
  · exact storesKept_admitFunction s _ _ _

theorem storesKept_entryDeclined (s : State) (p i : Nat) : StoresKept s (s.entryDeclined p i) :=
  (storesKept_modifyUnit s _ _).trans (storesKept_listFrom _ _ _)

theorem storesKept_bridged (s : State) (p : Nat) : StoresKept s (s.bridged p) := by
  have hj (t : State) : StoresKept t (t.joinRing p) := .of_same
  have hw (t : State) (f : Walker → Walker) : StoresKept t (t.modifyWalker f) := .of_same
  unfold State.bridged
  dsimp only
  split
  · exact ((storesKept_setUnitState s _ _).trans (hj _)).trans ((hw _ _).trans (storesKept_offer _ _))
  · exact (hw s _).trans (storesKept_offer _ _)

theorem storesKept_stepAnswered (s : State) (x : Step) (a : Option (AnswerResult × List Byte)) :
    StoresKept s (s.stepAnswered x a) := by
  have hp : StoresKept s s.probeUnanswered :=
    (StoresKept.of_same (t := s.setIdentityClash false)).trans (storesKept_endWalk _)
  have hl (p : Nat) (b : Byte) : StoresKept s (s.lampReported p b) := .of_same
  unfold State.stepAnswered
  split
  · split
    · exact storesKept_probeAnswered s _ _ _
    · exact hp
  · exact hp
  · exact storesKept_placeAccepted s _ _ _ _
  · exact storesKept_endWalk s
  · exact storesKept_listOpened s _ _
  · exact storesKept_refuseUnit s _ _ _
  · exact storesKept_loadRead s _ _ _
  · exact storesKept_refuseUnit s _ _ _
  · exact storesKept_entryListed s _ _ _
  · exact storesKept_entryDeclined s _ _
  · exact storesKept_refuseUnit s _ _ _
  · exact storesKept_bridged s _
  · exact hl _ _
  · exact hl _ _

/-! ### Sensors -/

theorem storesKept_modifyEntry (s : State) (p i : Nat) (f : FunctionEntry → FunctionEntry) :
    StoresKept s (s.modifyEntry p i f) := .of_same

theorem storesKept_testSubscription (s : State) (p i : Nat) (q : Quality) (k : Slot) :
    StoresKept s (State.testSubscription p i q s k) := by
  unfold State.testSubscription
  dsimp only
  repeat' split
  · exact (storesKept_offerNotice s _ _ _).trans (storesKept_modifyEntry _ _ _ _)
  · exact storesKept_offerNotice s _ _ _
  all_goals exact .refl s

theorem storesKept_testSubscriptions (s : State) (p i : Nat) (q : Quality) : StoresKept s (s.testSubscriptions p i q) :=
  StoresKept.foldl (fun s k => storesKept_testSubscription s p i q k) allSlots s

theorem storesKept_writeValue (s : State) (p i : Nat) (v : ValueRecord) : StoresKept s (s.writeValue p i v) :=
  storesKept_modifyEntry s _ _ _

theorem storesKept_pollAnswered (s : State) (p i : Nat) (d : List Byte) (f : Bool) : StoresKept s (s.pollAnswered p i d f) := by
  unfold State.pollAnswered
  dsimp only
  repeat' split
  · exact (storesKept_writeValue s _ _ _).trans (storesKept_testSubscriptions _ _ _ _)
  · exact (storesKept_writeValue s _ _ _).trans (storesKept_testSubscriptions _ _ _ _)
  · exact .refl s
  · exact .refl s

theorem storesKept_pollUnanswered (s : State) (p i : Nat) : StoresKept s (s.pollUnanswered p i) := by
  unfold State.pollUnanswered
  repeat' split
  · exact storesKept_writeValue s _ _ _
  all_goals exact .refl s

/-! ### Claims and the Urgent Queue -/

/-- The Urgent Queue and the claims written, of which there are no more than before. -/
theorem storesKept_urgent (s : State) (us : List UrgentEntry) {cs : List Claim} (h : cs.length ≤ s.claims.length) :
    StoresKept s { s with line := { s.line with urgent := us }, claims := cs } :=
  ⟨id, .refl _, fun _ => le_rfl, id, h, id, rfl⟩

theorem storesKept_putClaim (s : State) (c : Claim) : StoresKept s (s.putClaim c) :=
  storesKept_urgent s s.line.urgent (by simp)

theorem storesKept_removeClaim (s : State) (p i : Nat) : StoresKept s (s.removeClaim p i) :=
  storesKept_urgent s s.line.urgent (List.length_filter_le _ _)

theorem storesKept_handCommand (s : State) (c : Claim) (e : UrgentEntry) : StoresKept s (s.handCommand c e) := by
  unfold State.handCommand
  dsimp only
  split
  · exact ((storesKept_urgent s _ le_rfl).trans (storesKept_putClaim _ _)).trans (storesKept_deferAll _ _)
  · exact (storesKept_urgent s _ le_rfl).trans (storesKept_putClaim _ _)

theorem storesKept_endClaim (s : State) (c : Claim) : StoresKept s (s.endClaim c) := by
  unfold State.endClaim
  dsimp only
  split
  · exact ((storesKept_removeClaim s _ _).trans (storesKept_urgent _ _ le_rfl)).trans (storesKept_deferAll _ _)
  · exact storesKept_removeClaim s _ _

theorem storesKept_claimCompleted (s : State) (p i : Nat) : StoresKept s (s.claimCompleted p i) := by
  unfold State.claimCompleted
  dsimp only
  repeat' split
  · exact .refl s
  · exact (storesKept_removeClaim s _ _).trans (storesKept_offerNotice _ _ _ _)
  · exact storesKept_removeClaim s _ _
  · exact storesKept_putClaim s _
  · exact storesKept_putClaim s _
  · exact .refl s

theorem storesKept_endClaims (s : State) (ends : Claim → Bool) (r : EndReason) : StoresKept s (s.endClaims ends r) :=
  (storesKept_urgent s s.line.urgent (List.length_filter_le _ _)).trans
    (StoresKept.foldl (fun t _ => storesKept_offerNotice t _ _ _) _ _)

/-! ### The trailer line -/

theorem storesKept_offerNext (s : State) : StoresKept s s.offerNext := .of_same

/-- Work taken to the line leaves its queue (R33): a unit access is outstanding before as after. -/
theorem storesKept_schedule (s : State) : StoresKept s s.schedule := by
  refine ⟨by simp, by simp, fun k => ?_, by simp, ?_, by simp, by simp⟩
  · obtain h | ⟨hf, -, ⟨e, rest, -, h⟩ | ⟨step, -, -, h⟩ | ⟨e, rest, -, -, ha, h⟩ | ⟨d, -, -, ha, -, h⟩⟩ := s.schedule_cases
    · rw [h]
    all_goals
      have htx := State.lineFree_tx hf
      rw [h]
    · simp [State.accessOutstanding, State.start, Originator.transaction, htx]
    · simp [State.accessOutstanding, State.start, Originator.transaction, htx]
    · simp only [State.accessOutstanding, State.start, Originator.transaction, htx, ha, List.filter_cons, beq_iff_eq]
      split <;> simp
    · simp [State.accessOutstanding, State.start, Originator.transaction, htx]
  · obtain h | ⟨-, -, ⟨e, rest, -, h⟩ | ⟨step, -, -, h⟩ | ⟨e, rest, -, -, -, h⟩ | ⟨d, -, -, -, -, h⟩⟩ := s.schedule_cases
    · rw [h]
    · rewrite [h]
      unfold State.claimStarted
      split
      · exact (storesKept_putClaim _ _).claims
      · exact le_rfl
    all_goals
      rewrite [h]
      simp

theorem storesKept_lineWork (s : State) : StoresKept s s.lineWork := (storesKept_offerNext s).trans (storesKept_schedule _)

/-- The line with nothing in flight, whatever its gap. -/
theorem storesKept_idleLine (s : State) (gap : Option Nat) :
    StoresKept s { s with line := { s.line with tx := none, gapSince := gap } } :=
  ⟨id, .refl _, fun _ => by simp [State.accessOutstanding], id, le_rfl, id, rfl⟩

theorem storesKept_gap (s : State) (gap : Option Nat) : StoresKept s { s with line := { s.line with gapSince := gap } } :=
  ⟨id, .refl _, fun _ => le_rfl, id, le_rfl, id, rfl⟩

theorem storesKept_setTx_none (s : State) : StoresKept s (s.setTx none) := storesKept_idleLine s s.line.gapSince

theorem storesKept_setTx {s : State} {t v : Transaction} (ht : s.line.tx = some t) (hv : v.originator = t.originator) :
    StoresKept s (s.setTx (some v)) := by
  refine ⟨id, .refl _, fun k => ?_, id, le_rfl, id, rfl⟩
  obtain ⟨kind, target, payload, o, attempts, phase⟩ := t
  obtain ⟨kind', target', payload', o', attempts', phase'⟩ := v
  obtain rfl : o' = o := hv
  cases o' <;> simp [State.accessOutstanding, State.setTx, ht]

theorem storesKept_handFlags (s : State) (p : Nat) (x : Byte) : StoresKept s (s.handFlags p x) := .of_same

theorem storesKept_handOutcome (s : State) (t : Transaction) (st : Byte) (a : Option (AnswerResult × List Byte)) :
    StoresKept s (s.handOutcome t st a) := by
  unfold State.handOutcome
  split
  · exact storesKept_stepAnswered s _ _
  · exact (storesKept_deferAll s _).trans (storesKept_claimCompleted _ _ _)
  · exact storesKept_deferResponse s _
  · split
    · exact storesKept_pollAnswered s _ _ _ _
    · exact storesKept_pollUnanswered s _ _

theorem storesKept_goodAnswer (s : State) (t : Transaction) (st : Byte) (d : List Byte) : StoresKept s (s.goodAnswer t st d) :=
  ((((storesKept_count s _).trans (storesKept_setTx_none _)).trans (storesKept_handFlags _ _ _)).trans
    (storesKept_handOutcome _ _ _ _)).trans (storesKept_lineWork _)

/-! ### Loss -/

theorem storesKept_discardWork (s : State) (k : Nat) (t : Option Transaction) : StoresKept s (s.discardWork k t) := by
  have h (us : List UrgentEntry) : StoresKept s { s with line := { s.line with
      urgent := us, access := s.line.access.filter fun e => e.position < k } } :=
    ⟨id, .refl _, fun j => Nat.add_le_add_right (List.filter_sublist.filter _).length_le _, id, le_rfl, id, rfl⟩
  exact (h _).trans (storesKept_deferAll _ _)

theorem storesKept_withdrawStep (s : State) (k : Nat) : StoresKept s (s.withdrawStep k) := .of_same

/-- A record that leaves the Unit Table leaves at most four in the cache (R88). -/
theorem storesKept_retireUnit (s : State) (u : UnitRecord) : StoresKept s (s.retireUnit u) := by
  have hr : (s.retireUnit u).counters = s.counters := by simp
  refine ⟨by simp, by simp, fun k => (State.accessOutstanding_line (by simp) k).le, fun h => ?_, by simp, by rw [hr]; exact id, by simp⟩
  unfold State.retireUnit
  dsimp only
  split
  · simp [insertCache, Config.cacheRecords]
  · exact h

theorem storesKept_loseRecord (s : State) (u : UnitRecord) : StoresKept s (s.loseRecord u) :=
  ((storesKept_count s _).trans (storesKept_offerAll _ _ _)).trans (storesKept_retireUnit _ u)

theorem storesKept_probeAfterLoss (s : State) : StoresKept s s.probeAfterLoss := .of_same

theorem storesKept_loseUnits (s : State) (k : Nat) (t : Option Transaction) : StoresKept s (s.loseUnits k t) := by
  have hw (u : State) : StoresKept u ((u.walkerAfterLoss k).setChainFull false).refreshUnsettled := .of_same
  exact ((((storesKept_discardWork s k t).trans (storesKept_withdrawStep _ k)).trans (storesKept_endClaims _ _ _)).trans
    (StoresKept.foldl storesKept_loseRecord _ _)).trans ((hw _).trans (storesKept_probeAfterLoss _))

theorem storesKept_failedTransaction (s : State) (t : Transaction) : StoresKept s (s.failedTransaction t) := by
  have hn := storesKept_setTx_none s
  have hi (u : State) : StoresKept u (u.setIdentityClash false) := .of_same
  unfold State.failedTransaction
  dsimp only
  repeat' split
  · exact ((hn.trans (storesKept_count _ _)).trans (storesKept_loseUnits _ _ _)).trans (storesKept_offerNext _)
  · exact (hn.trans ((hi _).trans (storesKept_endWalk _))).trans (storesKept_offerNext _)
  · exact (hn.trans (storesKept_endWalk _)).trans (storesKept_offerNext _)

theorem storesKept_attemptFailed {s : State} {t : Transaction} (ht : s.line.tx = some t) (c : Option Counter) :
    StoresKept s (s.attemptFailed t c) := by
  have hg : StoresKept s (s.gapStarted c) := by
    cases c with
    | none => exact storesKept_gap s _
    | some c => exact (storesKept_count s c).trans (storesKept_gap _ _)
  obtain ⟨-, e⟩ | ⟨-, e⟩ := s.attemptFailed_cases t c
  · rewrite [e]
    exact hg.trans (storesKept_setTx (t := t) (by simpa using ht) rfl)
  · rewrite [e]
    exact hg.trans (storesKept_failedTransaction _ t)

theorem storesKept_receiveByte (s : State) (b : Byte) : StoresKept s (s.receiveByte b) := by
  obtain e | e | ⟨t, since, received, ht, -, e | e | ⟨st, d, e⟩⟩ := s.receiveByte_cases b
  · rewrite [e]
    exact .refl s
  · rewrite [e]
    exact storesKept_gap s _
  · rewrite [e]
    exact storesKept_setTx ht rfl
  · rewrite [e]
    exact storesKept_attemptFailed ht _
  · rewrite [e]
    exact storesKept_goodAnswer s _ _ _

theorem storesKept_receiveBytes (s : State) (bs : List Byte) : StoresKept s (s.receiveBytes bs) :=
  StoresKept.foldl storesKept_receiveByte bs s

end Sys2Proof.Machine
end

section
/-! PROOFS. The commands and the stores: those that only keep them, the arrivals that join a queue, and the setting words written. -/
namespace Sys2Proof.Machine

/-! ### Combination and lamps -/

theorem storesKept_abandon (s : State) : StoresKept s s.abandon := storesKept_idleLine s none

/-- The claims and the work of a combination that is given up (R12 and R18, steps 2 to 4). -/
theorem storesKept_givenUp (s : State) (r : EndReason) (tx : Option Transaction) :
    StoresKept s ((s.abandon.endAllClaims r).discardAllWork tx) :=
  ((storesKept_abandon s).trans (storesKept_endClaims _ _ _)).trans (storesKept_discardWork _ _ _)

theorem storesKept_drop (s : State) (next : CombState) : StoresKept s (s.drop next) := by
  have h : StoresKept s ((s.dropped.unitsFrom 0).foldl State.retireUnit s.dropped) :=
    (storesKept_givenUp s .unitLost s.line.tx).trans (StoresKept.foldl storesKept_retireUnit _ _)
  rewrite [State.drop_eq]
  generalize (s.dropped.unitsFrom 0).foldl State.retireUnit s.dropped = u at h ⊢
  exact h.trans (.of_same rfl rfl rfl rfl rfl rfl)

theorem storesKept_enterSettling (s : State) : StoresKept s s.enterSettling := .of_same rfl rfl rfl rfl rfl rfl

theorem storesKept_reach (s : State) (x : Nat) : StoresKept s (s.reach x) := .of_same rfl rfl rfl rfl rfl rfl

theorem storesKept_wake (s : State) (c : WakeCause) : StoresKept s (s.wake c) := by
  unfold State.wake
  split
  · exact .refl s
  · exact .of_same rfl rfl rfl rfl rfl rfl

theorem storesKept_enterParked (s : State) : StoresKept s s.enterParked := by
  have h := storesKept_drop s .parked
  rewrite [State.enterParked_eq]
  generalize s.drop .parked = d at h
  exact h.trans (.of_same rfl rfl rfl rfl rfl rfl)

theorem storesKept_combinationReset (s : State) : StoresKept s s.combinationReset := by
  have h := storesKept_givenUp s .forced s.line.tx
  exact ⟨h.report, h.intake, h.accesses, fun _ => Nat.zero_le _, h.claims, h.counters, h.settings⟩

theorem storesKept_verdictChanged (s : State) (l : Line) : StoresKept s (s.verdictChanged l) := by
  have hn (t : State) : StoresKept t (t.noticeVerdict l) := storesKept_offerAll t _ _
  have hp (t : State) : StoresKept t t.refreshPassive := .of_same rfl rfl rfl rfl rfl rfl
  exact ((storesKept_count s _).trans (hn _)).trans (hp _)

theorem storesKept_modifyLine (s : State) (l : Line) (f : LampLine → LampLine) : StoresKept s (s.modifyLine l f) :=
  .of_same rfl rfl rfl rfl rfl rfl

theorem storesKept_resolveSwitches (s : State) (b : Bool) : StoresKept s (s.resolveSwitches b) :=
  .of_same rfl rfl rfl rfl rfl rfl

theorem storesKept_shortVerdict (s : State) (l : Line) (x : Option (Nat × Nat)) : StoresKept s (s.shortVerdict l x) := by
  unfold State.shortVerdict
  dsimp only
  split
  · exact storesKept_modifyLine s _ _
  · exact (storesKept_modifyLine s _ _).trans (storesKept_verdictChanged _ _)

theorem storesKept_tripLine (s : State) (l : Line) (x : Option (Nat × Nat)) : StoresKept s (s.tripLine l x) := by
  have hn (t : State) : StoresKept t (t.noticeTrip l) := storesKept_offerAll t _ _
  exact ((((storesKept_modifyLine s _ _).trans (storesKept_resolveSwitches _ _)).trans (storesKept_shortVerdict _ _ _)).trans
    (storesKept_count _ _)).trans (hn _)

theorem storesKept_classified (s : State) (l : Line) (m u : Nat) : StoresKept s (s.classified l m u) := by
  unfold State.classified
  dsimp only
  split
  · exact storesKept_modifyLine s _ _
  · exact (storesKept_modifyLine s _ _).trans (storesKept_verdictChanged _ _)

theorem storesKept_setPresence (s : State) (l : Line) (x : Presence) : StoresKept s (s.setPresence l x) :=
  storesKept_modifyLine s l _

theorem storesKept_measure (s : State) (l : Line) (m u : Nat) : StoresKept s (s.measure l m u) := by
  obtain ⟨-, e⟩ | ⟨-, -, e⟩ | ⟨-, -, e⟩ := s.measure_cases l m u
  all_goals rw [e]
  · exact (storesKept_setPresence s l _).trans (storesKept_tripLine _ _ _)
  · exact ((storesKept_setPresence s l _).trans (storesKept_modifyLine _ _ _)).trans (storesKept_modifyLine _ _ _)
  · exact ((storesKept_setPresence s l _).trans (storesKept_modifyLine _ _ _)).trans (storesKept_classified _ _ _ _)

theorem storesKept_changeRequests (s : State) (k : PerSlot SlotState) : StoresKept s (s.changeRequests k) :=
  .of_same rfl rfl rfl rfl rfl rfl

/-! ### Claims -/

theorem storesKept_relinquish (s : State) (c : Claim) (b : Bool) : StoresKept s (s.relinquish c b) := by
  unfold State.relinquish
  split
  · exact storesKept_handCommand s _ _
  all_goals exact storesKept_endClaim s c

theorem storesKept_proceed (s : State) (c : Claim) (f : FunctionEntry) (cmd : Command) (e : IntakeEntry) :
    StoresKept s (s.proceed c f cmd e) := by
  cases cmd <;> exact storesKept_handCommand s _ _

/-- A claim joins a table of fewer than eight (R143, R145). -/
theorem storesLawful_insertClaim {s : State} (hs : StoresLawful s) (h : s.claims.length < Config.maxClaims) (c : Claim) :
    StoresLawful { s with claims := insertClaim c s.claims } := by
  have hl (cs : List Claim) : (insertClaim c cs).length = cs.length + 1 := by
    induction cs with
    | nil => rfl
    | cons d ds ih =>
      unfold insertClaim
      split
      · rfl
      · rw [List.length_cons, ih, List.length_cons]
  exact
    { hs with
      claims := by
        change (insertClaim c s.claims).length ≤ _
        rewrite [hl]
        exact h }

theorem StoresLawful.decideActuate {s : State} (hs : StoresLawful s) (hr : s.port.report.length < Config.reportFrames)
    (e : IntakeEntry) (f : FunctionEntry) (cmd : Command) (p i : Nat) : StoresLawful (s.decideActuate e f cmd p i) := by
  unfold State.decideActuate
  dsimp only
  split
  · split
    · next hl =>
      exact (storesLawful_insertClaim hs hl _).of_kept ((storesKept_proceed _ _ _ _ _).trans (storesKept_lineWork _))
    · exact hs.of_kept ((storesKept_count s .requestsBusy).trans (storesKept_answer (s := s.count .requestsBusy) hr _ _ _ _))
  · split
    · exact hs.of_kept (storesKept_answer hr _ _ _ _)
    · split
      · exact hs.of_kept ((storesKept_proceed _ _ _ _ _).trans (storesKept_lineWork _))
      · exact hs.of_kept (storesKept_answer hr _ _ _ _)

/-! ### Arrivals -/

theorem storesKept_refuseBusy (s : State) (e : IntakeEntry) : StoresKept s (s.refuseBusy e) := by
  unfold State.refuseBusy
  dsimp only
  split
  · next h =>
    simp only [Bool.and_eq_true, decide_eq_true_eq] at h
    exact (storesKept_count s _).trans (storesKept_answer (State.report_room h.2) _ _ _ _)
  · exact (storesKept_count s _).trans (storesKept_setMissed _ _ _)

/-- A request joins an intake and a quota that are not full (R157). -/
theorem StoresLawful.offerIntake {s : State} (hs : StoresLawful s) (e : IntakeEntry) : StoresLawful (s.offerIntake e) := by
  unfold State.offerIntake
  split
  · exact hs.of_kept (storesKept_refuseBusy s e)
  · next h =>
    simp only [not_or, not_le] at h
    exact { hs with
            intake := by simpa using h.1
            quotas := fun k => by
              have hk := hs.quotas k
              by_cases he : e.slot = k
              · subst he
                simpa [State.intakeHeld, State.quota, State.setting] using h.2
              · simpa [he, State.quota, State.setting] using hk }

theorem storesKept_lampSet (s : State) (k : Slot) (n l w : Byte) : StoresKept s (s.lampSet k n l w) := by
  unfold State.lampSet
  dsimp only
  split
  · exact (storesKept_changeRequests s _).trans (storesKept_deferResponse _ _)
  · exact storesKept_changeRequests s _

theorem StoresLawful.hearFrame {s : State} (hs : StoresLawful s) (f : BusFrame) : StoresLawful (s.hearFrame f) := by
  unfold State.hearFrame
  split
  · exact hs
  · split
    · exact hs.of_kept (storesKept_wake s _)
    · split
      · unfold State.acceptRequest
        split
        · exact hs.of_kept (storesKept_count s _)
        · split
          · exact hs.of_kept (storesKept_lampSet s _ _ _ _)
          · exact hs.offerIntake _
      · exact hs

/-- A unit access joins fewer than two outstanding ones of its slot (R38). -/
theorem StoresLawful.requestAccess {s : State} (hs : StoresLawful s) (hr : s.port.report.length < Config.reportFrames)
    (e : IntakeEntry) (kind : AccessKind) : StoresLawful (s.requestAccess e kind) := by
  have ha (st : Status) : StoresLawful (s.answer e st) := hs.of_kept (storesKept_answer hr _ _ _ _)
  unfold State.requestAccess
  dsimp only
  split
  · exact ha _
  · split
    · exact ha _
    · split
      · exact ha _
      · split
        · exact hs.of_kept ((storesKept_count s .requestsBusy).trans (storesKept_answer (s := s.count .requestsBusy) hr _ _ _ _))
        · next h =>
          refine StoresLawful.of_kept ?_ (storesKept_lineWork _)
          have hk (k : Slot) : State.accessOutstanding { s with line := { s.line with
              access := s.line.access ++ [⟨e.slot, e.sequence, e.operand 2, byteAt e.data 3, kind⟩] } } k
              ≤ Config.accessPerSlot := by
            have hb : s.accessOutstanding e.slot < Config.accessPerSlot := Nat.lt_of_not_le h
            have hk := hs.accesses.2 k
            simp only [State.accessOutstanding, List.filter_append, List.length_append] at hk hb ⊢
            by_cases he : e.slot = k
            · subst he
              simp only [List.filter_cons, beq_self_eq_true, if_true, List.filter_nil, List.length_singleton]
              omega
            · simpa [he] using hk
          exact { hs with accesses := ⟨State.access_le_eight hk, hk⟩ }

/-! ### Setting words -/

theorem clampNat_bounds {lo hi : Nat} (h : lo ≤ hi) (n : Nat) : lo ≤ clampNat lo hi n ∧ clampNat lo hi n ≤ hi :=
  ⟨Nat.le_max_left _ _, Nat.max_le.mpr ⟨h, Nat.min_le_left _ _⟩⟩

/-- Every range of 11.4 is one of rising bounds that a word holds. -/
theorem settingRange_bounds {n : Setting} {lo hi : Nat} (h : settingRange n = some (lo, hi)) : lo ≤ hi ∧ hi < 2 ^ 32 := by
  cases n <;> simp only [settingRange, Option.some.injEq, Prod.mk.injEq, reduceCtorEq] at h <;> omega

theorem clampedWord_unranged {n : Setting} (h : settingRange n = none) (w : Word32) : clampedWord n w = w := by
  unfold clampedWord
  split <;> simp_all

/-- A single number is stored in its range, or as the hold value of a refresh window (R168). -/
theorem clampedWord_ranged {n : Setting} {lo hi : Nat} (h : settingRange n = some (lo, hi)) (w : Word32) :
    (lo ≤ (clampedWord n w).toNat ∧ (clampedWord n w).toNat ≤ hi) ∨ ((∃ k, n = .refreshWindow k) ∧ (clampedWord n w).toNat = 0) := by
  obtain ⟨hle, hlt⟩ := settingRange_bounds h
  have hb := clampNat_bounds hle w.toNat
  have hn : (BitVec.ofNat 32 (clampNat lo hi w.toNat)).toNat = clampNat lo hi w.toNat := by
    rewrite [BitVec.toNat_ofNat]
    exact Nat.mod_eq_of_lt (by omega)
  unfold clampedWord
  split
  · next k lo' hi' e =>
    obtain ⟨rfl, rfl⟩ : lo' = lo ∧ hi' = hi := by simpa [h] using e.symm
    split
    · exact .inr ⟨⟨k, rfl⟩, rfl⟩
    · exact .inl (by rw [hn]; exact hb)
  · next lo' hi' _ e =>
    obtain ⟨rfl, rfl⟩ : lo' = lo ∧ hi' = hi := by simpa [h] using e.symm
    exact .inl (by rw [hn]; exact hb)
  · next e => simp [h] at e

/-- A single number has the whole word (log entry 10). -/
theorem settingFieldBits_ranged {n : Setting} (h : settingRange n ≠ none) : settingFieldBits n = 0xFFFFFFFF := by
  cases n <;> first | rfl | exact absurd rfl h

/-- What a word must be to be stored under its setting: in its fields and its range (R168), not below the entries its quota holds
(R178), and no tag that another slot holds (R160). -/
structure WordLawful (s : State) (n : Setting) (w : Word32) : Prop where
  fields : w &&& ~~~(settingFieldBits n) = 0
  range : ∀ lo hi, settingRange n = some (lo, hi) →
    (lo ≤ w.toNat ∧ w.toNat ≤ hi) ∨ ((∃ k, n = .refreshWindow k) ∧ w.toNat = 0)
  quota : ∀ k, n = .intakeQuota k → (s.port.intake.filter fun e => e.slot == k).length ≤ w.toNat
  tag : ∀ k, n = .slotWord k → wordTag w = 0xFF ∨ ∀ j, j ≠ k → s.tag j ≠ wordTag w
  free : settingClass n ≠ .fixed

theorem StoresLawful.storeWord {s : State} (hs : StoresLawful s) {n : Setting} {w : Word32} (h : WordLawful s n w) :
    StoresLawful (s.storeWord n w) := by
  have hne {m : Setting} (hm : m ≠ n) : (s.settings.set n w).get m = s.settings.get m := Settings.get_set_ne _ _ hm
  have htag (k : Slot) : (s.storeWord n w).tag k = if n = .slotWord k then wordTag w else s.tag k := by
    split
    · next e => subst e; exact congrArg wordTag (Settings.get_set_self s.settings (.slotWord k) w)
    · next e => exact congrArg wordTag (hne (m := .slotWord k) (Ne.symm e))
  exact
    { report := hs.report, intake := hs.intake, accesses := hs.accesses, cache := hs.cache, claims := hs.claims
      counters := hs.counters
      quotas := fun k => by
        by_cases e : n = .intakeQuota k
        · subst e
          have := h.quota k rfl
          simpa [State.quota, State.setting, State.storeWord] using this
        · have := hs.quotas k
          simpa [State.quota, State.setting, State.storeWord, hne (m := .intakeQuota k) (Ne.symm e)] using this
      ranges := fun m lo hi hr => by
        by_cases e : m = n
        · subst e
          simpa [State.setting, State.storeWord] using h.range lo hi hr
        · simpa [State.setting, State.storeWord, hne e] using hs.ranges m lo hi hr
      fields := fun m => by
        by_cases e : m = n
        · subst e
          simpa [State.storeWord] using h.fields
        · simpa [State.storeWord, hne e] using hs.fields m
      fixed := by
        have h1 : (s.settings.set n w).get .partCode = s.settings.get .partCode := hne (by rintro rfl; exact h.free rfl)
        have h2 : (s.settings.set n w).get .behaviourRevision = s.settings.get .behaviourRevision :=
          hne (by rintro rfl; exact h.free rfl)
        exact ⟨h1.trans hs.fixed.1, h2.trans hs.fixed.2⟩
      tags := fun j k hjk he => by
        rewrite [htag, htag] at he
        rewrite [htag]
        split at he
        · next ej =>
          rw [if_neg (by rintro ek; rw [ej] at ek; exact hjk (Setting.slotWord.inj ek))] at he
          obtain ht | ht := h.tag j ej
          · rw [if_pos ej, ht]
          · exact absurd he.symm (ht k (Ne.symm hjk))
        · next ej =>
          rewrite [if_neg ej]
          split at he
          · next ek =>
            obtain ht | ht := h.tag k ek
            · rw [he, ht]
            · exact absurd he (ht j hjk)
          · exact hs.tags j k hjk he }

theorem State.tagTaken_false {s : State} {k : Slot} {t : Byte} (h : s.tagTaken k t = false) {j : Slot} (hj : j ≠ k) :
    s.tag j ≠ t := by
  have := List.any_eq_false.mp h j (by cases j <;> decide)
  simpa [hj] using this

/-- A word that passes its check may be stored (R160, R168, R178). -/
theorem State.checkWord_lawful {s : State} {k : Slot} {n : Setting} {w v : Word32} (hc : settingClass n ≠ .fixed)
    (h : s.checkWord k n w = .ok v) : WordLawful s n v := by
  unfold State.checkWord at h
  split at h
  · cases h
  · next hn =>
    have hf := not_not.mp hn
    have hfields : clampedWord n w &&& ~~~(settingFieldBits n) = 0 := by
      by_cases hr : settingRange n = none
      · rewrite [clampedWord_unranged hr]
        exact hf
      · rewrite [settingFieldBits_ranged hr]
        exact BitVec.and_zero
    split at h
    · next j =>
      have hv : v = w ∧ (wordTag w = 0xFF ∨ ∀ i, i ≠ j → s.tag i ≠ wordTag w) := by
        split at h
        · next ht =>
          split at h
          · cases h
          · exact ⟨(Except.ok.inj h).symm, .inl ht⟩
        · split at h
          · cases h
          · next ht =>
            exact ⟨(Except.ok.inj h).symm, .inr fun i hi => State.tagTaken_false (Bool.eq_false_iff.mpr ht) hi⟩
      obtain ⟨rfl, ht⟩ := hv
      exact ⟨hf, fun _ _ h => (by cases h), fun _ h => (by cases h), fun i hi => (Setting.slotWord.inj hi) ▸ ht, hc⟩
    · next j =>
      split at h
      · cases h
      · next hq =>
        obtain rfl := Except.ok.inj h
        exact ⟨hfields, fun _ _ hr => clampedWord_ranged hr w,
          fun i hi => (Setting.intakeQuota.inj hi) ▸ Nat.le_of_not_lt hq, fun _ h => (by cases h), hc⟩
    · next hs hq =>
      obtain rfl := Except.ok.inj h
      exact ⟨hfields, fun _ _ hr => clampedWord_ranged hr w, fun i hi => absurd hi (hq i), fun i hi => absurd hi (hs i), hc⟩

theorem storesKept_emptySlot (s : State) (k : Slot) : StoresKept s (s.emptySlot k) :=
  ⟨id, List.filter_sublist, fun _ => le_rfl, id, le_rfl, id, rfl⟩

theorem StoresLawful.writeWord {s : State} (hs : StoresLawful s) {n : Setting} {w : Word32} (h : WordLawful s n w) :
    StoresLawful (s.writeWord n w) := by
  have ht := hs.storeWord h
  unfold State.writeWord
  dsimp only
  split
  · split
    · exact ht.of_kept ((storesKept_emptySlot _ _).trans (storesKept_changeRequests _ _))
    · exact ht.of_kept (storesKept_changeRequests _ _)
  · exact ht.of_kept (.of_same rfl rfl rfl rfl rfl rfl)
  · exact ht

/-- No effect of a setting word queues a frame. -/
theorem State.writeWord_report (s : State) (n : Setting) (w : Word32) : (s.writeWord n w).port.report = s.port.report := by
  unfold State.writeWord
  dsimp only
  repeat' split
  all_goals rfl

theorem storesKept_takeHolder (s : State) (n : Setting) (k : Slot) : StoresKept s (s.takeHolder n k) := by
  unfold State.takeHolder
  split
  · exact .of_same rfl rfl rfl rfl rfl rfl
  · exact .refl s

theorem State.takeHolder_report (s : State) (n : Setting) (k : Slot) : (s.takeHolder n k).port.report = s.port.report := by
  unfold State.takeHolder
  split <;> rfl

theorem StoresLawful.decideWrite {s : State} (hs : StoresLawful s) (hr : s.port.report.length < Config.reportFrames)
    (e : IntakeEntry) (n : Setting) (w : Word32) : StoresLawful (s.decideWrite e n w) := by
  have ha (st : Status) (d : List Byte) : StoresLawful (s.answer e st d) := hs.of_kept (storesKept_answer hr _ _ _ _)
  unfold State.decideWrite
  split
  · exact ha _ _
  · next hc =>
    split
    · exact ha _ _
    · split
      · exact ha _ _
      · split
        · exact ha _ _
        · next v hv =>
          have hw := hs.writeWord (State.checkWord_lawful hc hv)
          refine (hw.of_kept (storesKept_takeHolder _ n e.slot)).of_kept (storesKept_answer ?_ _ _ _ _)
          rewrite [State.takeHolder_report, State.writeWord_report]
          exact hr

end Sys2Proof.Machine
end

section
/-! PROOFS. Every command and the stores; with them, every step keeps the stores within their bounds. -/
namespace Sys2Proof.Machine

theorem storesKept_event {f : State → State} {s t : State} (hf : StoresKept s (f s)) (h : event f s = .next t) :
    StoresKept s t := event_keeps (P := StoresKept s) (.refl s) (fun _ => hf.closed s) h

theorem storesKept_powered {f : State → State} {s t : State} (hf : StoresKept s (f s)) (h : powered f s = .next t) :
    StoresKept s t := powered_keeps (P := StoresKept s) (.refl s) (fun _ => hf) h

/-! ### The resets -/

/-- The defaults of 11.4 are in their ranges, a refresh window at its hold value. -/
theorem Settings.default_ranged {n : Setting} {b : Nat × Nat} (h : settingRange n = some b) :
    (b.1 ≤ (Settings.default.get n).toNat ∧ (Settings.default.get n).toNat ≤ b.2)
      ∨ ((∃ k, n = .refreshWindow k) ∧ (Settings.default.get n).toNat = 0) := by
  cases n
  case refreshWindow k => exact .inr ⟨⟨k, rfl⟩, by cases k <;> rfl⟩
  case intakeQuota k => cases h; exact .inl (by cases k <;> decide)
  case lampSettle l => cases h; exact .inl (by cases l <;> decide)
  all_goals
    cases h
    all_goals exact .inl (by decide)

theorem Settings.default_fields (n : Setting) : Settings.default.get n &&& ~~~(settingFieldBits n) = 0 := by
  cases n
  case slotWord k | noticeRouting k | intakeQuota k | refreshWindow k => cases k <;> decide
  case lampSettle l => cases l <;> decide
  all_goals decide

theorem Settings.default_tags {j k : Slot} (h : j ≠ k) :
    wordTag (Settings.default.slotWord.get j) ≠ wordTag (Settings.default.slotWord.get k) := by
  cases j <;> cases k <;> first | exact absurd rfl h | decide

theorem Counters.capped_zero : Counters.zero.Capped := by
  intro n hn
  obtain rfl : n = 0 := by simpa [Counters.toList, Counters.zero] using hn
  decide

theorem storesLawful_resetAt (t : Nat) : StoresLawful (State.resetAt t) where
  report := Nat.zero_le _
  intake := Nat.zero_le _
  quotas _ := Nat.zero_le _
  accesses := ⟨Nat.zero_le _, fun _ => Nat.zero_le _⟩
  cache := Nat.zero_le _
  claims := Nat.zero_le _
  counters := Counters.capped_zero
  ranges _ _ _ h := Settings.default_ranged h
  fields := Settings.default_fields
  fixed := ⟨rfl, rfl⟩
  tags _ _ hjk he := absurd he (Settings.default_tags hjk)

theorem storesLawful_powerOn (s : State) (c : ResetCause) : StoresLawful (s.powerOn c) :=
  (storesLawful_resetAt s.now).of_kept (.of_same rfl rfl rfl rfl rfl rfl)

/-! ### The commands of the port -/

theorem State.answer_report_length (s : State) (e : IntakeEntry) (st : Status) (d : List Byte) (b : Bool) :
    (s.answer e st d b).port.report.length = s.port.report.length + 1 := by
  simp only [State.answer, State.queueResponse, State.setMissed, State.queueFrame, List.length_append, List.length_singleton]

theorem State.queueFrame_report_length (s : State) (kind : Byte) (k : Slot) (d : List Byte) :
    (s.queueFrame kind k d).port.report.length = s.port.report.length + 1 := by
  simp only [State.queueFrame, List.length_append, List.length_singleton]

/-- A dump has room for its six frames (R161). -/
theorem storesKept_queueDump {s : State} (h : s.port.report.length + 6 ≤ Config.reportFrames) (e : IntakeEntry) (b : Counters) :
    StoresKept s (s.queueDump e b) := by
  unfold State.queueDump
  dsimp only
  refine ((((((storesKept_answer ?_ _ _ _ _).trans (storesKept_queueFrame ?_ _ _ _)).trans (storesKept_queueFrame ?_ _ _ _)).trans
    (storesKept_queueFrame ?_ _ _ _)).trans (storesKept_queueFrame ?_ _ _ _)).trans (storesKept_answer ?_ _ _ _ _))
  · omega
  all_goals
    simp only [State.queueFrame_report_length, State.answer_report_length]
    omega

theorem storesKept_closeWindow (s : State) (c : SetupCause) : StoresKept s (s.closeWindow c) := by
  have h : StoresKept s { s with setup := { open_ := false, holder := none, deadlineSince := none } } :=
    .of_same rfl rfl rfl rfl rfl rfl
  exact h.trans (storesKept_offerAll _ _ _)

theorem framesNeeded_dump {s : State} {e : IntakeEntry} {code : Byte} (hw : isRequest code e = true)
    (hc : code = codeCountersDump ∨ code = codeCountersDumpReset ∧ s.hasRight e.slot .resets = true)
    (hf : s.framesNeeded e ≤ s.freeFrames) : s.port.report.length + 6 ≤ Config.reportFrames := by
  simp only [isRequest, Bool.and_eq_true, decide_eq_true_eq, beq_iff_eq] at hw
  have h6 : s.framesNeeded e = 6 := by
    unfold State.framesNeeded
    rewrite [if_neg (Nat.not_lt.mpr hw.1), hw.2]
    obtain rfl | ⟨rfl, hr⟩ := hc
    · rfl
    · rewrite [hr]
      rfl
  rewrite [h6, State.freeFrames] at hf
  omega

theorem storesKept_port {s : State} (x : Port) (hr : x.report = s.port.report) (hi : x.intake = s.port.intake) :
    StoresKept s { s with port := x } :=
  ⟨fun h => by rwa [← hr] at h, by rw [hi], fun _ => le_rfl, id, le_rfl, id, rfl⟩

/-- A notice routing without bit 7 has no bit outside its fields (R169). -/
theorem storesLawful_route {s : State} (hs : StoresLawful s) (k : Slot) {x : Byte} (hx : x.getLsbD 7 = false) :
    StoresLawful (s.storeWord (.noticeRouting k) (x.setWidth 32)) := by
  refine hs.storeWord ⟨?_, fun _ _ h => (by cases h), fun _ h => (by cases h), fun _ h => (by cases h), fun h => (by cases h)⟩
  show x.setWidth 32 &&& ~~~(0x7F : Word32) = 0#32
  have hmask : ∀ i < 7, (0x7F : Word32).getLsbD i = true := by decide
  apply BitVec.eq_of_getLsbD_eq
  intro i hi
  rewrite [BitVec.getLsbD_and, BitVec.getLsbD_not, BitVec.getLsbD_setWidth]
  obtain hlow | rfl | hhigh : i < 7 ∨ i = 7 ∨ 8 ≤ i := by omega
  · rw [hmask i hlow, Bool.not_true, Bool.and_false, Bool.and_false, BitVec.getLsbD_zero]
  · rw [hx, Bool.and_false, Bool.false_and, BitVec.getLsbD_zero]
  · simp [BitVec.getLsbD_of_ge x i hhigh]

/-! ### The commands -/

theorem PortCommand.storesLawful {c : Instr} (hc : PortCommand c) {s t : State} (hs : StoresLawful s) (h : exec c s = .next t) :
    StoresLawful t := by
  cases hc with
  | combinationRead | refusedFormat | refusedUnknown =>
    dsimp only [exec, execCombinationRead, execRefusedFormat, execRefusedUnknown] at h
    exact hs.of_kept (storesKept_powered (storesKept_taking fun e u hr => storesKept_answer hr e _ _ _) h)
  | unitRead | functionRead | verdictRead | senseRead | settingRead | partStatusRead =>
    dsimp only [exec, execUnitRead, execFunctionRead, execVerdictRead, execSenseRead, execSettingRead, execPartStatusRead] at h
    refine hs.of_kept (storesKept_powered (storesKept_taking fun e u hr => ?_) h)
    repeat' split
    all_goals exact storesKept_answer hr e _ _ _
  | countersDump =>
    dsimp only [exec, execCountersDump] at h
    refine hs.of_kept (storesKept_powered ?_ h)
    obtain hn | ⟨e, rest, hi, -, hw, hf, hh⟩ := s.takeHead_cases (isRequest codeCountersDump)
    · rewrite [hn]
      exact .refl s
    · rewrite [hh]
      exact (storesKept_taken hi).trans (storesKept_queueDump (s := s.taken rest) (framesNeeded_dump hw (.inl rfl) hf) _ _)
  | countersDumpReset =>
    dsimp only [exec, execCountersDumpReset] at h
    refine hs.of_kept (storesKept_powered ?_ h)
    obtain hn | ⟨e, rest, hi, -, hw, hf, hh⟩ := s.takeHead_cases (isRequest codeCountersDumpReset)
    · rewrite [hn]
      exact .refl s
    · rewrite [hh]
      dsimp only
      split
      · next hr =>
        have hz : StoresKept s { s.taken rest with counters := .zero } :=
          have h := storesKept_taken hi
          ⟨h.report, h.intake, h.accesses, h.cache, h.claims, fun _ => Counters.capped_zero, h.settings⟩
        exact (hz.trans (storesKept_count _ .requestsTaken)).trans
          (storesKept_queueDump (s := State.count { s.taken rest with counters := .zero } .requestsTaken)
            (framesNeeded_dump hw (.inr ⟨rfl, hr⟩) hf) _ _)
      · exact (storesKept_taken hi).trans
          (storesKept_answer (s := s.taken rest) (State.report_room (Nat.lt_of_lt_of_le (s.framesNeeded_pos e) hf)) _ _ _ _)
  | fullReset =>
    dsimp only [exec, execFullReset] at h
    refine hs.of_kept (storesKept_powered (storesKept_taking fun e u hr => ?_) h)
    split
    · exact (storesKept_answer hr e .done _ _).trans (storesKept_port _ rfl rfl)
    · exact storesKept_answer hr e _ _ _
  | setupClose =>
    dsimp only [exec, execSetupClose] at h
    refine hs.of_kept (storesKept_powered (storesKept_taking fun e u hr => ?_) h)
    have ha (st : Status) (d : List Byte) := storesKept_answer hr e st d false
    repeat' split
    · exact ha _ _
    · exact (ha _ _).trans (storesKept_closeWindow _ _)
    · exact ha _ _
    · exact (ha _ _).trans (storesKept_closeWindow _ _)
  | setupDeadlineExpiry =>
    dsimp only [exec, execSetupDeadlineExpiry] at h
    refine hs.of_kept (storesKept_powered ?_ h)
    split
    · exact (storesKept_reach s _).trans (storesKept_closeWindow _ _)
    · exact .refl s
  | noticeRoute =>
    dsimp only [exec, execNoticeRoute] at h
    refine powered_keeps hs (fun _ => hs.taking fun e u hu hr => ?_) h
    split
    · exact hu.of_kept (storesKept_answer hr e _ _ _)
    · next hx =>
      have hw := storesLawful_route hu e.slot (Bool.eq_false_iff.mpr hx)
      exact hw.of_kept (storesKept_answer (s := u.storeWord _ _) hr e _ _ _)
  | frameTransmitted =>
    dsimp only [exec, execFrameTransmitted] at h
    refine hs.of_kept (storesKept_powered ?_ h)
    split
    · exact .refl s
    · split
      · exact .refl s
      · next f rest hq =>
        have hp (x : Port) (hx : x.report = rest) (hi : x.intake = s.port.intake) : StoresKept s { s with port := x } :=
          ⟨fun h => by
              rewrite [hq, List.length_cons] at h
              change x.report.length ≤ _
              rewrite [hx]
              omega,
            by rw [hi], fun _ => le_rfl, id, le_rfl, id, rfl⟩
        exact (hp { s.port with
          report := rest, canOut := some f
          fullReset := s.port.fullReset.map fun w => { w with ahead := w.ahead - 1 } } rfl rfl).trans (storesKept_serveDeferred _)
  | busOffEntry =>
    dsimp only [exec, execBusOffEntry] at h
    refine hs.of_kept (storesKept_powered ?_ h)
    split
    · exact .refl s
    · exact (storesKept_port { s.port with busOff := true } rfl rfl).trans (storesKept_count _ _)
  | busOffExit =>
    dsimp only [exec, execBusOffExit] at h
    exact hs.of_kept (storesKept_powered (storesKept_port { s.port with busOff := false } rfl rfl) h)

theorem CombCommand.storesLawful {c : Instr} (hc : CombCommand c) {s t : State} (hs : StoresLawful s) (h : exec c s = .next t) :
    StoresLawful t := by
  cases hc with
  | powerOnReset => exact next_keeps (storesLawful_powerOn s _) h
  | lowSupplyReset =>
    refine next_keeps ?_ h
    exact (storesLawful_powerOn s .lowSupply).of_kept (.of_same rfl rfl rfl rfl rfl rfl)
  | lowSupplyRelease =>
    refine next_keeps ?_ h
    split
    · exact storesLawful_powerOn s _
    · exact hs
  | fullResetWaitEnd =>
    dsimp only [exec, execFullResetWaitEnd] at h
    refine powered_keeps hs (fun _ => ?_) h
    split
    · exact storesLawful_powerOn _ _
    · exact hs
  | sampleInstant p i l =>
    dsimp only [exec, execSampleInstant] at h
    refine hs.of_kept (storesKept_event ?_ h)
    split
    all_goals exact .of_same rfl rfl rfl rfl rfl rfl
  | attachDebounceExpiry =>
    dsimp only [exec, execAttachDebounceExpiry] at h
    refine hs.of_kept (storesKept_event ?_ h)
    repeat' split
    · exact .of_same rfl rfl rfl rfl rfl rfl
    · exact (storesKept_reach s _).trans (storesKept_enterSettling _)
    · exact (storesKept_reach s _).trans (storesKept_drop _ _)
    · exact (storesKept_reach s _).trans (storesKept_drop _ _)
    · exact (storesKept_reach s _).trans (storesKept_drop _ _)
    · exact .refl s
    · exact .refl s
  | parkDelayExpiry =>
    dsimp only [exec, execParkDelayExpiry] at h
    refine hs.of_kept (storesKept_event ?_ h)
    repeat' split
    · exact (storesKept_reach s _).trans (storesKept_enterParked _)
    · exact .refl s
    · exact .refl s
  | selfWake p l =>
    dsimp only [exec, execSelfWake] at h
    refine hs.of_kept (storesKept_event ?_ h)
    have hw (x : SenseFrontEnd) (n : Nat) : StoresKept s { s.reach n with sense := x } := .of_same rfl rfl rfl rfl rfl rfl
    repeat' split
    · exact hw _ _
    · exact (hw _ _).trans (storesKept_wake _ _)
    · exact .refl s
  | ignitionWake =>
    dsimp only [exec, execIgnitionWake] at h
    refine hs.of_kept (storesKept_event ?_ h)
    have hw (x : SenseFrontEnd) : StoresKept s { s with sense := x } := .of_same rfl rfl rfl rfl rfl rfl
    split
    · exact (hw _).trans (storesKept_wake _ _)
    · exact .refl s
  | startWaitExpiry =>
    dsimp only [exec, execStartWaitExpiry] at h
    refine hs.of_kept (storesKept_event ?_ h)
    repeat' split
    all_goals exact .of_same rfl rfl rfl rfl rfl rfl
  | feedOffTimeExpiry =>
    dsimp only [exec, execFeedOffTimeExpiry] at h
    refine hs.of_kept (storesKept_event ?_ h)
    repeat' split
    all_goals exact .of_same rfl rfl rfl rfl rfl rfl
  | combinationReset =>
    dsimp only [exec, execCombinationReset] at h
    refine hs.of_kept (storesKept_powered (storesKept_taking fun e u hr => ?_) h)
    split
    · have hk (t : State) : StoresKept t t.retimeAttach.retimePark := .of_same rfl rfl rfl rfl rfl rfl
      exact (((storesKept_answer hr e _ _ _).trans (storesKept_combinationReset _)).trans (hk _)).trans (storesKept_offerAll _ _ _)
    · exact storesKept_answer hr e _ _ _

theorem LampCommand.storesLawful {c : Instr} (hc : LampCommand c) {s t : State} (hs : StoresLawful s) (h : exec c s = .next t) :
    StoresLawful t := by
  cases hc with
  | sampleInstant p i l => exact CombCommand.storesLawful (.sampleInstant p i l) hs h
  | selfWake p l => exact CombCommand.storesLawful (.selfWake p l) hs h
  | ignitionWake => exact CombCommand.storesLawful .ignitionWake hs h
  | busFrameWake f =>
    dsimp only [exec, execBusFrameWake] at h
    refine hs.event ?_ h
    split
    · exact hs.hearFrame f
    · exact hs
  | requestFrame f =>
    dsimp only [exec, execRequestFrame] at h
    exact hs.event (hs.hearFrame f) h
  | lampSet i q l w =>
    dsimp only [exec, execLampSet] at h
    exact hs.event (hs.hearFrame _) h
  | refreshWindowExpiry k =>
    dsimp only [exec, execRefreshWindowExpiry] at h
    refine hs.of_kept (storesKept_event ?_ h)
    split
    · exact .refl s
    · exact (storesKept_reach s _).trans (storesKept_changeRequests _ _)
  | flashPhaseEnd =>
    dsimp only [exec, execFlashPhaseEnd] at h
    refine hs.of_kept (storesKept_event ?_ h)
    split
    all_goals exact .of_same rfl rfl rfl rfl rfl rfl
  | switchFaultIndication l =>
    dsimp only [exec, execSwitchFaultIndication] at h
    refine hs.of_kept (storesKept_event ?_ h)
    split
    · exact storesKept_tripLine s _ _
    · exact .refl s
  | restartDelayExpiry l =>
    dsimp only [exec, execRestartDelayExpiry] at h
    refine hs.of_kept (storesKept_event ?_ h)
    split
    all_goals exact .of_same rfl rfl rfl rfl rfl rfl
  | lineReset =>
    dsimp only [exec, execLineReset] at h
    refine hs.of_kept (storesKept_event (storesKept_taking fun e u hr => ?_) h)
    have ha (st : Status) := storesKept_answer hr e st [] false
    repeat' split
    · exact ha _
    · exact ha _
    · exact ha _
    · exact ((storesKept_modifyLine u _ _).trans (storesKept_resolveSwitches _ _)).trans
        (storesKept_answer (s := (u.modifyLine _ _).resolveSwitches _) hr _ _ _ _)
  | measurementInstant l c1 c2 c3 c4 =>
    dsimp only [exec, execMeasurementInstant] at h
    refine hs.of_kept (storesKept_event ?_ h)
    split
    · exact (storesKept_reach s _).trans (storesKept_measure _ _ _ _)
    · exact .refl s
  | settingWrite =>
    dsimp only [exec, execSettingWrite] at h
    refine hs.event (hs.taking fun e u hu hr => ?_) h
    split
    · exact hu.of_kept (storesKept_answer hr e _ _ _)
    · exact hu.decideWrite hr e _ _
  | settingFieldWrite =>
    dsimp only [exec, execSettingFieldWrite] at h
    refine hs.event (hs.taking fun e u hu hr => ?_) h
    repeat' split
    · exact hu.of_kept (storesKept_answer hr e _ _ _)
    · exact hu.of_kept (storesKept_answer hr e _ _ _)
    · exact hu.decideWrite hr e _ _

theorem TrailerCommand.storesLawful {c : Instr} (hc : TrailerCommand c) {s t : State} (hs : StoresLawful s)
    (h : exec c s = .next t) : StoresLawful t := by
  cases hc with
  | callSent =>
    dsimp only [exec, execCallSent] at h
    refine hs.of_kept (storesKept_powered ?_ h)
    split
    · next t ht =>
      split
      · have hk := (storesKept_count s .callsSent).trans (storesKept_setTx (s := s.count .callsSent)
          (v := { t with phase := .awaiting s.now [] }) ht rfl)
        exact hk.trans ⟨id, .refl _, fun _ => le_rfl, id, le_rfl, id, rfl⟩
      · exact .refl s
    · exact .refl s
  | answerWindowExpiry =>
    dsimp only [exec, execAnswerWindowExpiry] at h
    refine hs.of_kept (storesKept_event ?_ h)
    repeat' split
    · next t ht _ _ _ => exact (storesKept_reach s _).trans (storesKept_attemptFailed (s := s.reach _) ht _)
    · exact .refl s
    · exact .refl s
  | byteGapTimeout =>
    dsimp only [exec, execByteGapTimeout] at h
    refine hs.of_kept (storesKept_event ?_ h)
    repeat' split
    · next t ht _ _ _ _ _ => exact (storesKept_reach s _).trans (storesKept_attemptFailed (s := s.reach _) ht _)
    · exact .refl s
    · exact .refl s
  | lengthByteError bs | answerFrameComplete bs =>
    dsimp only [exec, execLengthByteError, execAnswerFrameComplete] at h
    exact hs.of_kept (storesKept_event (storesKept_receiveBytes s bs) h)
  | discardedByte b | answerByteReceived b =>
    dsimp only [exec, execDiscardedByte, execAnswerByteReceived] at h
    exact hs.of_kept (storesKept_event (storesKept_receiveByte s b) h)
  | resyncGapEnd =>
    dsimp only [exec, execResyncGapEnd] at h
    refine hs.of_kept (storesKept_powered ?_ h)
    split
    · next since _ =>
      have hg : StoresKept s (s.gapEnded since) := (storesKept_reach s _).trans (storesKept_gap _ _)
      split
      · next t ht => exact hg.trans (storesKept_setTx (s := s.gapEnded since) ht rfl)
      · exact hg.trans (storesKept_lineWork _)
    · exact .refl s
  | pollDue p i =>
    dsimp only [exec, execPollDue] at h
    refine hs.of_kept (storesKept_powered ?_ h)
    repeat' split
    · exact (storesKept_reach s _).trans (storesKept_lineWork _)
    · exact .refl s
    · exact .refl s
  | extensionTimerExpiry =>
    dsimp only [exec, execExtensionTimerExpiry] at h
    refine hs.of_kept (storesKept_powered ?_ h)
    have hw (t : State) (f : Walker → Walker) : StoresKept t (t.modifyWalker f) := .of_same rfl rfl rfl rfl rfl rfl
    split
    · exact ((storesKept_reach s _).trans (hw _ _)).trans (storesKept_lineWork _)
    · exact .refl s
  | feedStartWaitExpiry =>
    dsimp only [exec, execFeedStartWaitExpiry] at h
    refine hs.of_kept (storesKept_event ?_ h)
    split
    · next since _ _ =>
      have hb : StoresKept s (s.startBuilding since) := .of_same rfl rfl rfl rfl rfl rfl
      exact hb.trans (storesKept_lineWork (s.startBuilding since))
    · exact .refl s
  | stalenessThreshold p i =>
    dsimp only [exec, execStalenessThreshold] at h
    refine hs.of_kept (storesKept_event ?_ h)
    repeat' split
    · exact ((storesKept_reach s _).trans (storesKept_writeValue _ _ _ _)).trans (storesKept_testSubscriptions _ _ _ _)
    all_goals exact .refl s
  | senseSubscribe | senseUnsubscribe =>
    dsimp only [exec, execSenseSubscribe, execSenseUnsubscribe] at h
    refine hs.of_kept (storesKept_powered (storesKept_taking fun e u hr => ?_) h)
    have hb (p i : Nat) (k : Slot) (b : Option Subscription) : StoresKept u (u.setSubscription p i k b) :=
      storesKept_modifyEntry u _ _ _
    repeat' split
    · exact storesKept_answer hr e _ _ _
    · exact storesKept_answer hr e _ _ _
    · exact (hb _ _ _ _).trans (storesKept_answer (s := u.setSubscription _ _ _ _) hr e _ _ _)
  | actuate =>
    dsimp only [exec, execActuate] at h
    refine hs.event (hs.taking fun e u hu hr => ?_) h
    have ha (st : Status) : StoresLawful (u.answer e st) := hu.of_kept (storesKept_answer hr e _ _ _)
    repeat' split
    · exact ha _
    · exact ha _
    · exact ha _
    · exact ha _
    · exact hu.decideActuate hr _ _ _ _ _
    · exact ha _
  | holdTimeExpiry p i =>
    dsimp only [exec, execHoldTimeExpiry] at h
    refine hs.of_kept (storesKept_event ?_ h)
    have hn (t : State) (c : Claim) (r : EndReason) : StoresKept t (t.noticeClaimEnd c r) := storesKept_offerNotice t _ _ _
    have hc (t : State) (c : Claim) : StoresKept t (t.stopClaim c none false) := storesKept_handCommand t _ _
    repeat' split
    · exact (((storesKept_reach s _).trans (hc _ _)).trans (hn _ _ _)).trans (storesKept_lineWork _)
    · exact .refl s
    · exact .refl s
  | release =>
    dsimp only [exec, execRelease] at h
    refine hs.of_kept (storesKept_event (storesKept_taking fun e u hr => ?_) h)
    have ha (st : Status) (d : List Byte) := storesKept_answer hr e st d false
    repeat' split
    · exact ha _ _
    · exact ha _ _
    · exact ha _ _
    · exact ((ha _ _).trans (storesKept_relinquish _ _ _)).trans (storesKept_lineWork _)
    · exact ha _ _
  | forceRelease =>
    dsimp only [exec, execForceRelease] at h
    refine hs.of_kept (storesKept_event (storesKept_taking fun e u hr => ?_) h)
    have ha (st : Status) (d : List Byte) := storesKept_answer hr e st d false
    have hn (t : State) (c : Claim) (r : EndReason) : StoresKept t (t.noticeClaimEnd c r) := storesKept_offerNotice t _ _ _
    repeat' split
    · exact ha _ _
    · exact ha _ _
    · exact ha _ _
    · exact ha _ _
    · exact (((ha _ _).trans (hn _ _ _)).trans (storesKept_relinquish _ _ _)).trans (storesKept_lineWork _)
  | unitParamRead | unitParamWrite =>
    dsimp only [exec, execUnitParamRead, execUnitParamWrite] at h
    exact hs.event (hs.taking fun e u hu hr => hu.requestAccess hr e _) h

theorem exec_keeps_storesLawful (c : Instr) (s t : State) (hs : StoresLawful s) (h : exec c s = .next t) : StoresLawful t := by
  cases c with
  | combinationRead | unitRead | functionRead | verdictRead | senseRead | refusedFormat | refusedUnknown | settingRead
    | partStatusRead | countersDump | countersDumpReset | fullReset | setupClose | setupDeadlineExpiry | noticeRoute
    | frameTransmitted | busOffEntry | busOffExit =>
    exact PortCommand.storesLawful (by constructor) hs h
  | callSent | answerWindowExpiry | byteGapTimeout | lengthByteError | answerFrameComplete | discardedByte
    | answerByteReceived | resyncGapEnd | pollDue | extensionTimerExpiry | feedStartWaitExpiry | stalenessThreshold
    | senseSubscribe | senseUnsubscribe | actuate | holdTimeExpiry | release | forceRelease | unitParamRead
    | unitParamWrite => exact TrailerCommand.storesLawful (by constructor) hs h
  | powerOnReset | lowSupplyReset | lowSupplyRelease | fullResetWaitEnd | sampleInstant | attachDebounceExpiry
    | parkDelayExpiry | selfWake | ignitionWake | startWaitExpiry | feedOffTimeExpiry | combinationReset =>
    exact CombCommand.storesLawful (by constructor) hs h
  | busFrameWake | requestFrame | lampSet | refreshWindowExpiry | flashPhaseEnd | switchFaultIndication
    | restartDelayExpiry | lineReset | measurementInstant | settingWrite | settingFieldWrite =>
    exact LampCommand.storesLawful (by constructor) hs h

/-- Settles O53: every operation keeps the stores or joins a queue whose room it has checked, and a word is stored once it has
passed its checks. -/
theorem stepKeepsStoresLawful : Obligations.StepKeepsStoresLawful := fun _ _ hs h =>
  step_keeps (fun _ _ h => h.of_kept (.of_same rfl rfl rfl rfl rfl rfl)) (fun _ h => h.of_kept (.of_same rfl rfl rfl rfl rfl rfl))
    exec_keeps_storesLawful hs h

end Sys2Proof.Machine
end

section
/-! PROOFS. The step, the three resets and the FULL-RESET wait: O1, O2, O52. -/
namespace Sys2Proof.Machine

/-- Settles O1: the definition of a step. -/
theorem stepRunsFrontCommand : Obligations.StepRunsFrontCommand := fun _ _ _ => rfl

/-! ### Power-on values (R20) -/

theorem Settings.default_words :
    ∀ w ∈ defaultWords, (settingOfNumber w.1).map (fun n => (Settings.default.get n).toNat) = some w.2 := by
  decide

/-- What the power-on reset leaves is the power-on values, whatever holds the part and waits for it. -/
theorem powerOnValues_powerOn (s : State) (cause : ResetCause) (held : Bool) :
    PowerOnValues { s.powerOn cause with comb := { (s.powerOn cause).comb with heldInReset := held } } cause where
  state := rfl
  flags := ⟨rfl, rfl, rfl, rfl⟩
  feed := rfl
  causes := ⟨rfl, rfl⟩
  recorded := rfl
  timers := ⟨rfl, rfl⟩
  inputs := ⟨rfl, rfl⟩
  sampling := ⟨rfl, rfl, rfl⟩
  records := ⟨rfl, rfl, rfl⟩
  walk := rfl
  line := ⟨rfl, rfl, rfl, rfl⟩
  lamps l := by cases l <;> exact ⟨rfl, rfl, rfl, rfl, rfl⟩
  flash := rfl
  claims := rfl
  slots k := by cases k <;> exact ⟨rfl, rfl, rfl⟩
  settings := Settings.default_words
  window := ⟨rfl, rfl, rfl⟩
  port := ⟨rfl, rfl, rfl, rfl, rfl⟩
  counters := rfl

/-- A reset leaves the clock and the waiting commands (log entry 26). -/
theorem keeps_powerOn (s : State) (cause : ResetCause) (held : Bool) :
    Keeps [.now, .pending] s { s.powerOn cause with comb := { (s.powerOn cause).comb with heldInReset := held } } :=
  keeps_cons rfl (keeps_cons rfl (keeps_nil _ _))

/-- Held in the low-supply reset, the part does nothing but be released or reset (R20). -/
theorem exec_held (c : Instr) {s : State} (h : s.comb.heldInReset = true) (h1 : c ≠ .powerOnReset) (h2 : c ≠ .lowSupplyReset)
    (h3 : c ≠ .lowSupplyRelease) : exec c s = .next s := by
  cases c with
  | powerOnReset => exact absurd rfl h1
  | lowSupplyReset => exact absurd rfl h2
  | lowSupplyRelease => exact absurd rfl h3
  | combinationRead | combinationReset | callSent | resyncGapEnd | pollDue | countersDump | countersDumpReset
    | extensionTimerExpiry | unitRead | functionRead | verdictRead | senseSubscribe | senseUnsubscribe | senseRead | refusedFormat
    | refusedUnknown | settingRead | setupClose | setupDeadlineExpiry | noticeRoute | frameTransmitted | busOffEntry | busOffExit
    | partStatusRead | fullReset | fullResetWaitEnd =>
    dsimp only [exec,
      execCombinationRead, execCombinationReset, execCallSent, execResyncGapEnd, execPollDue, execCountersDump,
      execCountersDumpReset, execExtensionTimerExpiry, execUnitRead, execFunctionRead, execVerdictRead, execSenseSubscribe,
      execSenseUnsubscribe, execSenseRead, execRefusedFormat, execRefusedUnknown, execSettingRead, execSetupClose,
      execSetupDeadlineExpiry, execNoticeRoute, execFrameTransmitted, execBusOffEntry, execBusOffExit, execPartStatusRead,
      execFullReset, execFullResetWaitEnd]
    exact powered_held h
  | sampleInstant | attachDebounceExpiry | feedStartWaitExpiry | parkDelayExpiry | selfWake | ignitionWake | busFrameWake
    | startWaitExpiry | feedOffTimeExpiry | answerWindowExpiry | byteGapTimeout | lengthByteError | answerFrameComplete
    | discardedByte | answerByteReceived | lampSet | refreshWindowExpiry | flashPhaseEnd | switchFaultIndication
    | restartDelayExpiry | lineReset | measurementInstant | stalenessThreshold | actuate | holdTimeExpiry | release | forceRelease
    | requestFrame | unitParamRead | unitParamWrite | settingWrite | settingFieldWrite =>
    dsimp only [exec,
      execSampleInstant, execAttachDebounceExpiry, execFeedStartWaitExpiry, execParkDelayExpiry, execSelfWake,
      execIgnitionWake, execBusFrameWake, execStartWaitExpiry, execFeedOffTimeExpiry, execAnswerWindowExpiry,
      execByteGapTimeout, execLengthByteError, execAnswerFrameComplete, execDiscardedByte, execAnswerByteReceived,
      execLampSet, execRefreshWindowExpiry, execFlashPhaseEnd, execSwitchFaultIndication, execRestartDelayExpiry,
      execLineReset, execMeasurementInstant, execStalenessThreshold, execActuate, execHoldTimeExpiry, execRelease,
      execForceRelease, execRequestFrame, execUnitParamRead, execUnitParamWrite, execSettingWrite, execSettingFieldWrite]
    exact event_held h

/-- Settles O2: every reset ends in `powerOn`, and a held part is not reached by any other command. -/
theorem resetsGivePowerOnValues : Obligations.ResetsGivePowerOnValues := by
  refine ⟨fun s => ⟨?_, ?_, fun hh => ?_, fun w hr hw => ?_⟩, fun c s h h1 h2 h3 => exec_held c h h1 h2 h3⟩
  · exact ⟨_, rfl, powerOnValues_powerOn s .powerOn false, rfl, keeps_powerOn s .powerOn false⟩
  · exact ⟨_, rfl, powerOnValues_powerOn s .lowSupply true, rfl, keeps_powerOn s .lowSupply true⟩
  · refine ⟨s.powerOn .lowSupply, ?_, powerOnValues_powerOn s .lowSupply false, rfl, keeps_powerOn s .lowSupply false⟩
    simp only [exec, execLowSupplyRelease, hh, if_true]
  · refine ⟨(if w.ahead = 0 then s else s.reach (w.since + Config.fullResetWait)).powerOn .requested, ?_,
      powerOnValues_powerOn _ .requested false, rfl, ?_, keeps_cons ?_ (keeps_nil _ _)⟩
    · dsimp only [exec, execFullResetWaitEnd]
      rw [powered_running hr, hw]
    · split <;> rfl
    · split <;> rfl

/-! ### The laws at power-on -/

theorem walkLawful_resetAt (t : Nat) : WalkLawful (State.resetAt t) where
  positions := rfl
  six := Nat.zero_le _
  identities := List.nodup_nil
  outside _ _ := rfl
  one := ⟨Nat.zero_le _, Nat.zero_le _⟩
  active h := by cases h
  idle _ := ⟨fun h => (by cases h), Nat.zero_le _, fun _ h => (by cases h)⟩
  lawful _ h := by cases h
  settled _ := ⟨rfl, fun _ h => (by cases h)⟩
  owed _ h := by cases h
  call _ h := by cases h
  urgent _ h := by cases h
  access _ h := by cases h
  claims _ h := by cases h
  reports p hp h := by
    simp [State.resetAt, Walker.idle, inPositionSet] at h

theorem poolLawful_resetAt (t : Nat) : PoolLawful (State.resetAt t) where
  used := Nat.zero_le _
  units _ h := by cases h
  cache _ h := by cases h

theorem claimsLawful_resetAt (t : Nat) : ClaimsLawful (State.resetAt t) where
  count := Nat.zero_le _
  rising := .nil
  serving _ h := by cases h
  queue := Nat.zero_le _
  entries := .nil
  waiting _ h := by cases h
  owned _ h := by cases h

/-- Settles O52: the laws one by one, at the clock 0. -/
theorem resetObeysTheLaws : Obligations.ResetObeysTheLaws :=
  ⟨storesLawful_resetAt 0, switchesFollow_resetAt 0, timersFollow_resetAt 0, flagsFollow_powerOn State.reset .powerOn,
    statesFollow_powerOn State.reset .powerOn, walkLawful_resetAt 0, poolLawful_resetAt 0, claimsLawful_resetAt 0⟩

end Sys2Proof.Machine
end

section
/-! PROOFS. The combination (chapter 1): the sample instant, attach, wakes, the start wait and COMBINATION-READ. -/
namespace Sys2Proof.Machine

/-! ### Events and frames -/

theorem Keeps.append {ps qs : List Part} {s t : State} (h : Keeps ps s t) (k : Keeps qs s t) : Keeps (ps ++ qs) s t := by
  intro p hp
  obtain hp | hp := List.mem_append.mp hp
  · exact h p hp
  · exact k p hp

theorem missed_same {s t : State} (h : t.slots = s.slots) : Part.missed.same s t := by
  intro k
  simp only [State.missed, h]

theorem portOut_same {s t : State} (h : t.port = s.port) : Part.portOut.same s t := by
  rewrite [Part.same, h]
  exact ⟨rfl, rfl⟩

/-- Everything but the clock, the combination and the Sense Front End stands; the two timers of chapter 1 may have moved. -/
theorem keeps_trailerAndPort {s t : State} (hline : t.line = s.line) (hwalker : t.walker = s.walker) (hunits : t.units = s.units)
    (hcache : t.cache = s.cache) (hflash : t.flash = s.flash) (hclaims : t.claims = s.claims) (hslots : t.slots = s.slots)
    (hsettings : t.settings = s.settings) (hsetup : t.setup = s.setup) (hport : t.port = s.port)
    (hcounters : t.counters = s.counters) (hpending : t.pending = s.pending) :
    Keeps [.line, .walker, .units, .cache, .flash, .claims, .slots, .missed, .settings, .setup, .portIn, .portOut, .counters,
      .pending] s t := by
  have hin : t.inlets = s.inlets := by simp only [State.inlets, hslots, hport]
  intro p hp
  simp only [List.mem_cons, List.not_mem_nil, or_false] at hp
  rcases hp with rfl | rfl | rfl | rfl | rfl | rfl | rfl | rfl | rfl | rfl | rfl | rfl | rfl | rfl
  · exact hline
  · exact hwalker
  · exact hunits
  · exact hcache
  · exact hflash
  · exact hclaims
  · exact slots_same hin
  · exact missed_same hslots
  · exact hsettings
  · exact hsetup
  · exact portIn_same hin
  · exact portOut_same hport
  · exact hcounters
  · exact hpending

/-- Of the parts kept, fewer are kept. -/
theorem Keeps.sub {ps qs : List Part} {s t : State} (h : Keeps ps s t) (hq : ∀ p ∈ qs, p ∈ ps) : Keeps qs s t :=
  fun p hp => h p (hq p hp)

/-! ### The sample instant (R6, R100) -/

theorem debounceSample_eq (level : Bool) (count : Nat) (sample : Bool) : debounceSample level count sample =
    (if sample ≠ level ∧ 2 ≤ count then sample else level, if sample = level ∨ 2 ≤ count then 0 else count + 1) := by
  by_cases h : sample = level
  · simp [debounceSample, h]
  · by_cases hc : 2 ≤ count
    · simp [debounceSample, h, hc, Config.agreeingSamples, show 3 ≤ count + 1 by omega]
    · simp [debounceSample, h, hc, Config.agreeingSamples, show ¬ 3 ≤ count + 1 by omega]

/-- An off-state sample counted by agreement (R100). -/
theorem LampLine.countSample_eq (x : LampLine) (p : Presence) : x.countSample p =
    match x.agree with
    | some a =>
      if a.sample = p then
        if 2 ≤ a.count then { x with agree := none, verdict := { x.verdict with presence := p } }
        else { x with agree := some ⟨p, a.count + 1⟩ }
      else { x with agree := some ⟨p, 1⟩ }
    | none => { x with agree := some ⟨p, 1⟩ } := by
  unfold LampLine.countSample
  cases x.agree with
  | none => rfl
  | some a =>
    by_cases h : a.sample = p
    · by_cases hc : 2 ≤ a.count
      · simp [h, hc, Config.agreeingSamples, show 3 ≤ a.count + 1 by omega]
      · simp [h, hc, Config.agreeingSamples, show ¬ 3 ≤ a.count + 1 by omega]
    · simp [h, Config.agreeingSamples]

/-- The sampled part, before the two timers follow. -/
def State.sampled (s : State) (plug ign : Bool) (loaded : Byte) (due : Nat) : State :=
  let t := ((s.reach due).sampleInputs plug ign).senseLines loaded
  { t with sense := { t.sense with nextSample := some (due + Config.samplePeriod) } }

/-- Settles O3, sample by sample. -/
theorem sampleInstantDebounces : Obligations.SampleInstantDebounces := by
  intro s plug ign loaded due hr hd
  have he : exec (.sampleInstant plug ign loaded) s = .next (s.sampled plug ign loaded due).retimeAttach.retimePark := by
    dsimp only [exec, execSampleInstant]
    exact event_quiet hr (by rw [hd]; rfl) rfl
  have hp := debounceSample_eq s.sense.plugClosed s.sense.plugCount plug
  have hg := debounceSample_eq s.sense.ignitionHigh s.sense.ignitionCount ign
  refine ⟨_, he, rfl, congrArg Prod.fst hp, congrArg Prod.snd hp, congrArg Prod.fst hg, congrArg Prod.snd hg, rfl, fun l => ?_, ?_⟩
  case refine_2 =>
    refine keeps_cons rfl (Keeps.sub (keeps_trailerAndPort rfl rfl rfl rfl rfl rfl rfl rfl rfl rfl rfl rfl) ?_)
    decide
  have hl : ((s.sampled plug ign loaded due).retimeAttach.retimePark).lamps.get l
      = if (s.reach due).samples l (s.lamps.get l) then (s.lamps.get l).countSample (sampleOf loaded l) else s.lamps.get l := by
    change (PerLine.map _ s.lamps).get l = _
    rewrite [PerLine.get_map]
    rfl
  have hc : (s.reach due).samples l (s.lamps.get l) = true ↔ (s.lamps.get l).on = false
      ∧ s.settings.senseEnables.getLsbD (lineNumber l) = true ∧ (s.lamps.get l).offSince + 20 ≤ max s.now due := by
    simp only [State.samples, Bool.and_eq_true, Bool.not_eq_true', decide_eq_true_eq, and_assoc]
    rfl
  dsimp only
  rewrite [hl]
  split
  · next h => rw [if_pos (hc.mpr h), LampLine.countSample_eq]; rfl
  · next h => exact if_neg fun e => h (hc.mp e)

/-! ### Attach and the feed (R8, R10, R19) -/

/-- The attach debounce of a state that assumes what the attach condition says stands still (R8). -/
theorem State.retimeAttach_stands {s : State} (h : s.attachDiffers = false) : s.retimeAttach.comb.attachSince = none := by
  simp [State.retimeAttach, h]

theorem State.retimeAttach_runs {s : State} (h : s.attachDiffers = true) :
    s.retimeAttach.comb.attachSince = some (s.comb.attachSince.getD s.now) := by
  simp [State.retimeAttach, h]

end Sys2Proof.Machine
end

section
/-! PROOFS. The Line Scheduler and the walker's offers (R33, R34, R45, R54, R56): one rule for each kind of work. -/
namespace Sys2Proof.Machine

/-! ### The scheduler (R33) -/

section
variable {s : State} (h : LineReady s)
include h

theorem LineReady.schedules : (s.lineFree && (s.comb.state == .building || s.comb.state == .serving)) = true := by
  have hw := h.working
  simp only [State.lineFree, h.free, h.gap, Bool.and_eq_true, Bool.or_eq_true, beq_iff_eq]
  exact ⟨⟨rfl, rfl⟩, hw⟩

/-- The head of the Urgent Queue goes first (R33). -/
theorem LineReady.schedule_urgent {e : UrgentEntry} {rest : List UrgentEntry} (hu : s.line.urgent = e :: rest) :
    s.schedule = (State.claimStarted { s with line := { s.line with urgent := rest } } e.position e.index).start (.urgent e) := by
  simp only [State.schedule, h.schedules, if_true, hu]

/-- Then the offered step (R33). -/
theorem LineReady.schedule_step (hu : s.line.urgent = []) {step : Step} (ho : s.walker.offered = some step) :
    s.schedule = (s.modifyWalker fun w => w.started step).start (.bringUp step) := by
  simp only [State.schedule, h.schedules, if_true, hu, ho]

/-- Then the head of the Access Queue (R33). -/
theorem LineReady.schedule_access (hu : s.line.urgent = []) (ho : s.walker.offered = none) {a : AccessEntry}
    {rest : List AccessEntry} (ha : s.line.access = a :: rest) :
    s.schedule = State.start { s with line := { s.line with access := rest } } (.access a) := by
  simp only [State.schedule, h.schedules, if_true, hu, ho, ha]

/-- Then the poll that goes first (R33, R34). -/
theorem LineReady.schedule_poll (hu : s.line.urgent = []) (ho : s.walker.offered = none) (ha : s.line.access = []) {d : DuePoll}
    (hd : firstPoll s.availablePolls = some d) :
    s.schedule = (s.clearDue d.position d.index).start (.poll d.position d.index) := by
  simp only [State.schedule, h.schedules, if_true, hu, ho, ha, hd]

theorem LineReady.schedule_nothing (hu : s.line.urgent = []) (ho : s.walker.offered = none) (ha : s.line.access = [])
    (hd : firstPoll s.availablePolls = none) : s.schedule = s := by
  simp only [State.schedule, h.schedules, if_true, hu, ho, ha, hd]
end

/-- A line that is not free is given nothing (R33). -/
theorem State.schedule_busy {s : State} (h : s.line.tx ≠ none ∨ s.line.gapSince ≠ none) : s.schedule = s := by
  have hf : s.lineFree = false := by
    rewrite [Bool.eq_false_iff]
    intro e
    simp only [State.lineFree, Bool.and_eq_true, Option.isNone_iff_eq_none] at e
    exact h.elim (fun h => h e.1) fun h => h e.2
  simp [State.schedule, hf]

/-! ### The poll that goes first (R34) -/

theorem State.mem_availablePolls {s : State} {d : DuePoll} :
    d ∈ s.availablePolls ↔ Available s d.position d.index d.due := by
  simp only [State.availablePolls, State.servingUnits, List.mem_flatMap, List.mem_filter, List.mem_filterMap, beq_iff_eq, Available]
  constructor
  · rintro ⟨u, ⟨hu, hs⟩, f, hf, hd⟩
    split at hd
    · next q a c hv =>
      split at hd
      · next hle =>
        obtain rfl := Option.some.inj hd
        exact ⟨u, hu, hs, rfl, hle, f, hf, rfl, _, hv, rfl⟩
      · cases hd
    · cases hd
  · rintro ⟨u, hu, hs, hp, hle, f, hf, hi, v, hv, hn⟩
    refine ⟨u, ⟨hu, hs⟩, f, hf, ?_⟩
    obtain ⟨due, position, index⟩ := d
    obtain ⟨value, quality, answeredAt, nextDue⟩ := v
    obtain rfl : nextDue = some due := hn
    simp only [hv]
    rw [if_pos hle, hp, hi]

/-- One poll goes no later than another (R34). -/
def DuePoll.NotAfter (a b : DuePoll) : Prop :=
  a.due < b.due ∨ (a.due = b.due ∧ (a.position < b.position ∨ (a.position = b.position ∧ a.index ≤ b.index)))

theorem DuePoll.notAfter_of_not_before {a b : DuePoll} (h : b.before a = false) : a.NotAfter b := by
  simp only [DuePoll.before, Bool.or_eq_false_iff, decide_eq_false_iff_not, Bool.and_eq_false_iff, beq_eq_false_iff_ne] at h
  unfold DuePoll.NotAfter
  omega

theorem DuePoll.notAfter_of_before {a b : DuePoll} (h : b.before a = true) : b.NotAfter a := by
  simp only [DuePoll.before, Bool.or_eq_true, decide_eq_true_eq, Bool.and_eq_true, beq_iff_eq] at h
  unfold DuePoll.NotAfter
  omega

theorem DuePoll.NotAfter.trans {a b c : DuePoll} (h : a.NotAfter b) (k : b.NotAfter c) : a.NotAfter c := by
  unfold DuePoll.NotAfter at *
  omega

theorem firstPoll_eq_none {l : List DuePoll} : firstPoll l = none ↔ l = [] := by
  cases l with
  | nil => simp [firstPoll]
  | cons a rest =>
    simp only [firstPoll, reduceCtorEq, iff_false]
    split
    · simp
    · split <;> simp

/-- The poll that goes first is one of those available, and goes no later than any (R34). -/
theorem firstPoll_spec {l : List DuePoll} {d : DuePoll} (h : firstPoll l = some d) : d ∈ l ∧ ∀ b ∈ l, d.NotAfter b := by
  induction l generalizing d with
  | nil => cases h
  | cons a rest ih =>
    have hself : a.NotAfter a := .inr ⟨rfl, .inr ⟨rfl, le_rfl⟩⟩
    rewrite [firstPoll] at h
    split at h
    · next hn =>
      obtain rfl := Option.some.inj h
      rewrite [firstPoll_eq_none.mp hn]
      exact ⟨List.mem_singleton_self _, fun b hb => by rw [List.mem_singleton.mp hb]; exact hself⟩
    · next b hb =>
      obtain ⟨hmem, hle⟩ := ih hb
      split at h
      · next hba =>
        obtain rfl := Option.some.inj h
        refine ⟨List.mem_cons_of_mem _ hmem, fun c hc => ?_⟩
        obtain rfl | hc := List.mem_cons.mp hc
        · exact DuePoll.notAfter_of_before hba
        · exact hle c hc
      · next hba =>
        obtain rfl := Option.some.inj h
        refine ⟨List.mem_cons_self, fun c hc => ?_⟩
        obtain rfl | hc := List.mem_cons.mp hc
        · exact hself
        · exact (DuePoll.notAfter_of_not_before (Bool.eq_false_iff.mpr hba)).trans (hle c hc)

theorem State.firstPoll_goesFirst {s : State} {d : DuePoll} (h : firstPoll s.availablePolls = some d) :
    GoesFirst s d.position d.index d.due := by
  obtain ⟨hmem, hle⟩ := firstPoll_spec h
  exact ⟨State.mem_availablePolls.mp hmem, fun q j c hc => hle ⟨c, q, j⟩ (State.mem_availablePolls.mpr hc)⟩

theorem GoesFirst.unique {s : State} {p i d q j c : Nat} (h : GoesFirst s p i d) (k : GoesFirst s q j c) :
    p = q ∧ i = j ∧ d = c := by
  have h1 := h.2 q j c k.1
  have h2 := k.2 p i d h.1
  omega

theorem State.firstPoll_of_goesFirst {s : State} {p i d : Nat} (h : GoesFirst s p i d) :
    firstPoll s.availablePolls = some ⟨d, p, i⟩ := by
  cases hf : firstPoll s.availablePolls with
  | none =>
    have hm : (⟨d, p, i⟩ : DuePoll) ∈ s.availablePolls := State.mem_availablePolls.mpr h.1
    rewrite [firstPoll_eq_none.mp hf] at hm
    cases hm
  | some a =>
    obtain ⟨rfl, rfl, rfl⟩ := h.unique (State.firstPoll_goesFirst hf)
    rfl

theorem State.firstPoll_none {s : State} (h : ∀ p i d, ¬ Available s p i d) : firstPoll s.availablePolls = none := by
  rewrite [firstPoll_eq_none, List.eq_nil_iff_forall_not_mem]
  exact fun d hd => h _ _ _ (State.mem_availablePolls.mp hd)

/-! ### The lowest LAMP-REPORT (R56) -/

/-- In an ascending list the member found is the least of those that pass. -/
theorem find?_least {f : Nat → Bool} {l : List Nat} {p q : Nat} (hl : l.Pairwise (· < ·)) (h : l.find? f = some p) (hq : q ∈ l)
    (hlt : q < p) : f q = false := by
  obtain ⟨-, before, after, rfl, hb⟩ := List.find?_eq_some_iff_append.mp h
  obtain ⟨-, hafter, -⟩ := List.pairwise_append.mp hl
  rcases List.mem_append.mp hq with hq | hq
  · simpa using hb q hq
  · rcases List.mem_cons.mp hq with rfl | hq
    · exact absurd hlt (Nat.lt_irrefl _)
    · exact absurd (List.rel_of_pairwise_cons hafter hq) (Nat.lt_asymm hlt)

theorem lowestPosition_some {set : Byte} {p : Nat} (h : lowestPosition set = some p) :
    1 ≤ p ∧ p ≤ 6 ∧ inPositionSet set p = true ∧ ∀ q, q < p → inPositionSet set q = false := by
  have hm := List.mem_of_find?_eq_some h
  have hr : 1 ≤ p ∧ p ≤ 6 := by
    simp only [List.mem_cons, List.not_mem_nil, or_false] at hm
    omega
  refine ⟨hr.1, hr.2, List.find?_some h, fun q hq => ?_⟩
  by_cases h0 : q = 0
  · rewrite [h0]
    rfl
  · refine find?_least (by decide) h ?_ hq
    simp only [List.mem_cons, List.not_mem_nil, or_false]
    omega

theorem lowestPosition_none {set : Byte} (h : lowestPosition set = none) : ∀ p, p ≤ 6 → inPositionSet set p = false := by
  intro p hp
  have h0 : inPositionSet set 0 = false := rfl
  have hall := List.find?_eq_none.mp h
  interval_cases p
  · exact h0
  all_goals exact Bool.eq_false_iff.mpr (hall _ (by decide))

theorem LowestReport.unique {w : Walker} {p q : Nat} (h : LowestReport w p) (k : LowestReport w q) : p = q := by
  obtain ⟨-, hp, hl⟩ := h
  obtain ⟨-, kq, kl⟩ := k
  rcases Nat.lt_trichotomy p q with hlt | rfl | hlt
  · rewrite [kl p hlt] at hp
    cases hp
  · rfl
  · rewrite [hl q hlt] at kq
    cases kq

theorem Walker.report_some {w : Walker} {p : Nat} (h : LowestReport w p) : w.report = some (.lampReport p) := by
  cases hl : lowestPosition w.lampReports with
  | none =>
    have := lowestPosition_none hl p h.1
    rewrite [h.2.1] at this
    cases this
  | some q =>
    obtain ⟨-, h6, hq, hlow⟩ := lowestPosition_some hl
    obtain rfl : p = q := h.unique ⟨h6, hq, hlow⟩
    simp [Walker.report, hl]

theorem Walker.report_none {w : Walker} (h : NoReport w) : w.report = none := by
  cases hl : lowestPosition w.lampReports with
  | none => simp [Walker.report, hl]
  | some q =>
    obtain ⟨-, h6, hq, -⟩ := lowestPosition_some hl
    rewrite [h q h6] at hq
    cases hq

/-- With no LAMP-REPORT in any lamp-report set there is none to offer. -/
theorem noReport_of_empty {w : Walker} (h : w.lampReports = 0) : NoReport w := by
  intro p _
  simp [inPositionSet, h]

/-- Either no position waits for a LAMP-REPORT, or there is a lowest one. -/
theorem Walker.report_cases (w : Walker) : (NoReport w ∧ w.report = none) ∨ ∃ p, LowestReport w p ∧ w.report = some (.lampReport p) := by
  cases hl : lowestPosition w.lampReports with
  | none => exact .inl ⟨lowestPosition_none hl, by simp [Walker.report, hl]⟩
  | some p =>
    obtain ⟨-, h6, hp, hlow⟩ := lowestPosition_some hl
    exact .inr ⟨p, ⟨h6, hp, hlow⟩, by simp [Walker.report, hl]⟩

/-! ### The walker's next offer (R45, R54, R56) -/

/-- A step that is offered stays (R45). -/
theorem State.offerNext_offered {s : State} {step : Step} (h : s.walker.offered = some step) : s.offerNext = s := by
  simp [State.offerNext, h]

/-- Behind a LAMP-REPORT in flight nothing is offered (log entry 27). -/
theorem State.offerNext_reporting {s : State} (h : s.reportInFlight = true) : s.offerNext = s := by
  simp [State.offerNext, h]

/-- With no step offered and no LAMP-REPORT in flight the LAMP-REPORT to the lowest position is offered (R56). -/
theorem State.offerNext_report {s : State} (h : s.walker.offered = none) (hf : s.reportInFlight = false)
    (hs : s.comb.state = .building ∨ s.comb.state = .serving) {p : Nat} (hp : LowestReport s.walker p) :
    s.offerNext = s.offer (.lampReport p) := by
  simp [State.offerNext, h, hf, hs, Walker.report_some hp]

/-- Without one the extension probe that the mark asks for in an IDLE walk is offered, in SERVING (R54). -/
theorem State.offerNext_probe {s : State} (h : s.walker.offered = none) (hf : s.reportInFlight = false)
    (hs : s.comb.state = .serving) (hn : NoReport s.walker) (hd : s.walker.extDue = true) (ha : s.walker.active = false) :
    s.offerNext = s.offer .probe := by
  simp [State.offerNext, h, hf, hs, Walker.report_none hn, hd, ha]

/-- Else nothing. -/
theorem State.offerNext_nothing {s : State} (hn : NoReport s.walker)
    (hd : s.comb.state ≠ .serving ∨ s.walker.extDue = false ∨ s.walker.active = true) : s.offerNext = s := by
  have hc : ¬ (s.comb.state = .serving ∧ s.walker.extDue = true ∧ s.walker.active = false) := by
    rintro ⟨h1, h2, h3⟩
    rcases hd with hd | hd | hd
    · exact hd h1
    · simp [hd] at h2
    · simp [hd] at h3
  unfold State.offerNext
  rewrite [Walker.report_none hn]
  simp only [if_neg hc]
  split
  · rfl
  · split <;> rfl

/-- What an IDLE walk in SERVING offers at the end of an event (R45, R54, R56). -/
theorem State.offerNext_idleOffers {s : State} (hs : s.comb.state = .serving) (ha : s.walker.active = false)
    (hf : s.reportInFlight = false) : IdleOffers s.walker s.offerNext.walker
      ∧ s.offerNext = { s with walker := { s.walker with offered := s.offerNext.walker.offered } } := by
  cases ho : s.walker.offered with
  | some step =>
    have he := State.offerNext_offered ho
    rewrite [he]
    exact ⟨⟨fun _ => rfl, fun h => (by simp [ho] at h), fun h => (by simp [ho] at h)⟩, rfl⟩
  | none =>
    obtain ⟨hn, -⟩ | ⟨p, hp, -⟩ := s.walker.report_cases
    · cases hd : s.walker.extDue with
      | true =>
        have he := State.offerNext_probe ho hf hs hn hd ha
        rewrite [he]
        simp only [State.offer, State.modifyWalker, Walker.offer_of_none ho]
        exact ⟨⟨fun h => absurd ho h, fun _ p hp => (by have := hp.2.1; rw [hn p hp.1] at this; cases this),
          fun _ _ => by simp [hd]⟩, trivial⟩
      | false =>
        have he := State.offerNext_nothing (s := s) hn (.inr (.inl hd))
        rewrite [he]
        exact ⟨⟨fun _ => rfl, fun _ p hp => (by have := hp.2.1; rw [hn p hp.1] at this; cases this),
          fun _ _ => by simp [hd, ho]⟩, rfl⟩
    · have he := State.offerNext_report ho hf (.inr hs) hp
      rewrite [he]
      simp only [State.offer, State.modifyWalker, Walker.offer_of_none ho]
      exact ⟨⟨fun h => absurd ho h, fun _ q hq => by rw [hp.unique hq],
        fun _ hn => (by have := hp.2.1; rw [hn p hp.1] at this; cases this)⟩, trivial⟩

end Sys2Proof.Machine
end

section
/-! PROOFS. The combination (chapter 1): attach and the feed, the drop, parking, the wakes, the start wait, COMBINATION-READ and
COMBINATION-RESET: O4 to O10. -/
namespace Sys2Proof.Machine

/-! ### Attach and the feed (R8, R10, R19) -/

theorem attachSince_entered {s : State} (hs : s.comb.state = .settling) (ha : s.attached = true) :
    s.retimeAttach.comb.attachSince = none :=
  State.retimeAttach_stands (by simp [State.attachDiffers, hs, ha])

/-- The state in which a settling part begins to build its combination: the PROBE is called at once (R10, R33). -/
theorem State.startBuilding_lineWork {s : State} {since : Nat} (htx : s.line.tx = none) (hgap : s.line.gapSince = none)
    (hu : s.line.urgent = []) (hw : s.walker = WalkerAtRest) :
    (s.startBuilding since).lineWork = { s.startBuilding since with
      line := { s.line with tx := some probeCall }, walker := { WalkerAtRest with active := true } } := by
  have hr : LineReady (s.startBuilding since) := ⟨htx, hgap, .inl rfl⟩
  have ho : (s.startBuilding since).walker.offered = some .probe := rfl
  rewrite [State.lineWork, State.offerNext_offered ho, hr.schedule_step hu ho]
  have hws : (s.startBuilding since).walker.started .probe = { WalkerAtRest with active := true } := by
    change Walker.started { s.walker with pointer := 1, active := true, offered := some .probe } .probe = _
    rewrite [hw]
    rfl
  simp only [State.start, State.modifyWalker, hws]
  rfl

theorem keeps_still {s t : State} (hslots : t.slots = s.slots) (hsettings : t.settings = s.settings) (hsetup : t.setup = s.setup)
    (hport : t.port = s.port) (hpending : t.pending = s.pending) :
    Keeps [.slots, .missed, .settings, .setup, .portIn, .portOut, .pending] s t := by
  have hin : t.inlets = s.inlets := by simp only [State.inlets, hslots, hport]
  exact keeps_cons (slots_same hin) (keeps_cons (missed_same hslots) (keeps_cons hsettings (keeps_cons hsetup
    (keeps_cons (portIn_same hin) (keeps_cons (portOut_same hport) (keeps_cons hpending (keeps_nil s t)))))))

/-- What an event of the combination keeps of the rest of the part, the lamps among it. -/
theorem keeps_outside {s t : State} (hline : t.line = s.line) (hwalker : t.walker = s.walker) (hunits : t.units = s.units)
    (hcache : t.cache = s.cache) (hlamps : t.lamps = s.lamps) (hflash : t.flash = s.flash) (hclaims : t.claims = s.claims)
    (hslots : t.slots = s.slots) (hsettings : t.settings = s.settings) (hsetup : t.setup = s.setup) (hport : t.port = s.port)
    (hcounters : t.counters = s.counters) (hpending : t.pending = s.pending) :
    Keeps [.line, .walker, .units, .cache, .lamps, .flash, .claims, .slots, .missed, .settings, .setup, .portIn, .portOut, .counters,
      .pending] s t :=
  (keeps_cons (p := .lamps) hlamps
    (keeps_trailerAndPort hline hwalker hunits hcache hflash hclaims hslots hsettings hsetup hport hcounters hpending)).sub
    (by decide)

/-- The attach debounce in DETACHED (R8, R19). -/
theorem exec_attachDebounce_detached {s : State} {since : Nat} (hr : s.comb.heldInReset = false) (hs : s.comb.state = .detached)
    (hsince : s.comb.attachSince = some since) (hoff : s.comb.feedOffSince = none) :
    exec .attachDebounceExpiry s
      = .next ((s.reach (since + s.setting .attachDebounce)).enterSettling.retimeAttach.retimePark).noticeCombination := by
  dsimp only [exec, execAttachDebounceExpiry]
  refine event_loud hr (by simp only [hsince, hs, hoff]) ?_
  rewrite [hs]
  exact fun h => by cases h

theorem exec_attachDebounce_waits {s : State} {since f : Nat} (hr : s.comb.heldInReset = false) (hs : s.comb.state = .detached)
    (hsince : s.comb.attachSince = some since) (hoff : s.comb.feedOffSince = some f) :
    exec .attachDebounceExpiry s = .next (State.retimePark (State.retimeAttach
      { s.reach (since + s.setting .attachDebounce) with comb := { s.comb with entryWaiting := true } })) := by
  dsimp only [exec, execAttachDebounceExpiry]
  exact event_quiet hr (by simp [State.reach, hsince, hs, hoff]) rfl

/-- The end of the feed-off time (R19). -/
theorem exec_feedOffTime_enters {s : State} {since : Nat} (hr : s.comb.heldInReset = false) (hs : s.comb.state = .detached)
    (hoff : s.comb.feedOffSince = some since) (hw : s.comb.entryWaiting = true) (ha : s.attached = true) :
    exec .feedOffTimeExpiry s = .next ((State.retimePark (State.retimeAttach (State.enterSettling
      { s.reach (since + Config.feedOffTime) with comb := { s.comb with feedOffSince := none } }))).noticeCombination) := by
  have hc : (s.comb.entryWaiting && s.attached && s.comb.state == .detached) = true := by simp [hw, ha, hs]
  dsimp only [exec, execFeedOffTimeExpiry]
  refine event_loud hr ?_ (by rw [hs]; exact fun h => by cases h)
  rewrite [hoff]
  exact if_pos hc

theorem exec_feedOffTime_stays {s : State} {since : Nat} (hr : s.comb.heldInReset = false)
    (hoff : s.comb.feedOffSince = some since) (h : s.comb.entryWaiting = false ∨ s.attached = false) :
    exec .feedOffTimeExpiry s = .next (State.retimePark (State.retimeAttach
      { s.reach (since + Config.feedOffTime) with comb := { s.comb with feedOffSince := none } })) := by
  have hc : ¬ (s.comb.entryWaiting && s.attached && s.comb.state == .detached) = true := by
    obtain h | h := h <;> simp [h]
  dsimp only [exec, execFeedOffTimeExpiry]
  refine event_quiet hr ?_ rfl
  rewrite [hoff]
  exact if_neg hc

theorem exec_feedStartWait {s : State} {since : Nat} (hr : s.comb.heldInReset = false) (hs : s.comb.state = .settling)
    (hsince : s.comb.feedStartSince = some since) :
    exec .feedStartWaitExpiry s = .next (((s.startBuilding since).lineWork.retimeAttach.retimePark).noticeCombination) := by
  dsimp only [exec, execFeedStartWaitExpiry]
  refine event_loud hr (by simp only [hsince, hs]; rfl) ?_
  rewrite [State.lineWork_comb, hs]
  exact fun h => by cases h

/-- Settles O4: the debounce, the feed-off time and the feed start wait one by one. -/
theorem attachLeadsToSettlingAndBuilding : Obligations.AttachLeadsToSettlingAndBuilding := by
  refine ⟨⟨fun s since hr hs hsince ha => ⟨fun hoff => ?_, fun f hoff => ?_⟩, fun s since hr hoff hs => ⟨fun hw ha => ?_, fun hn => ?_⟩⟩,
    fun s since hr hs hsince htx hgap hu hw => ?_⟩
  · refine ⟨_, exec_attachDebounce_detached hr hs hsince hoff, rfl, rfl, rfl, rfl, attachSince_entered rfl ha, ?_⟩
    refine keeps_cons rfl (Keeps.sub (keeps_outside rfl rfl rfl rfl rfl rfl rfl rfl rfl rfl rfl rfl rfl) ?_)
    decide
  · refine ⟨_, exec_attachDebounce_waits hr hs hsince hoff, ?_, ?_, ?_⟩
    · have : (true && s.attached && s.comb.state == .detached) = true := by simp [ha, hs]
      exact this
    · refine (State.retimeAttach_runs ?_).trans ?_
      · simp only [State.attachDiffers, hs]
        exact ha
      · exact congrArg (fun o : Option Nat => some (o.getD _)) hsince
    · refine keeps_cons rfl (keeps_cons rfl
        (Keeps.sub (keeps_outside rfl rfl rfl rfl rfl rfl rfl rfl rfl rfl rfl rfl rfl) ?_))
      decide
  · refine ⟨_, exec_feedOffTime_enters hr hs hoff hw ha, rfl, rfl, rfl, rfl, rfl, ?_⟩
    refine keeps_cons rfl (Keeps.sub (keeps_outside rfl rfl rfl rfl rfl rfl rfl rfl rfl rfl rfl rfl rfl) ?_)
    decide
  · refine ⟨_, exec_feedOffTime_stays hr hoff hn, hs, rfl, rfl, ?_⟩
    refine keeps_cons rfl (Keeps.sub (keeps_outside rfl rfl rfl rfl rfl rfl rfl rfl rfl rfl rfl rfl rfl) ?_)
    decide
  · refine ⟨_, exec_feedStartWait hr hs hsince, ?_⟩
    rewrite [State.startBuilding_lineWork htx hgap hu hw]
    refine ⟨rfl, rfl, rfl, rfl, rfl, rfl, ?_⟩
    refine Keeps.sub (keeps_cons (p := .sense) rfl (keeps_cons (p := .units) rfl (keeps_cons (p := .cache) rfl
      (keeps_cons (p := .lamps) rfl (keeps_cons (p := .flash) rfl (keeps_cons (p := .claims) rfl
        (keeps_cons (p := .counters) rfl (keeps_still rfl rfl rfl rfl rfl)))))))) ?_
    decide

end Sys2Proof.Machine
end

section
/-! PROOFS. What the drop and COMBINATION-RESET send (R12, R18, R40), and the obligations about them: O5, O6, O10. -/
namespace Sys2Proof.Machine

/-! ### What is discarded is answered (R40) -/

theorem responses_unitLost (e : UrgentEntry) : e.responses .unitLost false = commandLost e := by
  unfold UrgentEntry.responses commandLost
  cases e.requester <;> rfl

theorem response_unitLost (a : AccessEntry) : a.response .unitLost [] = accessLost a := by
  unfold AccessEntry.response accessLost
  cases a.kind <;> rfl

/-- The work discarded is answered UNIT-LOST in the order of R40 (log entry 9). -/
theorem State.discarded_eq_workLost (s : State) (k : Nat) (t : Option Transaction) :
    (t.map Transaction.lostUrgent).getD []
      ++ (s.line.urgent.filter fun e => decide (k ≤ e.position)).flatMap (fun e => e.responses .unitLost false)
      ++ (t.map Transaction.lostAccess).getD []
      ++ (s.line.access.filter fun e => decide (k ≤ e.position)).map (fun e => e.response .unitLost []) = s.workLost k t := by
  simp only [responses_unitLost, response_unitLost, State.workLost]
  obtain _ | ⟨kind, target, payload, o, attempts, phase⟩ := t
  · rfl
  · cases o with
    | bringUp _ | poll _ _ => rfl
    | urgent e => simp only [Option.map_some, Option.getD_some, Transaction.lostUrgent, Transaction.lostAccess,
        Transaction.lostResponses, responses_unitLost]
    | access a => simp only [Option.map_some, Option.getD_some, Transaction.lostUrgent, Transaction.lostAccess,
        Transaction.lostResponses, response_unitLost]

theorem State.workLost_code (s : State) (k : Nat) (t : Option Transaction) : ∀ r ∈ s.workLost k t, r.code ≠ codeLampSet := by
  have hc (e : UrgentEntry) : ∀ r ∈ commandLost e, r.code ≠ codeLampSet := by
    intro r hr
    unfold commandLost at hr
    split at hr
    · obtain rfl := List.mem_singleton.mp hr
      change (0x40 : Byte) ≠ codeLampSet
      decide
    · cases hr
  have ha (a : AccessEntry) : (accessLost a).code ≠ codeLampSet := by
    unfold accessLost
    dsimp only
    split <;> decide
  intro r hr
  simp only [State.workLost, List.mem_append, List.mem_flatMap, List.mem_map, or_assoc] at hr
  rcases hr with hr | ⟨e, -, hr⟩ | hr | ⟨a, -, rfl⟩
  · split at hr
    · exact hc _ r hr
    · cases hr
  · exact hc e r hr
  · split at hr
    · obtain rfl := List.mem_singleton.mp hr
      exact ha _
    · cases hr
  · exact ha a

theorem State.discardWork_outbox (s : State) (k : Nat) (t : Option Transaction) :
    (s.discardWork k t).outbox = s.outbox.respondAll s (s.workLost k t) := by
  unfold State.discardWork
  dsimp only
  rewrite [State.discarded_eq_workLost, State.deferAll_outbox _ _ (s.workLost_code k t)]
  exact Outbox.respondAll_settings rfl _ _

/-- The claims end and the work is answered when the combination is given up (R12, R18). -/
theorem State.givenUp_outbox (s : State) (r : EndReason) :
    ((s.abandon.endAllClaims r).discardAllWork s.line.tx).outbox
      = (s.outbox.endClaims s (byteOf (endReasonCode r)) s.claims).respondAll s (s.workLost 0 s.line.tx) := by
  have hl : (s.abandon.endAllClaims r).line = s.abandon.line := by simp [State.endAllClaims]
  have hw : (s.abandon.endAllClaims r).workLost 0 s.line.tx = s.workLost 0 s.line.tx := by
    simp only [State.workLost, hl]
    rfl
  have hc : s.abandon.claims.filter (fun _ => true) = s.claims := List.filter_true s.claims
  rewrite [State.discardAllWork, State.discardWork_outbox, hw, Outbox.respondAll_settings (s := s) (by simp [State.endAllClaims]),
    State.endAllClaims, State.endClaims_outbox, hc]
  exact congrArg (fun o : Outbox => o.respondAll s _) (Outbox.endClaims_settings rfl _ _ _)

theorem State.outbox_of_same {s t : State} (hp : t.port = s.port) (hs : t.slots = s.slots) (hc : t.counters = s.counters) :
    t.outbox = s.outbox := by
  simp only [State.outbox, hp, hs, hc]

/-- The frames of the drop (R12): CLAIM-END for every claim, then UNIT-LOST for the work. -/
theorem State.drop_outbox (s : State) (next : CombState) : (s.drop next).outbox
    = (s.outbox.endClaims s 3 s.claims).respondAll s (s.workLost 0 s.line.tx) := by
  have hk : ((s.dropped.unitsFrom 0).foldl State.retireUnit s.dropped).outbox = s.dropped.outbox :=
    retire_keeps State.outbox (fun t u => State.outbox_of_same (by simp) (by simp) (by simp)) _ _
  refine Eq.trans ?_ (hk.trans (s.givenUp_outbox .unitLost))
  rewrite [State.drop_eq]
  generalize (s.dropped.unitsFrom 0).foldl State.retireUnit s.dropped = d
  rfl

/-! ### The drop (R12, R15) -/

theorem counters_of_tallies {s t : State} (h : t.tallies = s.tallies) :
    t.counters = { s.counters with noticesDropped := t.counters.noticesDropped } := by
  have := congrArg (fun c : Counters => { c with noticesDropped := t.counters.noticesDropped }) h
  exact this

/-- What the drop leaves of the inputs, the settings and the commands that wait. -/
theorem State.drop_keeps (s : State) (n : Nat) (next : CombState) :
    Keeps [.flash, .slots, .settings, .setup, .portIn, .pending] s ((s.reach n).drop next) := by
  obtain ⟨-, -, hf, hw, hu, hq, hi, -⟩ := (s.reach n).drop_rest next
  exact keeps_cons hf (keeps_cons (slots_same hi) (keeps_cons hw (keeps_cons hu (keeps_cons (portIn_same hi)
    (keeps_cons hq (keeps_nil _ _))))))

theorem Part.same.trans {p : Part} {s t u : State} (h : p.same s t) (k : p.same t u) : p.same s u := by
  cases p with
  | comb =>
    simp only [Part.same] at h k ⊢
    rw [k, h]
  | slots | missed => exact fun j => (k j).trans (h j)
  | portIn =>
    obtain ⟨h1, h2, h3, h4⟩ := h
    obtain ⟨k1, k2, k3, k4⟩ := k
    exact ⟨k1.trans h1, k2.trans h2, k3.trans h3, k4.trans h4⟩
  | portOut =>
    obtain ⟨h1, h2⟩ := h
    obtain ⟨k1, k2⟩ := k
    exact ⟨k1.trans h1, k2.trans h2⟩
  | now | sense | line | walker | units | cache | lamps | flash | claims | settings | setup | counters | pending =>
    exact Eq.trans k h

theorem Keeps.trans {ps : List Part} {s t u : State} (h : Keeps ps s t) (k : Keeps ps t u) : Keeps ps s u :=
  fun p hp => (h p hp).trans (k p hp)

/-- The two timers of chapter 1 are in no frame. -/
theorem Keeps.retimed {ps : List Part} {s t : State} (h : Keeps ps s t) : Keeps ps s t.retimeAttach.retimePark :=
  h.trans fun p _ => by
    cases p with
    | slots | missed => exact fun _ => rfl
    | portIn => exact ⟨rfl, rfl, rfl, rfl⟩
    | portOut => exact ⟨rfl, rfl⟩
    | comb | now | sense | line | walker | units | cache | lamps | flash | claims | settings | setup | counters | pending => rfl

theorem exec_attachDebounce_drops {s : State} {since : Nat} (hr : s.comb.heldInReset = false)
    (hs : s.comb.state = .settling ∨ s.comb.state = .building ∨ s.comb.state = .serving) (hsince : s.comb.attachSince = some since) :
    exec .attachDebounceExpiry s
      = .next (((s.reach (since + s.setting .attachDebounce)).drop .detached).retimeAttach.retimePark).noticeCombination := by
  dsimp only [exec, execAttachDebounceExpiry]
  refine event_loud hr ?_ ?_
  · obtain h | h | h := hs <;> simp only [hsince, h]
  · rewrite [State.drop_comb]
    obtain h | h | h := hs <;> simp [h]

/-- Settles O5 by the fields of the drop. -/
theorem detachDrop : Obligations.DetachDrop := by
  intro s since hr hs hsince hc
  refine ⟨_, exec_attachDebounce_drops hr hs hsince, ?_⟩
  have hout : ((s.reach (since + s.setting .attachDebounce)).drop .detached).outbox
      = (s.outbox.endClaims s 3 s.claims).respondAll s (s.workLost 0 s.line.tx) := by
    rewrite [State.drop_outbox]
    exact (Outbox.respondAll_settings rfl _ _).trans
      (congrArg (fun o : Outbox => o.respondAll s _) (Outbox.endClaims_settings rfl _ _ _))
  have hcomb := (s.reach (since + s.setting .attachDebounce)).drop_comb .detached
  have hunits := (s.reach (since + s.setting .attachDebounce)).drop_units .detached hc
  have hcache := (s.reach (since + s.setting .attachDebounce)).drop_cache .detached hc
  have hclaims := (s.reach (since + s.setting .attachDebounce)).drop_claims .detached
  have hline := (s.reach (since + s.setting .attachDebounce)).drop_line .detached
  have hwalker := (s.reach (since + s.setting .attachDebounce)).drop_walker .detached
  have hlamps := (s.reach (since + s.setting .attachDebounce)).drop_lamps .detached
  obtain ⟨hnow, hsense, -, -, -, -, -, htallies⟩ := (s.reach (since + s.setting .attachDebounce)).drop_rest .detached
  have hkeep := s.drop_keeps (since + s.setting .attachDebounce) .detached
  generalize (s.reach (since + s.setting .attachDebounce)).drop .detached = d at *
  have hc' {γ : Type} (f : Combination → γ) : f d.comb = f _ := congrArg f hcomb
  exact ⟨hnow, hc' (·.state), hc' (·.feed), hc' (·.feedStartSince), hc' (·.unsettled), hc' (·.chainFull), hc' (·.identityClash),
    hc' (·.passiveLoad), hunits, hclaims, hout, hcache, hline, hwalker, counters_of_tallies htallies, hlamps, keeps_cons hsense hkeep.retimed⟩

/-! ### Parking (R14, R15) -/

theorem exec_parkDelay {s : State} {since : Nat} (hr : s.comb.heldInReset = false) (hsince : s.comb.parkSince = some since)
    (hm : s.mayPark = true) :
    exec .parkDelayExpiry s
      = .next (((s.reach (since + s.parkDelayMs)).enterParked.retimeAttach.retimePark).noticeCombination) := by
  dsimp only [exec, execParkDelayExpiry]
  refine event_loud hr (by simp only [hsince, hm, if_true]) ?_
  have hp : s.comb.state ≠ .parked := by
    intro h
    simp [State.mayPark, h] at hm
  intro h
  refine hp (h.symm.trans ?_)
  exact congrArg Combination.state ((s.reach (since + s.parkDelayMs)).drop_comb .parked)

/-- In PARKED the two timers of chapter 1 stand still and no entry waits (R15). -/
theorem State.retimed_parked {s : State} (h : s.comb.state = .parked) : (s.retimeAttach.retimePark).comb
    = { s.comb with attachSince := none, parkSince := none, entryWaiting := false } := by
  have ha : s.attachDiffers = false := by simp [State.attachDiffers, h]
  have hm : s.mayPark = false := by simp [State.mayPark, h]
  have hattach : s.retimeAttach.comb.attachSince = none := State.retimeAttach_stands ha
  have hwait : s.retimeAttach.comb.entryWaiting = false := by simp [State.retimeAttach, h]
  have hpark : s.retimePark.comb.parkSince = none := by simp [State.retimePark, hm]
  rw [State.retimed_comb, hattach, hwait, hpark]

section
variable (s : State)

/-- A part of the record that the entry to PARKED does not write is that of the drop. -/
theorem State.enterParked_field {γ : Type} (p : State → γ) (hp : ∀ d : State, p (s.parkedFrom d) = p d) :
    p s.enterParked = p (s.drop .parked) := hp (s.drop .parked)

/-- The combination record after the entry to PARKED (R15). -/
theorem State.enterParked_comb : s.enterParked.comb = { s.comb with
    state := .parked, recordedAttach := s.attached, feed := false, feedStartSince := none, unsettled := false, chainFull := false
    identityClash := false, attachSince := none, parkSince := none, entryWaiting := false } := by
  have hc := s.drop_comb .parked
  rewrite [State.enterParked_eq]
  generalize s.drop .parked = d at hc
  dsimp only [State.parkedFrom, State.clearAgreement]
  rw [hc]

theorem State.enterParked_sense : s.enterParked.sense = { s.sense with
    nextSample := none, nextSelfWake := some (s.now + Config.selfWakePeriod), parkedPlug := s.sense.plugClosed
    parkedLines := s.lamps.map fun _ x => x.verdict.presence } := by
  obtain ⟨-, hs, -⟩ := s.drop_rest .parked
  rewrite [State.enterParked_eq]
  generalize s.drop .parked = d at hs
  dsimp only [State.parkedFrom, State.clearAgreement]
  rw [hs]

theorem State.enterParked_lamps (l : Line) : s.enterParked.lamps.get l = { s.lamps.get l with
    agree := none, verdict := { (s.lamps.get l).verdict with candidate := none, repeats := 0 } } := by
  have hl := s.drop_lamps .parked l
  rewrite [State.enterParked_eq]
  generalize s.drop .parked = d at hl
  dsimp only [State.parkedFrom, State.clearAgreement]
  rewrite [PerLine.get_map, hl]
  rfl

theorem State.enterParked_keeps : Keeps [.flash, .slots, .settings, .setup, .portIn, .pending] (s.drop .parked) s.enterParked := by
  rewrite [State.enterParked_eq]
  generalize s.drop .parked = d
  have h := keeps_cons (s := d) (t := s.parkedFrom d) (p := .flash) rfl (keeps_still rfl rfl rfl rfl rfl)
  exact h.sub (by decide)
end

/-- Settles O6 by the fields of the drop and of the entry to PARKED. -/
theorem parkDelayParks : Obligations.ParkDelayParks := by
  intro s since hr hsince hp hi hreq hcl hacc hfl hc
  have hm : s.mayPark = true := by
    simp [State.mayPark, hp, hi, hreq, hcl, hacc, hfl]
  refine ⟨_, exec_parkDelay hr hsince hm, ?_⟩
  have hkeep := (s.drop_keeps (since + s.parkDelayMs) .parked).trans (State.enterParked_keeps _)
  have hout : (s.reach (since + s.parkDelayMs)).enterParked.outbox = s.outbox.respondAll s (s.workLost 0 s.line.tx) := by
    have hc0 : (s.reach (since + s.parkDelayMs)).claims = [] := hcl
    have h := (s.reach (since + s.parkDelayMs)).drop_outbox .parked
    rewrite [hc0] at h
    exact (State.enterParked_field _ State.outbox fun _ => rfl).trans (h.trans (Outbox.respondAll_settings rfl _ _))
  have htallies : (s.reach (since + s.parkDelayMs)).enterParked.tallies = s.tallies := by
    obtain ⟨-, -, -, -, -, -, -, ht⟩ := (s.reach (since + s.parkDelayMs)).drop_rest .parked
    exact (State.enterParked_field _ State.tallies fun _ => rfl).trans ht
  have hnow : (s.reach (since + s.parkDelayMs)).enterParked.now = (s.reach (since + s.parkDelayMs)).now := by
    obtain ⟨hn, -⟩ := (s.reach (since + s.parkDelayMs)).drop_rest .parked
    exact (State.enterParked_field _ State.now fun _ => rfl).trans hn
  have hcomb := (s.reach (since + s.parkDelayMs)).enterParked_comb
  have hsense := (s.reach (since + s.parkDelayMs)).enterParked_sense
  have hlamps := (s.reach (since + s.parkDelayMs)).enterParked_lamps
  have hfield {γ : Type} (p : State → γ) (hp : ∀ d : State, p ((s.reach (since + s.parkDelayMs)).parkedFrom d) = p d) {x : γ}
      (hx : p ((s.reach (since + s.parkDelayMs)).drop .parked) = x) : p (s.reach (since + s.parkDelayMs)).enterParked = x :=
    (State.enterParked_field _ p hp).trans hx
  have hunits := hfield State.units (fun _ => rfl) (State.drop_units _ .parked hc)
  have hcache := hfield State.cache (fun _ => rfl) (State.drop_cache _ .parked hc)
  have hclaims := hfield State.claims (fun _ => rfl) (State.drop_claims _ .parked)
  have hline := hfield State.line (fun _ => rfl) (State.drop_line _ .parked)
  have hwalker := hfield State.walker (fun _ => rfl) (State.drop_walker _ .parked)
  generalize (s.reach (since + s.parkDelayMs)).enterParked = d at *
  have hst : d.comb.state = .parked := congrArg Combination.state hcomb
  refine ⟨hnow, ?_, ?_, fun l => ?_, hunits, hout, hcache, hline, hwalker, counters_of_tallies htallies, hlamps, ?_⟩
  · rewrite [State.retimed_parked hst, hcomb]
    rfl
  · change d.sense = { s.sense with
          parkedPlug := s.sense.plugClosed, parkedLines := d.sense.parkedLines
          nextSample := none, nextSelfWake := some (d.now + 250) }
    rewrite [hsense, hnow]
    rfl
  · change d.sense.parkedLines.get l = _
    rewrite [hsense]
    exact PerLine.get_map _ _ _
  · have hcl' : d.claims = s.claims := hclaims.trans hcl.symm
    exact Keeps.sub (keeps_cons (p := .claims) hcl' hkeep.retimed) (by decide)

end Sys2Proof.Machine
end

section
/-! PROOFS. The wakes, the start wait, COMBINATION-READ and COMBINATION-RESET (chapter 1): O7 to O10. -/
namespace Sys2Proof.Machine

/-! ### COMBINATION-RESET (R18) -/

theorem State.combinationReset_outbox (s : State) :
    s.combinationReset.outbox = (s.outbox.endClaims s 4 s.claims).respondAll s (s.workLost 0 s.line.tx) :=
  s.givenUp_outbox .forced

theorem State.combinationReset_line (s : State) :
    s.combinationReset.line = { s.line with tx := none, gapSince := none, urgent := [], access := [] } := by
  change ((s.abandon.endAllClaims .forced).discardAllWork s.line.tx).line = _
  simp [State.discardAllWork, State.discardWork, State.endAllClaims, State.abandon]

theorem State.combinationReset_claims (s : State) : s.combinationReset.claims = [] := by
  change ((s.abandon.endAllClaims .forced).discardAllWork s.line.tx).claims = _
  simp only [State.discardAllWork, State.discardWork_claims, State.endAllClaims, State.endClaims]
  refine (foldl_keeps (fun t => State.claims t) _ (fun t c => t.noticeClaimEnd_claims c .forced) _ _).trans ?_
  simp

theorem State.combinationReset_comb (s : State) : s.combinationReset.comb = { s.comb with
    state := .detached, attachSince := none, feed := false, feedOffSince := some s.now, feedStartSince := none
    entryWaiting := false, unsettled := false, chainFull := false, identityClash := false, passiveLoad := false } := by
  have hc : ((s.abandon.endAllClaims .forced).discardAllWork s.line.tx).comb = s.comb := by
    simp [State.discardAllWork, State.endAllClaims]
  have hn : ((s.abandon.endAllClaims .forced).discardAllWork s.line.tx).now = s.now := by
    simp [State.discardAllWork, State.endAllClaims]
  unfold State.combinationReset
  dsimp only [State.enter]
  rw [hc, hn]

theorem State.combinationReset_lamps (s : State) (l : Line) : s.combinationReset.lamps.get l =
    { s.lamps.get l with verdict := pendingVerdict (s.lamps.get l).verdict.presence } := by
  have hl : ((s.abandon.endAllClaims .forced).discardAllWork s.line.tx).lamps = s.lamps := by
    simp [State.discardAllWork, State.endAllClaims]
  unfold State.combinationReset
  dsimp only [State.enter]
  rewrite [hl]
  exact PerLine.get_map _ _ _

theorem State.combinationReset_keeps (s : State) :
    Keeps [.now, .sense, .flash, .slots, .settings, .setup, .portIn, .pending] s s.combinationReset
      ∧ s.combinationReset.tallies = s.tallies := by
  have hi : s.combinationReset.inlets = s.inlets := by
    change ((s.abandon.endAllClaims .forced).discardAllWork s.line.tx).inlets = _
    simp [State.discardAllWork, State.endAllClaims]
  have ht : s.combinationReset.tallies = s.tallies := by
    change ((s.abandon.endAllClaims .forced).discardAllWork s.line.tx).tallies = _
    simp [State.discardAllWork, State.endAllClaims]
  refine ⟨keeps_cons ?_ (keeps_cons ?_ (keeps_cons ?_ (keeps_cons (slots_same hi) (keeps_cons ?_ (keeps_cons ?_
    (keeps_cons (portIn_same hi) (keeps_cons ?_ (keeps_nil _ _)))))))), ht⟩
  · change ((s.abandon.endAllClaims .forced).discardAllWork s.line.tx).now = _
    simp [State.discardAllWork, State.endAllClaims]
  · change ((s.abandon.endAllClaims .forced).discardAllWork s.line.tx).sense = _
    simp [State.discardAllWork, State.endAllClaims]
  · change ((s.abandon.endAllClaims .forced).discardAllWork s.line.tx).flash = _
    simp [State.discardAllWork, State.endAllClaims]
  · change ((s.abandon.endAllClaims .forced).discardAllWork s.line.tx).settings = _
    simp [State.discardAllWork, State.endAllClaims]
  · change ((s.abandon.endAllClaims .forced).discardAllWork s.line.tx).setup = _
    simp [State.discardAllWork, State.endAllClaims]
  · change ((s.abandon.endAllClaims .forced).discardAllWork s.line.tx).pending = _
    simp [State.discardAllWork, State.endAllClaims]

/-- A request taken with the RESETS right or without it (R161). -/
theorem exec_combinationReset {s : State} {e : IntakeEntry} {rest : List IntakeEntry} (h : Takes s 0x7E e rest 1) :
    exec .combinationReset s = .next (if s.hasRight e.slot .resets then
      (((doneWith s e rest 0 0 0 0).combinationReset).retimeAttach.retimePark).noticeCombination
      else refusedWith s e rest .refusedRights) := by
  dsimp only [exec, execCombinationReset]
  rewrite [powered_running h.running, Takes.taking (code := codeCombinationReset) h (by decide) (by decide)]
  have hd : (State.count { s with port := { s.port with intake := rest } } .requestsTaken).answer e .done
      = doneWith s e rest 0 0 0 0 := State.answer_taken s e rest .done false [] 0 0 0 0 rfl
  rewrite [hd, State.answer_refused]
  rfl

/-- Settles O10 by the fields of COMBINATION-RESET. -/
theorem combinationResetDiscards : Obligations.CombinationResetDiscards := by
  intro s e rest ht
  have he := exec_combinationReset ht
  refine ⟨fun hr => ?_, fun hr => by rw [he, if_neg (by simp [hr])]⟩
  rewrite [if_pos hr] at he
  refine ⟨_, he, ?_⟩
  have hout := (doneWith s e rest 0 0 0 0).combinationReset_outbox
  have hline := (doneWith s e rest 0 0 0 0).combinationReset_line
  have hclaims := (doneWith s e rest 0 0 0 0).combinationReset_claims
  have hcomb := (doneWith s e rest 0 0 0 0).combinationReset_comb
  have hlamps := (doneWith s e rest 0 0 0 0).combinationReset_lamps
  obtain ⟨hkeep, htallies⟩ := (doneWith s e rest 0 0 0 0).combinationReset_keeps
  have hunits : (doneWith s e rest 0 0 0 0).combinationReset.units = [] := rfl
  have hcache : (doneWith s e rest 0 0 0 0).combinationReset.cache = [] := rfl
  have hwalker : (doneWith s e rest 0 0 0 0).combinationReset.walker = WalkerAtRest := rfl
  have hsense : (doneWith s e rest 0 0 0 0).combinationReset.sense = s.sense := hkeep .sense (by decide)
  have hnow : (doneWith s e rest 0 0 0 0).combinationReset.now = s.now := hkeep .now (by decide)
  have hslots : Keeps [.now, .sense, .flash, .slots, .settings, .setup, .pending] s (doneWith s e rest 0 0 0 0) := by
    refine keeps_cons rfl (keeps_cons rfl (keeps_cons rfl (keeps_cons (fun k => ?_) (keeps_cons rfl (keeps_cons rfl
      (keeps_cons rfl (keeps_nil _ _)))))))
    by_cases hk : k = e.slot
    · subst hk
      simp [doneWith, answered]
    · simp [doneWith, answered, hk]
  have hall := hslots.trans (hkeep.sub (qs := [.now, .sense, .flash, .slots, .settings, .setup, .pending]) (by decide))
  have hport := hkeep.sub (qs := [.portIn]) (by decide)
  generalize (doneWith s e rest 0 0 0 0).combinationReset = d at *
  have hc {γ : Type} (f : Combination → γ) : f d.comb = f _ := congrArg f hcomb
  have hatt : d.attached = s.attached := by
    simp only [State.attached, hsense, hlamps]
    rfl
  have hst : d.comb.state = .detached := hc (·.state)
  refine ⟨hst, hc (·.feed), hc (·.feedOffSince), hc (·.feedStartSince), hc (·.unsettled), hc (·.chainFull), hc (·.identityClash),
    hc (·.passiveLoad), hc (·.wakeCause), hc (·.resetCause), hunits, hcache, hclaims, ?_, hline, hwalker, hlamps, ?_, ?_, ?_,
    hport.retimed, hall.retimed⟩
  · refine hout.trans ((Outbox.respondAll_settings rfl _ _).trans ?_)
    exact congrArg (fun o : Outbox => o.respondAll s _) (Outbox.endClaims_settings rfl _ _ _)
  · change d.retimeAttach.comb.attachSince = _
    have hd : d.attachDiffers = s.attached := by simp only [State.attachDiffers, hst, hatt]
    cases ha : s.attached with
    | true =>
      rewrite [State.retimeAttach_runs (hd.trans ha), if_pos rfl, hnow, hc (·.attachSince)]
      rfl
    | false =>
      rewrite [State.retimeAttach_stands (hd.trans ha)]
      rfl
  · change (d.comb.entryWaiting && d.attached && d.comb.state == .detached) = false
    rewrite [hc (·.entryWaiting)]
    rfl
  · exact counters_of_tallies htallies

/-! ### Wakes (R16, R17) -/

theorem exec_ignitionWake {s : State} (hr : s.comb.heldInReset = false) (hp : s.comb.state = .parked)
    (hw : s.comb.startWaitSince = none) :
    exec .ignitionWake s = .next (State.retimePark (State.retimeAttach { s with
      sense := { s.sense with ignitionHigh := true, ignitionCount := 0 }
      comb := { s.comb with wakeCause := .ignition, startWaitSince := some s.now } })) := by
  dsimp only [exec, execIgnitionWake]
  exact event_quiet hr (by simp only [hp, hw, State.wake]) rfl

theorem State.addressed_of {s : State} {f : BusFrame} (he : f.extended = true) (hm : f.remote = false)
    (hb : identBlock f.ident = s.settings.identifierBlock.extractLsb' 0 13) : s.addressed f = true := by
  simp [State.addressed, he, hm, hb, State.block]

theorem exec_busFrameWake {s : State} {f : BusFrame} (hr : s.comb.heldInReset = false) (hp : s.comb.state = .parked)
    (hw : s.comb.startWaitSince = none) (hb : s.port.busOff = false) (ha : s.addressed f = true) :
    exec (.busFrameWake f) s = .next (State.retimePark (State.retimeAttach { s with
      comb := { s.comb with wakeCause := .busFrame, startWaitSince := some s.now } })) := by
  dsimp only [exec, execBusFrameWake]
  exact event_quiet hr (by simp only [hp, hw, State.wake, State.hearFrame, hb, ha, if_true]; rfl) rfl

/-- The parked part after a self-wake, before it judges its attach value (R16). -/
def State.selfSampled (s : State) (plug : Bool) (loaded : Byte) (due : Nat) : State :=
  { s.reach due with sense := { s.sense with
      nextSelfWake := some (due + Config.selfWakePeriod)
      parkedPlug := plug
      parkedLines := s.sense.parkedLines.map fun l p => if s.senseEnabled l then sampleOf loaded l else p } }

theorem State.selfSampled_wake {s : State} (hw : s.comb.startWaitSince = none) (plug : Bool) (loaded : Byte) (due : Nat) :
    (s.selfSampled plug loaded due).wake .attachChange = { s.selfSampled plug loaded due with
      comb := { s.comb with wakeCause := .attachChange, startWaitSince := some (max s.now due) } } := by
  have : (s.selfSampled plug loaded due).comb.startWaitSince = none := hw
  simp only [State.wake, this]
  rfl

theorem exec_selfWake {s : State} {due : Nat} (hr : s.comb.heldInReset = false) (hp : s.comb.state = .parked)
    (hd : s.sense.nextSelfWake = some due) (plug : Bool) (loaded : Byte) :
    exec (.selfWake plug loaded) s = .next (State.retimePark (State.retimeAttach
      (if (s.selfSampled plug loaded due).sense.parkedAttach = s.comb.recordedAttach then s.selfSampled plug loaded due
        else (s.selfSampled plug loaded due).wake .attachChange))) := by
  dsimp only [exec, execSelfWake]
  refine event_quiet hr (by rw [hp, hd]; rfl) ?_
  split
  · rfl
  · unfold State.wake
    split <;> rfl

/-- Settles O7: the three causes one by one. -/
theorem wakesStartTheStartWait : Obligations.WakesStartTheStartWait := by
  intro s hr hp hw
  refine ⟨⟨_, exec_ignitionWake hr hp hw, rfl, rfl, rfl, hp, ?_⟩, fun f hb he hm hbl =>
    ⟨_, exec_busFrameWake hr hp hw hb (State.addressed_of he hm hbl), rfl, rfl, hp, ?_⟩, fun plug loaded due hd => ?_⟩
  · exact keeps_cons rfl (keeps_outside rfl rfl rfl rfl rfl rfl rfl rfl rfl rfl rfl rfl rfl)
  · exact keeps_cons rfl (keeps_cons rfl (keeps_outside rfl rfl rfl rfl rfl rfl rfl rfl rfl rfl rfl rfl rfl))
  · have hl (l : Line) : (s.selfSampled plug loaded due).sense.parkedLines.get l =
        if s.settings.senseEnables.getLsbD (lineNumber l) then
          (if loaded.getLsbD (lineNumber l) then .loaded else .open) else s.sense.parkedLines.get l :=
      PerLine.get_map _ _ _
    have hx := exec_selfWake hr hp hd plug loaded
    by_cases ha : (s.selfSampled plug loaded due).sense.parkedAttach = s.comb.recordedAttach
    · rewrite [if_pos ha] at hx
      exact ⟨_, hx, rfl, rfl, rfl, hl, hp, fun _ => ⟨hw, rfl⟩, fun h => absurd ha h,
        keeps_outside rfl rfl rfl rfl rfl rfl rfl rfl rfl rfl rfl rfl rfl⟩
    · rewrite [if_neg ha, State.selfSampled_wake hw] at hx
      exact ⟨_, hx, rfl, rfl, rfl, hl, hp, fun h => absurd h ha, fun _ => ⟨rfl, rfl⟩,
        keeps_outside rfl rfl rfl rfl rfl rfl rfl rfl rfl rfl rfl rfl rfl⟩

/-! ### The start wait (R17) -/

/-- The part at the end of the start wait, before its state is decided (R17). -/
def State.awakened (s : State) (since : Nat) : State :=
  let t := s.reach (since + Config.startWait)
  { t with
    sense := { t.sense with
      plugClosed := t.sense.parkedPlug, plugCount := 0, ignitionCount := 0, nextSample := some t.now, nextSelfWake := none }
    lamps := t.lamps.map fun l x =>
      if s.senseEnabled l then
        { x with agree := none, verdict := { x.verdict with presence := t.sense.parkedLines.get l } }
      else { x with agree := none }
    comb := { t.comb with startWaitSince := none } }

/-- The state that the end of the start wait leads to (R17, R19). -/
def State.restarted (s : State) : State :=
  if s.attached then
    match s.comb.feedOffSince with
    | some _ => { s.enter .detached with comb := { (s.enter .detached).comb with entryWaiting := true } }
    | none => s.enterSettling
  else s.enter .detached

theorem exec_startWait {s : State} {since : Nat} (hr : s.comb.heldInReset = false) (hp : s.comb.state = .parked)
    (hw : s.comb.startWaitSince = some since) :
    exec .startWaitExpiry s = .next (((s.awakened since).restarted.retimeAttach.retimePark).noticeCombination) := by
  dsimp only [exec, execStartWaitExpiry]
  refine event_loud hr (by rw [hw]; rfl) ?_
  rewrite [hp]
  unfold State.restarted
  repeat' split
  all_goals exact fun h => by cases h

theorem State.restarted_cases (s : State) :
    (s.attached = true ∧ s.comb.feedOffSince ≠ none
        ∧ s.restarted = { s with comb := { s.comb with state := .detached, attachSince := none, entryWaiting := true } })
    ∨ (s.attached = true ∧ s.comb.feedOffSince = none ∧ s.restarted = s.enterSettling)
    ∨ (s.attached = false ∧ s.restarted = s.enter .detached) := by
  unfold State.restarted
  cases ha : s.attached with
  | false => exact .inr (.inr ⟨rfl, rfl⟩)
  | true =>
    cases hf : s.comb.feedOffSince with
    | none => exact .inr (.inl ⟨rfl, rfl, rfl⟩)
    | some f =>
      refine .inl ⟨rfl, by simp, ?_⟩
      rewrite [if_pos rfl]
      simp only [State.enter, hf]

/-- Settles O8 by the three outcomes of the start wait. -/
theorem startWaitEnds : Obligations.StartWaitEnds := by
  intro s since hr hp hw
  refine ⟨_, exec_startWait hr hp hw, ?_⟩
  have hlamps (l : Line) : (s.awakened since).lamps.get l = if s.senseEnabled l then
      { s.lamps.get l with agree := none, verdict := { (s.lamps.get l).verdict with presence := s.sense.parkedLines.get l } }
      else { s.lamps.get l with agree := none } := PerLine.get_map _ _ _
  have hpres (l : Line) : ((s.awakened since).lamps.get l).verdict.presence =
      if s.settings.senseEnables.getLsbD (lineNumber l) then s.sense.parkedLines.get l else (s.lamps.get l).verdict.presence := by
    rewrite [hlamps]
    by_cases h : s.senseEnabled l = true
    · rw [if_pos h, if_pos (show s.settings.senseEnables.getLsbD (lineNumber l) = true from h)]
    · rw [if_neg h, if_neg (show ¬ s.settings.senseEnables.getLsbD (lineNumber l) = true from h)]
  have hline (l : Line) : ((s.awakened since).lamps.get l).on = (s.lamps.get l).on ∧ ((s.awakened since).lamps.get l).agree = none := by
    rewrite [hlamps]
    split <;> exact ⟨rfl, rfl⟩
  have hpark (t : State) (ht : t.comb.parkSince = s.comb.parkSince) (hn : t.now = (s.awakened since).now) (hs : TimersFollow s) :
      t.retimePark.comb.parkSince = if t.mayPark then some t.now else none := by
    have hnone : s.comb.parkSince = none := by
      have hm : s.mayPark = false := by simp [State.mayPark, hp]
      have := hs.park
      rewrite [hm] at this
      exact Option.isNone_iff_eq_none.mp (by simpa using this)
    simp only [State.retimePark, ht, hnone, Option.getD_none]
  have hkeep (c : Combination) :
      Keeps [.line, .walker, .units, .cache, .flash, .claims, .slots, .missed, .settings, .setup, .portIn, .portOut, .counters,
        .pending] s (State.retimePark (State.retimeAttach { s.awakened since with comb := c })) :=
    keeps_trailerAndPort rfl rfl rfl rfl rfl rfl rfl rfl rfl rfl rfl rfl
  obtain ⟨ha, hf, e⟩ | ⟨ha, hf, e⟩ | ⟨ha, e⟩ := (s.awakened since).restarted_cases
  all_goals rw [e]
  · refine ⟨rfl, rfl, rfl, rfl, rfl, hpres, hline, fun _ h => absurd h hf, fun _ _ => ⟨rfl, ?_⟩, fun h => absurd (ha.symm.trans h) (by decide),
      ?_, hpark _ rfl rfl, rfl, hkeep _⟩
    · have : (true && (s.awakened since).attached && CombState.detached == .detached) = true := by simp [ha]
      exact this
    · rewrite [if_pos ⟨ha, hf⟩]
      exact State.retimeAttach_runs (s := { s.awakened since with
        comb := { (s.awakened since).comb with state := .detached, attachSince := none, entryWaiting := true } }) ha
  · refine ⟨rfl, rfl, rfl, rfl, rfl, hpres, hline, fun _ _ => ⟨rfl, rfl, rfl⟩, fun _ h => absurd hf h,
      fun h => absurd (ha.symm.trans h) (by decide), ?_, hpark _ rfl rfl, rfl, hkeep _⟩
    rewrite [if_neg fun h => h.2 hf]
    exact attachSince_entered rfl ha
  · refine ⟨rfl, rfl, rfl, rfl, rfl, hpres, hline, fun h => absurd (ha.symm.trans h) (by decide), fun h => absurd (ha.symm.trans h) (by decide),
      fun _ => rfl, ?_, hpark _ rfl rfl, rfl, hkeep _⟩
    rewrite [if_neg fun h => absurd (ha.symm.trans h.1) (by decide)]
    exact State.retimeAttach_stands ha

/-! ### COMBINATION-READ (R2) -/

theorem combFlags_eq (s : State) : s.combFlags = byteOf (s.comb.unsettled.toNat + 2 * s.comb.chainFull.toNat
    + 4 * s.comb.identityClash.toNat + 8 * s.comb.passiveLoad.toNat) := by
  have h : ∀ a b c d : Bool, flagByte a ||| (flagByte b <<< 1) ||| (flagByte c <<< 2) ||| (flagByte d <<< 3)
      = byteOf (a.toNat + 2 * b.toNat + 4 * c.toNat + 8 * d.toNat) := by decide
  exact h _ _ _ _

/-- Settles O9: the answer byte by byte; in PARKED nothing is taken. -/
theorem combinationReadAnswers : Obligations.CombinationReadAnswers := by
  refine ⟨fun s e rest ht => ?_, fun s hp => ?_⟩
  · dsimp only [exec, execCombinationRead]
    rewrite [powered_running ht.running, Takes.taking (code := codeCombinationRead) ht (by decide) (by decide),
      State.answer_taken _ _ _ _ _ _ _ _ _ _ (fitBytes_four _), ← combFlags_eq]
    rfl
  · dsimp only [exec, execCombinationRead]
    rw [powered, State.taking_parked hp, ite_self]

end Sys2Proof.Machine
end

section
/-! PROOFS. The check, the call, the bytes of an answer and the failed attempt (chapter 2): O11 to O13. -/
namespace Sys2Proof.Machine

/-! ### The check (R22) -/

/-- The bit that a shift carries out stands in bit 0 of its result. -/
theorem crcShift_bit_zero (v : Byte) : (crcShift v).getLsbD 0 = v.msb := by
  unfold crcShift
  split <;> simp_all

theorem shiftLeft_one_inj {v w : Byte} (hm : v.msb = w.msb) (h : v <<< 1 = w <<< 1) : v = w := by
  apply BitVec.eq_of_getLsbD_eq
  intro i hi
  rewrite [BitVec.msb_eq_getLsbD_last, BitVec.msb_eq_getLsbD_last] at hm
  obtain rfl | h7 : i = 7 ∨ i < 7 := by omega
  · exact hm
  · have hb := congrArg (·.getLsbD (i + 1)) h
    simpa only [BitVec.getLsbD_shiftLeft, show i + 1 < 8 by omega, Nat.add_sub_cancel, decide_true, Bool.true_and,
      show ¬ i + 1 < 1 by omega, decide_false, Bool.not_false] using hb

/-- The bit carried out is read back, and what the shift adds for it cancels. -/
theorem crcShift_injective : Function.Injective crcShift := fun v w h => by
  have hm : v.msb = w.msb := by rw [← crcShift_bit_zero, ← crcShift_bit_zero, h]
  refine shiftLeft_one_inj hm ?_
  unfold crcShift at h
  rewrite [hm] at h
  split at h
  · exact (BitVec.xor_left_inj _).mp h
  · exact h

/-- A byte taken into the running value is read back from it. -/
theorem crcByte_inj {v w a b : Byte} : crcByte v a = crcByte w b ↔ v ^^^ a = w ^^^ b := by
  simp only [crcByte, crcShift_injective.eq_iff]

theorem crc_foldl_inj (bs : List Byte) {v w : Byte} : bs.foldl crcByte v = bs.foldl crcByte w ↔ v = w := by
  induction bs generalizing v w with
  | nil => exact Iff.rfl
  | cons b bs ih =>
    rewrite [List.foldl_cons, List.foldl_cons, ih, crcByte_inj]
    exact BitVec.xor_left_inj b

theorem crcByte_self (v : Byte) : crcByte v v = 0 := by
  rewrite [crcByte, BitVec.xor_self]
  rfl

/-- Settles O11: each byte is taken in by an injective step, and a value taken into itself leaves 0. -/
theorem checkTellsOneByteApart : Obligations.CheckTellsOneByteApart := by
  refine ⟨fun before after a b => ?_, fun bytes => ?_⟩
  · simp only [crc8, List.foldl_append, List.foldl_cons, crc_foldl_inj, crcByte_inj]
    exact BitVec.xor_right_inj _
  · simp only [crc8, List.foldl_append, List.foldl_cons, List.foldl_nil, crcByte_self]

/-! ### The call and the bytes of an answer (R21 to R25) -/

/-- An event that touches neither the timers' conditions nor a flag leaves its effect alone. -/
theorem event_still {f : State → State} {s t : State} (hr : s.comb.heldInReset = false) (hf : f s = t) (ht : TimersFollow t)
    (h : t.combSummary = s.combSummary) : event f s = .next t := by
  rw [event_quiet hr hf h, ht.retimed]

theorem TimersFollow.setTx {s : State} (h : TimersFollow s) {t v : Transaction} (ht : s.line.tx = some t)
    (hv : v.originator = t.originator) : TimersFollow (s.setTx (some v)) := h.of_same (timersSame_setTx ht hv)

theorem TimersFollow.gap {s : State} (h : TimersFollow s) (gap : Option Nat) :
    TimersFollow { s with line := { s.line with gapSince := gap } } := ⟨h.attach, h.waiting, h.park⟩

/-- Settles O12: the four clauses are cases of `callSent` and of a byte received. -/
theorem callSentAndBytesReceived : Obligations.CallSentAndBytesReceived := by
  refine ⟨fun s t hr ht hp => ?_, fun s t since received b h htf hlen hmore => ?_, fun s b hr htf hline => ?_,
    fun s b t hr htf ht hp => ?_⟩
  · dsimp only [exec, execCallSent]
    rewrite [powered_running hr]
    simp only [ht, hp, if_true]
    rfl
  · obtain ⟨hr, ht, hp⟩ := h
    dsimp only [exec, execAnswerByteReceived]
    have hk := State.receiveByte_kept (b := b) ht hp ?_ ?_
    · exact event_still hr hk (htf.setTx ht rfl) rfl
    · rintro ⟨hl, hb⟩
      have := hlen (by simpa using hl)
      omega
    · rintro ⟨h3, hl⟩
      rcases hc : received ++ [b] with _ | ⟨status, _ | ⟨len, more⟩⟩
      · rewrite [hc] at h3
        cases h3
      · rewrite [hc] at h3
        exact absurd h3 (by simp)
      · have := hmore status len more hc
        rewrite [hc] at hl
        have hb : byteAt (status :: len :: more) 1 = len := rfl
        rewrite [hb] at hl
        simp only [List.length_cons] at hl
        omega
  · dsimp only [exec, execDiscardedByte]
    have hb : s.receiveByte b = { s with line := { s.line with gapSince := s.line.gapSince.map fun _ => s.now } } := by
      obtain ht | ⟨t, ht, hp⟩ := hline
      · simp only [State.receiveByte, ht]
      · simp only [State.receiveByte, ht, hp]
    exact event_still hr hb (htf.gap _) rfl
  · dsimp only [exec, execDiscardedByte]
    exact event_still hr (by simp only [State.receiveByte, ht, hp]) htf rfl

/-! ### The failed attempt (R23 to R25, R30) -/

/-- The state in which a failed attempt goes to its retry or completes FAILED: counted, the resync gap running. -/
def State.failing (s : State) (now : Nat) (counters : Counters) : State :=
  { s with now, counters, line := { s.line with gapSince := some now } }

/-- What the attempt's failure makes of the transaction. -/
def State.attemptEnds (s : State) (t : Transaction) : State :=
  if t.attempts < 1 + s.setting .retryLimit then s.setTx (some { t with phase := .resync }) else s.failedTransaction t

/-- The work of a transaction, whatever its phase and its attempts. -/
theorem State.failedTransaction_phase (s : State) (t : Transaction) (p : TxPhase) :
    s.failedTransaction { t with phase := p } = s.failedTransaction t := by
  have hd (u : State) (k : Nat) : u.discardWork k (some { t with phase := p }) = u.discardWork k (some t) := by
    rewrite [State.discardWork, State.discardWork]
    rfl
  simp only [State.failedTransaction, State.loseUnits, hd]

theorem State.attemptEnds_setTx (s : State) (t : Transaction) (v : Option Transaction) (p : TxPhase) :
    (s.setTx v).attemptEnds { t with phase := p } = s.attemptEnds t := by
  unfold State.attemptEnds
  rewrite [State.failedTransaction_phase]
  rfl

theorem State.attemptFailed_eq (s : State) (t : Transaction) (c : Option Counter) :
    s.attemptFailed t c = (s.failing s.now (match c with
      | some c => s.counters.bump c
      | none => s.counters)).attemptEnds t := by
  cases c <;> rfl

/-- The four ways in which an attempt fails leave it to its retry or its end. -/
theorem exec_attemptFails {s : State} {t : Transaction} {c : Instr} {now : Nat} {counters : Counters}
    (hr : s.comb.heldInReset = false) (ht : s.line.tx = some t) (h : AttemptFails s t c now counters) :
    exec c s = .next ((((s.failing now counters).attemptEnds t).retimeAttach.retimePark).announce s) := by
  cases h with
  | noAnswer since hp =>
    dsimp only [exec, execAnswerWindowExpiry]
    rewrite [event_running hr]
    simp only [ht, hp]
    rewrite [State.attemptFailed_eq, noAnswerCounter]
    by_cases hk : t.kind = .probe
    · simp only [if_pos hk]
      rfl
    · simp only [if_neg hk]
      rfl
  | byteGap since received hp hne =>
    obtain ⟨b, bs, rfl⟩ := List.exists_cons_of_ne_nil hne
    dsimp only [exec, execByteGapTimeout]
    rewrite [event_running hr]
    simp only [ht, hp]
    rewrite [State.attemptFailed_eq]
    rfl
  | lengthByte since received bytes status len hp hne hw hl =>
    dsimp only [exec, execLengthByteError]
    rewrite [event_running hr]
    have hb : s.receiveBytes bytes = (s.failing s.now { s.counters with checkErrors := bumped s.counters.checkErrors }).attemptEnds t := by
      rcases received with _ | ⟨a, received⟩
      · obtain rfl : bytes = [status, len] := hw
        have hk : s.receiveByte status = s.setTx (some { t with phase := .awaiting s.now [status] }) :=
          State.receiveByte_kept ht hp (fun h => absurd h.1 (by simp)) (fun h => absurd h.1 (by simp))
        have hlong := State.receiveByte_tooLong (s := s.setTx (some { t with phase := .awaiting s.now [status] })) (b := len) rfl rfl rfl hl
        change (s.receiveByte status).receiveByte len = _
        rewrite [hk, hlong, State.attemptFailed_eq]
        exact State.attemptEnds_setTx (s.failing s.now _) t _ _
      · rewrite [List.cons_append, List.cons.injEq] at hw
        obtain ⟨rfl, hw⟩ := hw
        obtain ⟨rfl, rfl⟩ : received = [] ∧ bytes = [len] := by
          rcases received with _ | ⟨x, received⟩
          · exact ⟨rfl, hw⟩
          · simp only [List.cons_append, List.cons.injEq, List.append_eq_nil_iff] at hw
            exact absurd hw.2.2 hne
        have hlong := State.receiveByte_tooLong ht hp rfl hl
        exact hlong.trans (State.attemptFailed_eq s t _)
    rw [hb]
  | check since received bytes payload status check hp hne hpl hw hc =>
    dsimp only [exec, execAnswerFrameComplete]
    rewrite [event_running hr]
    have hw' : received ++ bytes = status :: byteOf payload.length :: (payload ++ [check]) := hw
    obtain ⟨x, y, hxy⟩ := State.receiveBytes_frame hpl bytes received s t since ht hp hne hw'
    rewrite [hxy, hw, State.judgeFrame_bad _ _ _ _ hc, State.attemptFailed_eq]
    have he := State.attemptEnds_setTx (s.failing s.now { s.counters with checkErrors := bumped s.counters.checkErrors }) t
      (some { t with phase := .awaiting x y }) (.awaiting x y)
    exact congrArg (fun u : State => Host.Outcome.next ((u.retimeAttach.retimePark).announce s)) he

/-- Settles O13: with retries left the attempt only waits for its retry. -/
theorem failedAttemptGoesToResync : Obligations.FailedAttemptGoesToResync := by
  intro s t c now counters hr ht hf htf ha
  have he : (s.failing now counters).attemptEnds t = retried s t now counters := if_pos ha
  have hfollow : TimersFollow (retried s t now counters) := by
    have h1 : TimersFollow (s.failing now counters) := ⟨htf.attach, htf.waiting, htf.park⟩
    exact h1.setTx (t := t) ht rfl
  rewrite [exec_attemptFails hr ht hf, he, hfollow.retimed]
  exact congrArg _ (State.announce_same rfl)

end Sys2Proof.Machine
end

section
/-! PROOFS. The loss of units (R57 to R60), field by field. -/
namespace Sys2Proof.Machine

/-! ### What an event reports (R1) -/

theorem State.combSummary_eq_iff {s t : State} : t.combSummary = s.combSummary ↔ t.comb.state = s.comb.state
    ∧ t.comb.unsettled = s.comb.unsettled ∧ t.comb.chainFull = s.comb.chainFull ∧ t.comb.identityClash = s.comb.identityClash
    ∧ t.comb.passiveLoad = s.comb.passiveLoad := by
  have h : ∀ a b c d a' b' c' d' : Bool, flagByte a ||| (flagByte b <<< 1) ||| (flagByte c <<< 2) ||| (flagByte d <<< 3)
      = flagByte a' ||| (flagByte b' <<< 1) ||| (flagByte c' <<< 2) ||| (flagByte d' <<< 3)
      → a = a' ∧ b = b' ∧ c = c' ∧ d = d' := by decide
  refine ⟨fun e => ?_, fun ⟨h1, h2, h3, h4, h5⟩ => State.combSummary_eq h1 h2 h3 h4 h5⟩
  exact ⟨congrArg Prod.fst e, h _ _ _ _ _ _ _ _ (congrArg Prod.snd e)⟩

theorem State.announce_eq_ite (u s : State) :
    u.announce s = if u.combSummary = s.combSummary then u else u.noticeCombination := rfl

/-! ### Position sets -/

/-- The positions of a set below a position (R58). -/
theorem inPositionSet_positionsBelow (set : Byte) {k : Nat} (hk : 1 ≤ k) (q : Nat) :
    inPositionSet (positionsBelow set k) q = (inPositionSet set q && decide (q < k)) := by
  have hmask : ∀ m i : Nat, i < 8 → ((1#8 <<< m) - 1).getLsbD i = decide (i < m) := by
    intro m i hi
    by_cases hm : m < 8
    · revert i
      interval_cases m <;> decide
    · have h0 : (1#8 <<< m) = 0 := BitVec.shiftLeft_eq_zero (by omega)
      rewrite [h0]
      interval_cases i <;> simp <;> omega
  simp only [inPositionSet, positionsBelow, BitVec.getLsbD_and]
  by_cases hq : q = 0
  · simp [hq]
  · by_cases h8 : q - 1 < 8
    · rewrite [hmask _ _ h8]
      have : decide (q - 1 < k - 1) = decide (q < k) := by
        rewrite [decide_eq_decide]
        omega
      rw [this, Bool.and_assoc]
    · rewrite [BitVec.getLsbD_of_ge set (q - 1) (by omega)]
      simp

/-! ### The records lost (R58, step 3) -/

/-- Two states with the same records and the same cache lose the same. -/
theorem retire_congr {s t : State} (hu : t.units = s.units) (hc : t.cache = s.cache) (u : UnitRecord) :
    (t.retireUnit u).units = (s.retireUnit u).units ∧ (t.retireUnit u).cache = (s.retireUnit u).cache := by
  unfold State.retireUnit
  dsimp only
  split <;> simp only [hu, hc, and_self]

theorem loseRecords_eq_retire (l : List UnitRecord) : ∀ s t : State, t.units = s.units → t.cache = s.cache →
    (l.foldl State.loseRecord t).units = (l.foldl State.retireUnit s).units
      ∧ (l.foldl State.loseRecord t).cache = (l.foldl State.retireUnit s).cache := by
  induction l with
  | nil => exact fun _ _ hu hc => ⟨hu, hc⟩
  | cons u l ih =>
    intro s t hu hc
    obtain ⟨h1, h2⟩ := retire_congr (s := s) (t := (t.count .unitsLost).noticeUnit u.position unitLostCode u.identity)
      (by simpa using hu) (by simpa using hc) u
    exact ih _ _ h1 h2

/-- The records from a position on leave the Unit Table; the complete ones stand in the cache, the nearest most recent (R58, R88). -/
theorem State.loseRecords {s : State} (k : Nat) (hc : s.cache.length ≤ Config.cacheRecords) :
    ((s.unitsFrom k).foldl State.loseRecord s).units = s.units.filter (fun v => decide (v.position < k))
      ∧ ((s.unitsFrom k).foldl State.loseRecord s).cache
          = (((s.units.filter fun v => decide (k ≤ v.position) && v.complete).map UnitRecord.toCache) ++ s.cache).take 4 := by
  obtain ⟨h1, h2⟩ := loseRecords_eq_retire (s.unitsFrom k) s s rfl rfl
  obtain ⟨h3, h4⟩ := retire_fold (s.unitsFrom k) s hc
  rewrite [h1, h2, h3, h4]
  constructor
  · refine List.filter_congr fun v hv => ?_
    rewrite [Bool.eq_iff_iff, List.all_eq_true, decide_eq_true_eq]
    refine ⟨fun h => Nat.lt_of_not_le fun hk => ?_, fun h u hu => ?_⟩
    · have := h v (by simp [State.unitsFrom, hv, hk])
      simp at this
    · simp only [State.unitsFrom, List.mem_reverse, List.mem_filter, decide_eq_true_eq] at hu
      simp only [ne_eq, decide_not, Bool.not_eq_true', decide_eq_false_iff_not]
      omega
  · simp only [State.unitsFrom, List.reverse_reverse, List.filter_filter]
    simp only [Bool.and_comm]

/-- The UNIT notices of the records lost, the highest position first (R58). -/
theorem loseRecords_outbox (l : List UnitRecord) : ∀ s : State, (l.foldl State.loseRecord s).outbox
    = l.foldl (fun o v => o.unitNotice s v.position 5 v.identity) s.outbox := by
  induction l with
  | nil => exact fun _ => rfl
  | cons u l ih =>
    intro s
    have hone : (s.loseRecord u).outbox = s.outbox.unitNotice s u.position 5 u.identity := by
      refine (State.outbox_of_same (s := (s.count .unitsLost).noticeUnit u.position unitLostCode u.identity) (by simp [State.loseRecord])
        (by simp [State.loseRecord]) (by simp [State.loseRecord])).trans ?_
      rewrite [State.noticeUnit_outbox]
      exact Outbox.unitNotice_settings rfl _ _ _ _
    rewrite [List.foldl_cons, List.foldl_cons, ih, hone]
    simp only [Outbox.unitNotice_settings (s := s) (t := s.loseRecord u) (by simp)]

/-- Each record lost is counted (R58). -/
theorem loseRecords_tallies (l : List UnitRecord) : ∀ s : State, (l.foldl State.loseRecord s).tallies
    = { s.tallies with unitsLost := (bumped^[l.length]) s.tallies.unitsLost } := by
  induction l with
  | nil => exact fun _ => rfl
  | cons u l ih =>
    intro s
    have hone : (s.loseRecord u).tallies = { s.tallies with unitsLost := bumped s.tallies.unitsLost } := by
      refine (show (s.loseRecord u).tallies = (s.count .unitsLost).tallies by simp [State.loseRecord]).trans ?_
      rfl
    rw [List.foldl_cons, ih, hone, List.length_cons, Function.iterate_succ_apply]

/-! ### The loss as a whole -/

/-- The state after a loss, before its PROBE is offered (R58, R59). -/
def State.bereft (s : State) (k : Nat) (failed : Option Transaction) : State :=
  let t := ((s.discardWork k failed).withdrawStep k).endClaims (fun c => k ≤ c.position) .unitLost
  ((((t.unitsFrom k).foldl State.loseRecord t).walkerAfterLoss k).setChainFull false).refreshUnsettled

theorem State.loseUnits_eq (s : State) (k : Nat) (failed : Option Transaction) :
    s.loseUnits k failed = (s.bereft k failed).probeAfterLoss := rfl

/-- The walker once a step to a lost position is withdrawn (R40). -/
def Walker.withdrawn (w : Walker) (k : Nat) : Walker :=
  match w.offered with
  | some step => if k ≤ step.target then { w with offered := none, owed := none } else w
  | none => w

theorem State.withdrawStep_walker (s : State) (k : Nat) : (s.withdrawStep k).walker = s.walker.withdrawn k := by
  unfold State.withdrawStep Walker.withdrawn
  cases s.walker.offered with
  | none => rfl
  | some step =>
    dsimp only
    split <;> rfl

section
variable (s : State) (k : Nat) (failed : Option Transaction)

/-- The state in which the records are lost: work, step and claims are gone (R58, steps 1 and 2). -/
def State.orphaned : State :=
  ((s.discardWork k failed).withdrawStep k).endClaims (fun c => k ≤ c.position) .unitLost

theorem State.bereft_eq : s.bereft k failed =
    (((((s.orphaned k failed).unitsFrom k).foldl State.loseRecord (s.orphaned k failed)).walkerAfterLoss k).setChainFull
      false).refreshUnsettled := rfl

@[simp] theorem State.orphaned_units : (s.orphaned k failed).units = s.units := by simp [State.orphaned]
@[simp] theorem State.orphaned_cache : (s.orphaned k failed).cache = s.cache := by simp [State.orphaned]
@[simp] theorem State.orphaned_comb : (s.orphaned k failed).comb = s.comb := by simp [State.orphaned]
@[simp] theorem State.orphaned_now : (s.orphaned k failed).now = s.now := by simp [State.orphaned]
@[simp] theorem State.orphaned_sense : (s.orphaned k failed).sense = s.sense := by simp [State.orphaned]
@[simp] theorem State.orphaned_lamps : (s.orphaned k failed).lamps = s.lamps := by simp [State.orphaned]
@[simp] theorem State.orphaned_flash : (s.orphaned k failed).flash = s.flash := by simp [State.orphaned]
@[simp] theorem State.orphaned_settings : (s.orphaned k failed).settings = s.settings := by simp [State.orphaned]
@[simp] theorem State.orphaned_setup : (s.orphaned k failed).setup = s.setup := by simp [State.orphaned]
@[simp] theorem State.orphaned_pending : (s.orphaned k failed).pending = s.pending := by simp [State.orphaned]
@[simp] theorem State.orphaned_inlets : (s.orphaned k failed).inlets = s.inlets := by simp [State.orphaned]
@[simp] theorem State.orphaned_tallies : (s.orphaned k failed).tallies = s.tallies := by simp [State.orphaned]

theorem State.orphaned_walker : (s.orphaned k failed).walker = s.walker.withdrawn k := by
  simp [State.orphaned, State.withdrawStep_walker]

theorem State.endClaims_claims (ends : Claim → Bool) (r : EndReason) :
    (s.endClaims ends r).claims = s.claims.filter fun c => !ends c :=
  foldl_keeps (fun t => State.claims t) _ (fun t c => t.noticeClaimEnd_claims c r) _ _

theorem State.discardWork_line : (s.discardWork k failed).line = { s.line with
    urgent := s.line.urgent.filter fun e => decide (e.position < k)
    access := s.line.access.filter fun e => decide (e.position < k) } := by
  unfold State.discardWork
  dsimp only
  exact foldl_keeps (fun t => State.line t) _ (fun t r => t.deferResponse_line r) _ _

theorem State.orphaned_line : (s.orphaned k failed).line = { s.line with
    urgent := s.line.urgent.filter fun e => decide (e.position < k)
    access := s.line.access.filter fun e => decide (e.position < k) } := by
  have h : (s.orphaned k failed).line = (s.discardWork k failed).line := by simp [State.orphaned]
  rw [h, State.discardWork_line]

theorem State.orphaned_claims : (s.orphaned k failed).claims = s.claims.filter fun c => decide (c.position < k) := by
  have h : ((s.discardWork k failed).withdrawStep k).claims = s.claims := by simp
  rewrite [State.orphaned, State.endClaims_claims, h]
  exact List.filter_congr fun c _ => by rw [← decide_not, decide_eq_decide, Nat.not_le]

theorem State.orphaned_outbox : (s.orphaned k failed).outbox
    = (s.outbox.respondAll s (s.workLost k failed)).endClaims s 3 (s.claims.filter fun c => decide (k ≤ c.position)) := by
  have hw : ((s.discardWork k failed).withdrawStep k).outbox = (s.discardWork k failed).outbox :=
    State.outbox_of_same (by simp) (by simp) (by simp)
  have hc : ((s.discardWork k failed).withdrawStep k).claims = s.claims := by simp
  rewrite [State.orphaned, State.endClaims_outbox, hw, State.discardWork_outbox, hc]
  exact Outbox.endClaims_settings (by simp) _ _ _

/-- What the records' fold leaves alone. -/
theorem State.bereft_field {γ : Type} (p : State → γ) (hl : ∀ (t : State) (u : UnitRecord), p (t.loseRecord u) = p t)
    (hw : ∀ t : State, p ((t.walkerAfterLoss k).setChainFull false).refreshUnsettled = p t) :
    p (s.bereft k failed) = p (s.orphaned k failed) := by
  rewrite [State.bereft_eq, hw]
  exact foldl_keeps p _ hl _ _

theorem State.bereft_claims : (s.bereft k failed).claims = s.claims.filter fun c => decide (c.position < k) :=
  (s.bereft_field k failed State.claims State.loseRecord_claims fun _ => rfl).trans (s.orphaned_claims k failed)

theorem State.bereft_line : (s.bereft k failed).line = { s.line with
    urgent := s.line.urgent.filter fun e => decide (e.position < k)
    access := s.line.access.filter fun e => decide (e.position < k) } :=
  (s.bereft_field k failed State.line State.loseRecord_line fun _ => rfl).trans (s.orphaned_line k failed)

theorem State.bereft_now : (s.bereft k failed).now = s.now :=
  (s.bereft_field k failed State.now State.loseRecord_now fun _ => rfl).trans (s.orphaned_now k failed)

theorem State.bereft_units (hc : s.cache.length ≤ Config.cacheRecords) :
    (s.bereft k failed).units = s.units.filter fun v => decide (v.position < k) := by
  have h := State.loseRecords (s := s.orphaned k failed) k (by simpa using hc)
  rewrite [State.orphaned_units] at h
  rewrite [State.bereft_eq]
  generalize List.foldl State.loseRecord (s.orphaned k failed) ((s.orphaned k failed).unitsFrom k) = d at h ⊢
  exact h.1

theorem State.bereft_cache (hc : s.cache.length ≤ Config.cacheRecords) : (s.bereft k failed).cache
    = (((s.units.filter fun v => decide (k ≤ v.position) && v.complete).map UnitRecord.toCache) ++ s.cache).take 4 := by
  have h := State.loseRecords (s := s.orphaned k failed) k (by simpa using hc)
  rewrite [State.orphaned_units, State.orphaned_cache] at h
  rewrite [State.bereft_eq]
  generalize List.foldl State.loseRecord (s.orphaned k failed) ((s.orphaned k failed).unitsFrom k) = d at h ⊢
  exact h.2

theorem State.bereft_comb (hc : s.cache.length ≤ Config.cacheRecords) : (s.bereft k failed).comb = { s.comb with
    chainFull := false, unsettled := (s.units.filter fun v => decide (v.position < k)).any UnitRecord.unsettles } := by
  have hu := s.bereft_units k failed hc
  have hf : (((s.orphaned k failed).unitsFrom k).foldl State.loseRecord (s.orphaned k failed)).comb = s.comb :=
    (foldl_keeps State.comb _ State.loseRecord_comb _ _).trans (s.orphaned_comb k failed)
  rewrite [← hu, State.bereft_eq]
  simp only [State.refreshUnsettled, State.setChainFull, State.walkerAfterLoss, State.modifyWalker, hf]

theorem State.bereft_walker : (s.bereft k failed).walker = { s.walker.withdrawn k with
    pointer := k, lampReports := positionsBelow (s.walker.withdrawn k).lampReports k
    lampFaultSeen := positionsBelow (s.walker.withdrawn k).lampFaultSeen k, rearSeen := false, presenceList := 0 } := by
  have hf : (((s.orphaned k failed).unitsFrom k).foldl State.loseRecord (s.orphaned k failed)).walker = s.walker.withdrawn k :=
    (foldl_keeps State.walker _ State.loseRecord_walker _ _).trans (s.orphaned_walker k failed)
  rewrite [State.bereft_eq, ← hf]
  rfl

theorem State.bereft_outbox : (s.bereft k failed).outbox = (s.units.filter fun v => decide (k ≤ v.position)).reverse.foldl
    (fun o v => o.unitNotice s v.position 5 v.identity)
    ((s.outbox.respondAll s (s.workLost k failed)).endClaims s 3 (s.claims.filter fun c => decide (k ≤ c.position))) := by
  have hw (t : State) : ((t.walkerAfterLoss k).setChainFull false).refreshUnsettled.outbox = t.outbox := rfl
  rewrite [State.bereft_eq, hw, loseRecords_outbox, State.orphaned_outbox, State.unitsFrom, State.orphaned_units]
  simp only [Outbox.unitNotice_settings (s := s) (t := s.orphaned k failed) (by simp)]

theorem State.bereft_tallies : (s.bereft k failed).tallies = { s.tallies with
    unitsLost := (bumped^[(s.units.filter fun v => decide (k ≤ v.position)).length]) s.tallies.unitsLost } := by
  have hw (t : State) : ((t.walkerAfterLoss k).setChainFull false).refreshUnsettled.tallies = t.tallies := rfl
  rw [State.bereft_eq, hw, loseRecords_tallies, State.orphaned_tallies, State.unitsFrom, State.orphaned_units, List.length_reverse]

theorem State.bereft_keeps : Keeps [.sense, .lamps, .flash, .slots, .settings, .setup, .portIn, .pending] s (s.bereft k failed) := by
  have hf {γ : Type} (p : State → γ) (hl : ∀ (t : State) (u : UnitRecord), p (t.loseRecord u) = p t)
      (hw : ∀ t : State, p ((t.walkerAfterLoss k).setChainFull false).refreshUnsettled = p t)
      (ho : p (s.orphaned k failed) = p s) : p (s.bereft k failed) = p s := (s.bereft_field k failed p hl hw).trans ho
  have hi := hf State.inlets State.loseRecord_inlets (fun _ => rfl) (by simp)
  exact keeps_cons (hf State.sense State.loseRecord_sense (fun _ => rfl) (by simp))
    (keeps_cons (hf State.lamps State.loseRecord_lamps (fun _ => rfl) (by simp))
    (keeps_cons (hf State.flash State.loseRecord_flash (fun _ => rfl) (by simp))
    (keeps_cons (slots_same hi) (keeps_cons (hf State.settings State.loseRecord_settings (fun _ => rfl) (by simp))
    (keeps_cons (hf State.setup State.loseRecord_setup (fun _ => rfl) (by simp)) (keeps_cons (portIn_same hi)
    (keeps_cons (hf State.pending State.loseRecord_pending (fun _ => rfl) (by simp)) (keeps_nil _ _))))))))
end

end Sys2Proof.Machine
end

section
/-! PROOFS. The PROBE that follows a loss (R59), and the loss at the last failed attempt: O14. -/
namespace Sys2Proof.Machine

/-! ### Only the walker moves -/

theorem State.offerNext_walkerOnly (s : State) : s.offerNext = { s with walker := s.offerNext.walker } := by
  unfold State.offerNext
  repeat' split
  all_goals rfl

theorem State.probeAfterLoss_walkerOnly (s : State) : s.probeAfterLoss = { s with walker := s.probeAfterLoss.walker } := by
  unfold State.probeAfterLoss
  split
  · rewrite [State.offerNext_walkerOnly]
    rfl
  · split <;> rfl

/-- With the mark set an IDLE walk in SERVING offers something (R45, R54). -/
theorem IdleOffers.offers {w v : Walker} (h : IdleOffers w v) (hd : w.extDue = true) : ∃ step, v.offered = some step := by
  cases ho : w.offered with
  | some step => exact ⟨step, (h.stays (by simp [ho])).trans ho⟩
  | none =>
    obtain ⟨hn, -⟩ | ⟨p, hp, -⟩ := w.report_cases
    · exact ⟨.probe, by rw [h.probe ho hn, hd, if_pos rfl]⟩
    · exact ⟨_, h.report ho p hp⟩

/-- In SERVING with the walk IDLE the mark is set, and brings the PROBE in the order of R45 (R59, log entry 13). -/
theorem State.probeAfterLoss_idle {s : State} (hs : s.comb.state = .serving) (ha : s.walker.active = false)
    (htx : s.line.tx = none) : IdleOffers { s.walker with extDue := true } s.probeAfterLoss.offerNext.walker
      ∧ s.probeAfterLoss.offerNext.walker
        = { s.walker with extDue := true, offered := s.probeAfterLoss.offerNext.walker.offered } := by
  have hm : s.probeAfterLoss = (s.modifyWalker fun w => { w with extDue := true }).offerNext := by
    simp [State.probeAfterLoss, hs, ha]
  have hf : (s.modifyWalker fun w => { w with extDue := true }).reportInFlight = false := by
    simp [State.reportInFlight, State.modifyWalker, htx]
  obtain ⟨hi, he⟩ := State.offerNext_idleOffers (s := s.modifyWalker fun w => { w with extDue := true }) hs ha hf
  obtain ⟨step, ho⟩ := hi.offers rfl
  rewrite [hm, State.offerNext_offered ho]
  exact ⟨hi, congrArg State.walker he⟩

/-- Else the PROBE is offered, or waits behind a LAMP-REPORT, or an offered walk step stays (R59). -/
theorem State.probeAfterLoss_walking {s : State} (h : ¬ (s.comb.state = .serving ∧ s.walker.active = false)) :
    (s.walker.offered = none → s.probeAfterLoss.offerNext.walker = { s.walker with offered := some .probe })
    ∧ (∀ p, s.walker.offered = some (.lampReport p) → s.probeAfterLoss.offerNext.walker = { s.walker with owed := some .probe })
    ∧ (∀ step, s.walker.offered = some step → step.isReport = false → s.probeAfterLoss.offerNext.walker = s.walker) := by
  have hm : s.probeAfterLoss = match s.walker.offered with
      | none | some (.lampReport _) => s.offer .probe
      | some _ => s := if_neg h
  refine ⟨fun ho => ?_, fun p ho => ?_, fun step ho hr => ?_⟩
  · have hp : s.probeAfterLoss = s.offer .probe := by rw [hm, ho]
    have hw : (s.offer .probe).walker = { s.walker with offered := some .probe } := Walker.offer_of_none ho _
    rw [hp, State.offerNext_offered (step := .probe) (by rw [hw]), hw]
  · have hp : s.probeAfterLoss = s.offer .probe := by rw [hm, ho]
    have hw : (s.offer .probe).walker = { s.walker with owed := some .probe } := Walker.offer_of_report ho _
    rw [hp, State.offerNext_offered (step := .lampReport p) (by rw [hw]; exact ho), hw]
  · have hp : s.probeAfterLoss = s := by
      rewrite [hm, ho]
      cases step <;> first | rfl | cases hr
    rw [hp, State.offerNext_offered ho]

/-- What the PROBE that follows a loss makes of the walker `w` (R59): `idle` in SERVING with the walk IDLE. -/
structure ProbeFollows (w v : Walker) (idle : Prop) : Prop where
  rest : v = { w with extDue := v.extDue, offered := v.offered, owed := v.owed }
  marked : idle → v.extDue = true ∧ v.owed = w.owed ∧ IdleOffers { w with extDue := true } v
  unmarked : ¬ idle → v.extDue = w.extDue
  none : ¬ idle → w.offered = none → v.offered = some .probe ∧ v.owed = w.owed
  behind : ¬ idle → ∀ p, w.offered = some (.lampReport p) → v.offered = w.offered ∧ v.owed = some .probe
  stays : ¬ idle → ∀ step, w.offered = some step → step.isReport = false → v.offered = w.offered ∧ v.owed = w.owed

theorem State.probeAfterLoss_follows {s : State} (htx : s.line.tx = none) :
    ProbeFollows s.walker s.probeAfterLoss.offerNext.walker (s.comb.state = .serving ∧ s.walker.active = false) := by
  by_cases hi : s.comb.state = .serving ∧ s.walker.active = false
  · obtain ⟨ho, he⟩ := State.probeAfterLoss_idle hi.1 hi.2 htx
    generalize s.probeAfterLoss.offerNext.walker = v at *
    exact ⟨by rw [he], fun _ => ⟨by rw [he], by rw [he], ho⟩, fun h => absurd hi h, fun h => absurd hi h, fun h => absurd hi h,
      fun h => absurd hi h⟩
  · obtain ⟨h1, h2, h3⟩ := State.probeAfterLoss_walking hi
    generalize s.probeAfterLoss.offerNext.walker = v at *
    have hv : v = { s.walker with offered := some .probe } ∨ v = { s.walker with owed := some .probe } ∨ v = s.walker := by
      cases ho : s.walker.offered with
      | none => exact .inl (h1 ho)
      | some step =>
        cases hr : step.isReport with
        | false => exact .inr (.inr (h3 step ho hr))
        | true =>
          cases step <;> first | exact .inr (.inl (h2 _ ho)) | cases hr
    refine ⟨?_, fun h => absurd h hi, fun _ => ?_, fun _ ho => ?_, fun _ p ho => ?_, fun _ step ho hr => ?_⟩
    · obtain rfl | rfl | rfl := hv <;> rfl
    · obtain rfl | rfl | rfl := hv <;> rfl
    · rewrite [h1 ho]
      exact ⟨rfl, rfl⟩
    · rewrite [h2 p ho]
      exact ⟨rfl, rfl⟩
    · rewrite [h3 step ho hr]
      exact ⟨rfl, rfl⟩

theorem State.probeAfterLoss_offerNext (s : State) :
    s.probeAfterLoss.offerNext = { s with walker := s.probeAfterLoss.offerNext.walker } := by
  have h {t : State} {x y : Walker} (h : t = { s with walker := x }) : { t with walker := y } = { s with walker := y } := by
    rw [h]
  exact (State.offerNext_walkerOnly _).trans (h s.probeAfterLoss_walkerOnly)

/-! ### A step to a lost position (R40) -/

theorem Walker.withdrawn_rest (w : Walker) (k : Nat) : w.withdrawn k = { w with
    offered := (w.withdrawn k).offered, owed := (w.withdrawn k).owed } := by
  unfold Walker.withdrawn
  repeat' split
  all_goals rfl

theorem Walker.withdrawn_lost {w : Walker} {k : Nat} (howed : w.owed ≠ none → ∃ p, w.offered = some (.lampReport p))
    (h : ∀ step, w.offered = some step → k ≤ step.target) : (w.withdrawn k).offered = none ∧ (w.withdrawn k).owed = none := by
  unfold Walker.withdrawn
  cases ho : w.offered with
  | none =>
    refine ⟨ho, ?_⟩
    by_contra hne
    obtain ⟨p, hp⟩ := howed hne
    rewrite [ho] at hp
    cases hp
  | some step =>
    dsimp only
    rewrite [if_pos (h step ho)]
    exact ⟨rfl, rfl⟩

theorem Walker.withdrawn_stays {w : Walker} {k : Nat} {step : Step} (ho : w.offered = some step) (h : step.target < k) :
    w.withdrawn k = w := by
  unfold Walker.withdrawn
  rewrite [ho]
  exact if_neg (by omega)

/-- A call to a placed unit that has failed loses it and the units behind it (R57). -/
theorem State.failedTransaction_placed (s : State) {t : Transaction} (h : 1 ≤ t.target) : s.failedTransaction t
    = (((s.setTx none).count .transactionsFailed).loseUnits t.target (some t)).offerNext := by
  rw [State.failedTransaction, if_pos h]

/-- The counters that a failed attempt leaves count no transaction and no unit. -/
theorem AttemptFails.counters_eq {s : State} {t : Transaction} {c : Instr} {now : Nat} {counters : Counters}
    (h : AttemptFails s t c now counters) : counters = { s.counters with
      noAnswers := counters.noAnswers, shortAnswers := counters.shortAnswers, checkErrors := counters.checkErrors } := by
  cases h <;> rfl

/-- Settles O14 by the fields of a loss and the PROBE that follows it. -/
theorem lastFailureLosesUnits : Obligations.LastFailureLosesUnits := by
  intro s t c now counters hr ht hf h1 hlast hwork hcache howed
  have hcount := hf.counters_eq
  have he := exec_attemptFails hr ht hf
  have hends : (s.failing now counters).attemptEnds t = (((((s.failing now counters).setTx none).count .transactionsFailed).bereft
      t.target (some t)).probeAfterLoss).offerNext := by
    have hn : ¬ t.attempts < 1 + (s.failing now counters).setting .retryLimit := by
      change ¬ t.attempts < 1 + s.settings.retryLimit.toNat
      omega
    rw [State.attemptEnds, if_neg hn, State.failedTransaction_placed _ h1, State.loseUnits_eq]
  rewrite [hends] at he
  have hclaims := (((s.failing now counters).setTx none).count .transactionsFailed).bereft_claims t.target (some t)
  have hline := (((s.failing now counters).setTx none).count .transactionsFailed).bereft_line t.target (some t)
  have hnow := (((s.failing now counters).setTx none).count .transactionsFailed).bereft_now t.target (some t)
  have hunits := (((s.failing now counters).setTx none).count .transactionsFailed).bereft_units t.target (some t) hcache
  have hcach := (((s.failing now counters).setTx none).count .transactionsFailed).bereft_cache t.target (some t) hcache
  have hcomb := (((s.failing now counters).setTx none).count .transactionsFailed).bereft_comb t.target (some t) hcache
  have hwalker := (((s.failing now counters).setTx none).count .transactionsFailed).bereft_walker t.target (some t)
  have hout := (((s.failing now counters).setTx none).count .transactionsFailed).bereft_outbox t.target (some t)
  have htall := (((s.failing now counters).setTx none).count .transactionsFailed).bereft_tallies t.target (some t)
  have hkeep : Keeps [.sense, .lamps, .flash, .slots, .settings, .setup, .portIn, .pending] s
      ((((s.failing now counters).setTx none).count .transactionsFailed).bereft t.target (some t)) :=
    Keeps.trans (by
      refine Keeps.sub (keeps_cons (p := .sense) rfl (keeps_cons (p := .lamps) rfl (keeps_cons (p := .flash) rfl
        (keeps_still rfl rfl rfl rfl rfl)))) ?_
      decide) ((((s.failing now counters).setTx none).count .transactionsFailed).bereft_keeps t.target (some t))
  have hset : (((s.failing now counters).setTx none).count .transactionsFailed).settings = s.settings := rfl
  have hob : (((s.failing now counters).setTx none).count .transactionsFailed).outbox = s.outbox := by
    have hd : ((((s.failing now counters).setTx none).count .transactionsFailed).counters).noticesDropped
        = s.counters.noticesDropped := (congrArg (·.noticesDropped) hcount : counters.noticesDropped = _)
    rewrite [State.outbox, hd]
    rfl
  simp only [Outbox.unitNotice_settings hset, Outbox.respondAll_settings hset, Outbox.endClaims_settings hset, hob] at hout
  generalize (((s.failing now counters).setTx none).count .transactionsFailed).bereft t.target (some t) = b at *
  have htx : b.line.tx = none := by rw [hline]; rfl
  have hfollow := State.probeAfterLoss_follows htx
  rewrite [State.probeAfterLoss_offerNext] at he
  generalize b.probeAfterLoss.offerNext.walker = v at *
  have hstate : b.comb.state = s.comb.state := by rw [hcomb]; rfl
  have hw : b.walker = { s.walker with
      pointer := t.target, lampReports := positionsBelow s.walker.lampReports t.target
      lampFaultSeen := positionsBelow s.walker.lampFaultSeen t.target, rearSeen := false, presenceList := 0
      offered := b.walker.offered, owed := b.walker.owed } := by
    have hr : b.walker = { s.walker.withdrawn t.target with
        pointer := t.target, lampReports := positionsBelow (s.walker.withdrawn t.target).lampReports t.target
        lampFaultSeen := positionsBelow (s.walker.withdrawn t.target).lampFaultSeen t.target, rearSeen := false
        presenceList := 0 } := hwalker
    rw [hr, s.walker.withdrawn_rest]
  have hlost (h : ∀ step, s.walker.offered = some step → t.target ≤ step.target) :
      b.walker.offered = none ∧ b.walker.owed = none := by
    rewrite [hwalker]
    exact Walker.withdrawn_lost howed h
  have hstays (step : Step) (ho : s.walker.offered = some step) (h : step.target < t.target) :
      b.walker.offered = some step ∧ b.walker.owed = s.walker.owed := by
    have hwd : s.walker.withdrawn t.target = s.walker := Walker.withdrawn_stays ho h
    have hr : b.walker = { s.walker.withdrawn t.target with
        pointer := t.target, lampReports := positionsBelow (s.walker.withdrawn t.target).lampReports t.target
        lampFaultSeen := positionsBelow (s.walker.withdrawn t.target).lampFaultSeen t.target, rearSeen := false
        presenceList := 0 } := hwalker
    rewrite [hr]
    dsimp only
    rewrite [hwd]
    exact ⟨ho, rfl⟩
  have hidle : (b.comb.state = .serving ∧ b.walker.active = false) ↔ (s.walker.active = false ∧ s.comb.state = .serving) := by
    rewrite [hstate, hw]
    exact And.comm
  have hv : v = { s.walker with
      pointer := t.target, lampReports := positionsBelow s.walker.lampReports t.target
      lampFaultSeen := positionsBelow s.walker.lampFaultSeen t.target, rearSeen := false, presenceList := 0
      extDue := v.extDue, offered := v.offered, owed := v.owed } := by
    have h := hfollow.rest
    rewrite [hw] at h
    exact h
  refine ⟨State.retimePark (State.retimeAttach { b with walker := v }), ?_, hnow, hunits, hcach, hclaims, hout, ?_, ?_, ?_⟩
  · rewrite [he, State.announce_eq_ite]
    have hiff : State.combSummary (State.retimePark (State.retimeAttach { b with walker := v })) = s.combSummary
        ↔ s.comb.chainFull = false ∧ b.comb.unsettled = s.comb.unsettled := by
      rewrite [State.combSummary_eq_iff]
      change b.comb.state = _ ∧ b.comb.unsettled = _ ∧ b.comb.chainFull = _ ∧ b.comb.identityClash = _ ∧ b.comb.passiveLoad = _ ↔ _
      rewrite [hcomb]
      exact ⟨fun ⟨_, h2, h3, _, _⟩ => ⟨h3.symm, h2⟩, fun ⟨h3, h2⟩ => ⟨rfl, h2, h3.symm, rfl, rfl⟩⟩
    exact congrArg Host.Outcome.next (if_congr hiff rfl rfl)
  · rewrite [show (State.retimePark (State.retimeAttach { b with walker := v })).line = b.line from rfl, hline]
    exact congrArg (fun n => { s.line with
          tx := none, gapSince := some n
          urgent := s.line.urgent.filter fun e => decide (e.position < t.target)
          access := s.line.access.filter fun e => decide (e.position < t.target) }) hnow.symm
  · rewrite [State.retimed_comb]
    have hb : ({ b with walker := v } : State).comb = b.comb := rfl
    rewrite [hb, hcomb]
    rfl
  · have hp : v.pointer = t.target := by rw [hv]
    have ha : v.active = s.walker.active := by rw [hv]
    have hsince : v.extSince = s.walker.extSince := by rw [hv]
    have hrear : v.rearSeen = false := by rw [hv]
    have hlist : v.presenceList = 0 := by rw [hv]
    have hreports : v.lampReports = positionsBelow s.walker.lampReports t.target := by rw [hv]
    have hseen : v.lampFaultSeen = positionsBelow s.walker.lampFaultSeen t.target := by rw [hv]
    have hact : b.walker.active = s.walker.active := by rw [hw]
    have hdue : b.walker.extDue = s.walker.extDue := by rw [hw]
    have hset : v.lampReports = b.walker.lampReports := by rw [hv, hw]
    have hnot (h : s.walker.active = true ∨ s.comb.state = .building) : ¬ (b.comb.state = .serving ∧ b.walker.active = false) := by
      rewrite [hstate, hact]
      obtain h | h := h <;> simp [h]
    refine ⟨hp, ha, hsince, hrear, hlist, fun q => ⟨?_, ?_⟩, fun step ho hlt => ?_, fun h => ?_, fun h => ?_, fun h1 h2 => ?_, ?_, ?_⟩
    · exact (congrArg (inPositionSet · q) hreports).trans (inPositionSet_positionsBelow _ h1 q)
    · exact (congrArg (inPositionSet · q) hseen).trans (inPositionSet_positionsBelow _ h1 q)
    · obtain ⟨hbo, hbw⟩ := hstays step ho hlt
      by_cases hi : s.walker.active = false ∧ s.comb.state = .serving
      · obtain ⟨-, h2, h3⟩ := hfollow.marked (hidle.2 hi)
        exact ⟨(h3.stays (by simp [hbo])).trans hbo, by rw [if_pos hi]; exact h2.trans hbw⟩
      · have hi' := fun h => hi (hidle.1 h)
        rewrite [if_neg hi]
        cases hrep : step.isReport with
        | true =>
          cases step with
          | lampReport p =>
            obtain ⟨h2, h3⟩ := hfollow.behind hi' p hbo
            exact ⟨h2.trans hbo, h3⟩
          | probe | place _ _ _ _ | listOpen _ | loadRead _ _ | listEntry _ _ | bridge _ => cases hrep
        | false =>
          obtain ⟨h2, h3⟩ := hfollow.stays hi' step hbo hrep
          refine ⟨h2.trans hbo, (h3.trans hbw).trans ?_⟩
          by_contra hne
          obtain ⟨p, hp⟩ := howed hne
          rewrite [ho] at hp
          cases hp
          cases hrep
    · obtain ⟨hbo, hbw⟩ := hlost h
      by_cases hi : b.comb.state = .serving ∧ b.walker.active = false
      · exact (hfollow.marked hi).2.1.trans hbw
      · exact (hfollow.none hi hbo).2.trans hbw
    · exact ⟨(hfollow.unmarked (hnot h)).trans hdue, fun hl => (hfollow.none (hnot h) (hlost hl).1).1⟩
    · obtain ⟨hx, -, hoffers⟩ := hfollow.marked (hidle.2 ⟨h1, h2⟩)
      refine ⟨hx, fun hl => ⟨fun hn => ?_, fun p ⟨hp1, hp2, hp3⟩ => hoffers.report (hlost hl).1 p ?_⟩⟩
      · refine hoffers.probe (hlost hl).1 fun p hp => ?_
        rewrite [← hset]
        exact hn p hp
      · rewrite [LowestReport, ← hset]
        exact ⟨hp1, hp2, hp3⟩
    · have hb : b.counters = { counters with
          transactionsFailed := bumped counters.transactionsFailed
          unitsLost := (bumped^[(s.units.filter fun v => decide (t.target ≤ v.position)).length]) counters.unitsLost
          noticesDropped := b.counters.noticesDropped } :=
        congrArg (fun c : Counters => { c with noticesDropped := b.counters.noticesDropped }) htall
      have hfailed : counters.transactionsFailed = s.counters.transactionsFailed := by rw [hcount]
      have hul : counters.unitsLost = s.counters.unitsLost := by rw [hcount]
      rewrite [hfailed, hul] at hb
      exact hb
    · refine hkeep.trans (Keeps.retimed (Keeps.sub (keeps_cons (p := .sense) rfl (keeps_cons (p := .lamps) rfl
        (keeps_cons (p := .flash) rfl (keeps_still rfl rfl rfl rfl rfl)))) ?_))
      decide

end Sys2Proof.Machine
end

section
/-! PROOFS. The next work on a free line (R33, R45, R54, R56): O16 and O17. -/
namespace Sys2Proof.Machine

theorem comb_same {s t : State} (h : t.comb = s.comb) : Part.comb.same s t := by
  rw [Part.same, h]

theorem State.lineWork_keeps (s : State) : Keeps [.now, .comb, .sense, .cache, .lamps, .flash, .slots, .missed, .settings, .setup,
    .portIn, .portOut, .counters, .pending] s s.lineWork :=
  keeps_cons s.lineWork_now (keeps_cons (comb_same s.lineWork_comb) (keeps_cons s.lineWork_sense (keeps_cons s.lineWork_cache
    (keeps_cons s.lineWork_lamps (keeps_cons s.lineWork_flash (keeps_cons (slots_same s.lineWork_inlets)
    (keeps_cons (missed_same s.lineWork_slots) (keeps_cons s.lineWork_settings (keeps_cons s.lineWork_setup
    (keeps_cons (portIn_same s.lineWork_inlets) (keeps_cons (portOut_same s.lineWork_port) (keeps_cons s.lineWork_counters
    (keeps_cons s.lineWork_pending (keeps_nil _ _))))))))))))))

theorem State.offer_of_none {s : State} (h : s.walker.offered = none) (step : Step) :
    s.offer step = { s with walker := { s.walker with offered := some step } } := by
  rw [State.offer, State.modifyWalker, Walker.offer_of_none h]

/-! ### What is started, and what is offered beside it -/

/-- Beside a walk step that is started the LAMP-REPORT to the lowest position is offered (R45, log entry 27). -/
theorem Walker.started_step (w : Walker) {step : Step} (h : ∀ p, step ≠ .lampReport p) :
    (w.started step).lampReports = w.lampReports ∧ (w.started step).owed = w.owed ∧ ReportOffered (w.started step) := by
  have ho : (w.started step).offered = w.report ∧ (w.started step).lampReports = w.lampReports
      ∧ (w.started step).owed = w.owed := by
    cases step with
    | lampReport p => exact absurd rfl (h p)
    | probe =>
      unfold Walker.started
      dsimp only
      split <;> exact ⟨rfl, rfl, rfl⟩
    | place _ _ _ _ | listOpen _ | loadRead _ _ | listEntry _ _ | bridge _ => exact ⟨rfl, rfl, rfl⟩
  obtain ⟨h1, h2, h3⟩ := ho
  refine ⟨h2, h3, ⟨fun p hp => ?_, fun hn => ?_⟩⟩
  · rewrite [LowestReport, h2] at hp
    exact h1.trans (Walker.report_some hp)
  · rewrite [NoReport, h2] at hn
    exact h1.trans (Walker.report_none hn)

/-- A LAMP-REPORT that is started leaves the set, and the step behind it is offered (R56, R59). -/
theorem Walker.started_report (w : Walker) (p : Nat) : (w.started (.lampReport p)).offered = w.owed
    ∧ (w.started (.lampReport p)).owed = none
    ∧ ∀ q, inPositionSet (w.started (.lampReport p)).lampReports q = (inPositionSet w.lampReports q && decide (q ≠ p)) :=
  ⟨rfl, rfl, fun q => inPositionSet_writePosition_false _ p q⟩

theorem State.reportInFlight_eq_true {s : State} {t : Transaction} {p : Nat} (ht : s.line.tx = some t)
    (ho : t.originator = .bringUp (.lampReport p)) : s.reportInFlight = true := by
  obtain ⟨k, a, d, o, n, f⟩ := t
  obtain rfl : o = _ := ho
  simp [State.reportInFlight, ht]

theorem State.reportInFlight_eq_false {s : State}
    (h : ∀ t p, s.line.tx = some t → t.originator ≠ .bringUp (.lampReport p)) : s.reportInFlight = false := by
  unfold State.reportInFlight
  split
  · next heq => exact absurd rfl (h _ _ heq)
  · rfl

/-- The claim whose command is started has its entry in flight (R145). -/
theorem State.claimStarted_claimOn {s : State} {p i : Nat} {c : Claim} (h : s.claimOn p i = some c) :
    (s.claimStarted p i).claimOn p i = some { c with entry := some .inFlight } := by
  have hc := List.find?_some h
  simp only [Bool.and_eq_true, beq_iff_eq] at hc
  obtain ⟨rfl, rfl⟩ := hc
  have he : s.claimStarted c.position c.index = s.putClaim { c with entry := some .inFlight } := by
    simp only [State.claimStarted, h]
  rewrite [he, State.putClaim, State.claimOn, List.find?_map]
  have hp : ((fun d : Claim => d.position == c.position && d.index == c.index) ∘
      fun d : Claim => if d.position = c.position ∧ d.index = c.index then { c with entry := some .inFlight } else d)
      = fun d : Claim => d.position == c.position && d.index == c.index := by
    funext d
    simp only [Function.comp_apply]
    split
    · next hd => simp [hd]
    · rfl
  rewrite [hp]
  change (s.claimOn c.position c.index).map _ = _
  rewrite [h]
  simp

section
variable {s : State} (h : LineReady s)
include h

theorem LineReady.offerNext : LineReady s.offerNext := by
  rewrite [s.offerNext_walkerOnly]
  exact ⟨h.free, h.gap, h.working⟩

/-- Urgent work goes first, and the walker offers what it has (R33, R45). -/
theorem LineReady.work_urgent {e : UrgentEntry} {rest : List UrgentEntry} (hu : s.line.urgent = e :: rest) : s.lineWork
    = (State.claimStarted { s with walker := s.offerNext.walker, line := { s.line with urgent := rest } } e.position e.index).start
        (.urgent e) := by
  have hl : s.offerNext.line = s.line := by rw [s.offerNext_walkerOnly]
  rewrite [State.lineWork, h.offerNext.schedule_urgent (hl ▸ hu)]
  have he : ({ s.offerNext with line := { s.offerNext.line with urgent := rest } } : State)
      = { s with walker := s.offerNext.walker, line := { s.line with urgent := rest } } := by
    conv_lhs => rw [s.offerNext_walkerOnly]
  rw [he]

/-- Then the offered step (R33). -/
theorem LineReady.work_step (hu : s.line.urgent = []) {step : Step} (ho : s.walker.offered = some step) :
    s.lineWork = (s.modifyWalker fun w => w.started step).start (.bringUp step) := by
  rw [State.lineWork, State.offerNext_offered ho, h.schedule_step hu ho]

theorem LineReady.noReport : s.reportInFlight = false := by simp [State.reportInFlight, h.free]
end

theorem NothingOffered.offerNext {s : State} (hn : NothingOffered s) : s.offerNext = s :=
  State.offerNext_nothing (noReport_of_empty hn.reports) (.inr (.inl hn.extension))

/-- The first poll is an entry with a poll that falls due, and starts (R34). -/
theorem LineReady.work_poll {s : State} (h : LineReady s) (hu : s.line.urgent = []) (hn : NothingOffered s) (ha : s.line.access = [])
    {p i d : Nat} (hg : GoesFirst s p i d) : s.lineWork = (s.clearDue p i).start (.poll p i) := by
  rw [State.lineWork, hn.offerNext, h.schedule_poll hu hn.offered ha (State.firstPoll_of_goesFirst hg)]

/-- The next poll due of the entry that is polled becomes absent (R132). -/
theorem State.clearDue_nextDue {s : State} {p i : Nat} {f : FunctionEntry} {v : ValueRecord}
    (hf : (s.clearDue p i).entryAt p i = some f) (hv : f.value = some v) : v.nextDue = none := by
  rewrite [State.clearDue, State.entryAt_modifyEntry] at hf
  · obtain ⟨g, -, rfl⟩ := Option.map_eq_some_iff.mp hf
    obtain ⟨w, -, rfl⟩ := Option.map_eq_some_iff.mp hv
    rfl
  · exact fun _ => rfl

theorem State.clearDue_unitAt_ne (s : State) {p q : Nat} (h : q ≠ p) (i : Nat) : (s.clearDue p i).unitAt q = s.unitAt q :=
  State.unitAt_modifyEntry_ne s h i _

/-- With no retry owed the end of the gap frees the line (R25, R30). -/
theorem exec_resyncGapEnd_free {s : State} {since : Nat} (hr : s.comb.heldInReset = false) (hg : s.line.gapSince = some since)
    (ht : s.line.tx = none) : exec .resyncGapEnd s = .next (s.gapEnded since).lineWork := by
  dsimp only [exec, execResyncGapEnd]
  rewrite [powered_running hr]
  simp only [hg]
  change Host.Outcome.next (match s.line.tx with
    | some t => (s.gapEnded since).setTx (some { t with phase := .calling, attempts := t.attempts + 1 })
    | none => (s.gapEnded since).lineWork) = _
  rw [ht]

/-- Settles O16 by the scheduler's rules. -/
theorem resyncGapEndStartsNextWork : Obligations.ResyncGapEndStartsNextWork := by
  refine ⟨fun s since t hr hg ht => ?_, fun s since hr hg ht hw => ?_⟩
  · dsimp only [exec, execResyncGapEnd]
    rewrite [powered_running hr]
    simp only [hg]
    change Host.Outcome.next (match s.line.tx with
      | some t => (s.gapEnded since).setTx (some { t with phase := .calling, attempts := t.attempts + 1 })
      | none => (s.gapEnded since).lineWork) = _
    rewrite [ht]
    rfl
  · have he := exec_resyncGapEnd_free hr hg ht
    have hready : LineReady (s.gapEnded since) := ⟨ht, rfl, hw⟩
    have hnow := (s.gapEnded since).lineWork_now
    have hnothing (hn : NothingOffered s) : NothingOffered (s.gapEnded since) := ⟨hn.offered, hn.idle, hn.reports, hn.extension⟩
    refine ⟨_, he, hnow, fun e rest hu => ?_, fun step hu ho => ?_, fun a rest hu hn ha => ?_, fun p i d hu hn ha hf => ?_,
      fun hu hn ha hf => ?_, ?_⟩
    · rewrite [hready.work_urgent hu]
      refine ⟨State.claimStarted_units _ _ _, ?_, fun c hc => State.claimStarted_claimOn hc⟩
      rewrite [State.start, State.claimStarted_line]
      rfl
    · rewrite [hready.work_step hu ho]
      refine ⟨rfl, rfl, rfl, fun h => Walker.started_step _ h, fun p hp => ?_⟩
      rewrite [hp]
      exact Walker.started_report _ p
    · rewrite [State.lineWork, (hnothing hn).offerNext, hready.schedule_access hu hn.offered ha]
      refine ⟨rfl, rfl, rfl, ?_⟩
      obtain ⟨slot, sequence, position, parameter, kind⟩ := a
      cases kind <;> rfl
    · rewrite [hnow] at hf
      rewrite [hready.work_poll hu (hnothing hn) ha hf]
      exact ⟨rfl, rfl, fun q hq => (s.gapEnded since).clearDue_unitAt_ne hq i, fun f v => State.clearDue_nextDue⟩
    · rewrite [hnow] at hf ⊢
      rewrite [State.lineWork, (hnothing hn).offerNext, hready.schedule_nothing hu hn.offered ha (State.firstPoll_none hf)]
      rfl
    · have hk : Keeps [.comb, .sense, .cache, .lamps, .flash, .slots, .missed, .settings, .setup, .portIn, .portOut, .counters,
          .pending] (s.gapEnded since) (s.gapEnded since).lineWork :=
        (s.gapEnded since).lineWork_keeps.sub (by decide)
      refine Keeps.trans ?_ hk
      refine Keeps.sub (keeps_cons (p := .comb) rfl (keeps_cons (p := .sense) rfl (keeps_cons (p := .cache) rfl
        (keeps_cons (p := .lamps) rfl (keeps_cons (p := .flash) rfl (keeps_cons (p := .counters) rfl
        (keeps_still rfl rfl rfl rfl rfl))))))) ?_
      decide

/-! ### Polls and the extension timer (R34, R54) -/

theorem available_of_entryAt {s : State} {p i d : Nat} {f : FunctionEntry} {v : ValueRecord} (hs : s.servingAt p = true)
    (hf : s.entryAt p i = some f) (hv : f.value = some v) (hd : v.nextDue = some d) (hle : d ≤ s.now) : Available s p i d := by
  obtain ⟨u, hu, he⟩ := Option.bind_eq_some_iff.mp hf
  have hp := List.find?_some hu
  have hi := List.find?_some he
  simp only [State.servingAt, hu, beq_iff_eq] at hs hp hi
  exact ⟨u, List.mem_of_find?_eq_some hu, hs, hp, hle, f, List.mem_of_find?_eq_some he, hi, v, hv, hd⟩

/-- Settles the first clause of O17. -/
theorem exec_pollDue_starts {s : State} {p i d : Nat} {f : FunctionEntry} {v : ValueRecord} (hr : s.comb.heldInReset = false)
    (h : LineReady s) (hn : NothingOffered s) (hu : s.line.urgent = []) (ha : s.line.access = []) (hs : s.servingAt p = true)
    (hf : s.entryAt p i = some f) (hv : f.value = some v) (hd : v.nextDue = some d) :
    ∃ q j c, GoesFirst (s.reach d) q j c ∧ exec (.pollDue p i) s = .next (((s.reach d).clearDue q j).start (.poll q j)) := by
  have hav : Available (s.reach d) p i d := available_of_entryAt hs hf hv hd (le_max_right s.now d)
  cases hg : firstPoll (s.reach d).availablePolls with
  | none =>
    have : (⟨d, p, i⟩ : DuePoll) ∈ (s.reach d).availablePolls := State.mem_availablePolls.mpr hav
    rewrite [firstPoll_eq_none.mp hg] at this
    cases this
  | some a =>
    have hfirst := State.firstPoll_goesFirst hg
    refine ⟨_, _, _, hfirst, ?_⟩
    have hready : LineReady (s.reach d) := ⟨h.free, h.gap, h.working⟩
    have hnothing : NothingOffered (s.reach d) := ⟨hn.offered, hn.idle, hn.reports, hn.extension⟩
    rewrite [← hready.work_poll hu hnothing ha hfirst]
    obtain ⟨index, code, cls, min, max, poll, value, subs⟩ := f
    obtain rfl : value = some v := hv
    obtain ⟨value, quality, answeredAt, nextDue⟩ := v
    obtain rfl : nextDue = some d := hd
    dsimp only [exec, execPollDue]
    rewrite [powered_running hr, if_pos hs]
    simp only [hf]

/-- The state in which the extension timer has ended (R54). -/
def State.extended (s : State) (since : Nat) : State :=
  (s.reach (since + s.setting .extensionInterval)).modifyWalker fun w => { w with extDue := true, extSince := none }

theorem exec_extensionTimer {s : State} {since : Nat} (hr : s.comb.heldInReset = false) (hs : s.walker.extSince = some since) :
    exec .extensionTimerExpiry s = .next (s.extended since).lineWork := by
  dsimp only [exec, execExtensionTimerExpiry]
  rewrite [powered_running hr]
  simp only [hs]
  rfl

/-- Settles O17 by the scheduler's rules. -/
theorem pollsAndExtensionProbesStart : Obligations.PollsAndExtensionProbesStart := by
  refine ⟨fun s p i d f v hr h hn hu ha hs hf hv hd => ?_, fun s since hr hsince hserving hidle => ?_⟩
  · obtain ⟨q, j, c, hfirst, he⟩ := exec_pollDue_starts hr h hn hu ha hs hf hv hd
    refine ⟨_, q, j, c, he, rfl, hfirst, rfl, fun g w hg hw => State.clearDue_nextDue hg hw,
      fun p' hp' => (s.reach d).clearDue_unitAt_ne hp' j, ?_⟩
    refine Keeps.sub (keeps_cons (p := .comb) rfl (keeps_cons (p := .sense) rfl (keeps_cons (p := .walker) rfl
      (keeps_cons (p := .cache) rfl (keeps_cons (p := .lamps) rfl (keeps_cons (p := .flash) rfl (keeps_cons (p := .claims) rfl
      (keeps_cons (p := .counters) rfl (keeps_still rfl rfl rfl rfl rfl))))))))) ?_
    decide
  · have he := exec_extensionTimer hr hsince
    have hready (h : LineReady s) : LineReady (s.extended since) := ⟨h.free, h.gap, h.working⟩
    have hoffers (hf : s.reportInFlight = false) := State.offerNext_idleOffers (s := s.extended since) hserving hidle hf
    have hidleOffers {v : Walker} (hi : IdleOffers (s.extended since).walker v) : IdleOffers { s.walker with extDue := true } v :=
      ⟨hi.stays, hi.report, hi.probe⟩
    refine ⟨_, he, State.lineWork_now _, fun h hn hu => ?_, fun p h hu ho => ?_, fun e rest h hu => ?_, fun hbusy => ?_⟩
    · have hprobe : (s.extended since).offerNext = (s.extended since).offer .probe :=
        State.offerNext_probe hn.offered (hready h).noReport hserving (noReport_of_empty hn.reports) rfl hidle
      have hw : (s.extended since).offer .probe
          = (s.extended since).modifyWalker fun w => { w with offered := some .probe } := State.offer_of_none (s := s.extended since) hn.offered _
      have hreport : ({ (s.extended since).walker with offered := some .probe } : Walker).report = s.walker.offered := by
        rewrite [hn.offered]
        exact Walker.report_none (noReport_of_empty hn.reports)
      have hstart : ({ (s.extended since).walker with offered := some .probe } : Walker).started .probe
          = { s.walker with active := true, extDue := false, extSince := none } := by
        have ha : ({ (s.extended since).walker with offered := some .probe } : Walker).active = false := hidle
        unfold Walker.started
        dsimp only
        rewrite [if_neg (by simpa using ha), hreport]
        rfl
      have hl : LineReady ((s.extended since).modifyWalker fun w => { w with offered := some .probe }) :=
        ⟨h.free, h.gap, h.working⟩
      rewrite [State.lineWork, hprobe, hw, hl.schedule_step hu rfl]
      exact congrArg (fun w => { s with
            now := max s.now (since + s.settings.extensionInterval.toNat)
            line := { s.line with tx := some probeCall }
            walker := w }) hstart
    · obtain ⟨w, hoff, hw, hw'⟩ : ∃ w, (s.extended since).offerNext = { s.extended since with walker := w }
          ∧ w.offered = some (.lampReport p) ∧ w = { (s.extended since).walker with offered := w.offered } := by
        obtain ho | ⟨ho, hp⟩ := ho
        · exact ⟨_, State.offerNext_offered (s := s.extended since) ho, ho, rfl⟩
        · refine ⟨{ (s.extended since).walker with offered := some (.lampReport p) }, ?_, rfl, rfl⟩
          rewrite [State.offerNext_report (s := s.extended since) ho (hready h).noReport (.inr hserving) hp]
          exact State.offer_of_none (s := s.extended since) ho _
      have hl : LineReady { s.extended since with walker := w } := ⟨h.free, h.gap, h.working⟩
      rewrite [State.lineWork, hoff, hl.schedule_step hu hw, hw']
      exact ⟨rfl, fun q => inPositionSet_writePosition_false _ p q⟩
    · obtain ⟨hi, hx⟩ := hoffers h.noReport
      have hwalker : (s.extended since).offerNext.walker = { s.walker with
          extDue := true, extSince := none, offered := (s.extended since).offerNext.walker.offered } := congrArg State.walker hx
      rewrite [(hready h).work_urgent hu]
      refine ⟨?_, fun c hc => State.claimStarted_claimOn hc, ?_, ?_, ?_⟩
      · rewrite [State.start, State.claimStarted_line]
        rfl
      · rewrite [State.start, State.claimStarted_walker]
        exact hwalker
      · rewrite [State.start, State.claimStarted_walker]
        exact hidleOffers hi
      · refine Keeps.sub (keeps_cons (p := .comb) (comb_same (State.claimStarted_comb _ _ _))
          (keeps_cons (p := .sense) (State.claimStarted_sense _ _ _) (keeps_cons (p := .units) (State.claimStarted_units _ _ _)
          (keeps_cons (p := .cache) (State.claimStarted_cache _ _ _) (keeps_cons (p := .lamps) (State.claimStarted_lamps _ _ _)
          (keeps_cons (p := .flash) (State.claimStarted_flash _ _ _)
          (keeps_cons (p := .counters) (State.claimStarted_counters _ _ _)
          (keeps_still (State.claimStarted_slots _ _ _) (State.claimStarted_settings _ _ _) (State.claimStarted_setup _ _ _)
          (State.claimStarted_port _ _ _) (State.claimStarted_pending _ _ _))))))))) ?_
        decide
    · have hb : (s.extended since).lineWork = (s.extended since).offerNext := State.schedule_busy (by
        rewrite [(s.extended since).offerNext_walkerOnly]
        exact hbusy)
      rewrite [hb]
      refine ⟨?_, fun t p ht ho => ?_, fun hne => ?_⟩
      · by_cases hf : s.reportInFlight = true
        · rewrite [State.offerNext_reporting (s := s.extended since) hf]
          rfl
        · have hx := (hoffers (Bool.eq_false_iff.mpr hf)).2
          have hv : (s.extended since).offerNext.now = (s.extended since).now := by rw [hx]
          rewrite [hv]
          exact hx
      · rewrite [State.offerNext_reporting (s := s.extended since) (State.reportInFlight_eq_true ht ho)]
        rfl
      · exact hidleOffers (hoffers (State.reportInFlight_eq_false hne)).1

end Sys2Proof.Machine
end

section
/-! PROOFS. The answers of the walk: a good answer handed on, the end of the walk, and the walk that goes on: O15. -/
namespace Sys2Proof.Machine

/-! ### Words and their bytes -/

theorem toNat_append_byte {n : Nat} (a : BitVec n) (b : Byte) : (a ++ b).toNat = 256 * a.toNat + b.toNat := by
  rewrite [BitVec.toNat_append, ← Nat.shiftLeft_add_eq_or_of_lt b.isLt, Nat.shiftLeft_eq]
  omega

theorem word16Of_two (b1 b0 : Byte) : word16Of [b1, b0] = b1 ++ b0 := by
  refine BitVec.eq_of_toNat_eq ?_
  have h1 := b1.isLt
  have h0 := b0.isLt
  have h := toNat_append_byte b1 b0
  simp only [word16Of, natOfBytes, List.foldl_cons, List.foldl_nil, BitVec.toNat_ofNat]
  omega

theorem word32Of_four (b3 b2 b1 b0 : Byte) : word32Of [b3, b2, b1, b0] = ((b3 ++ b2) ++ b1) ++ b0 := by
  refine BitVec.eq_of_toNat_eq ?_
  have h3 := b3.isLt
  have h2 := b2.isLt
  have h1 := b1.isLt
  have h0 := b0.isLt
  have e1 := toNat_append_byte b3 b2
  have e2 := toNat_append_byte (b3 ++ b2) b1
  have e3 := toNat_append_byte ((b3 ++ b2) ++ b1) b0
  simp only [word32Of, natOfBytes, List.foldl_cons, List.foldl_nil, BitVec.toNat_ofNat]
  omega

theorem bytesOfWord32_four (b3 b2 b1 b0 : Byte) : bytesOfWord32 (((b3 ++ b2) ++ b1) ++ b0) = [b3, b2, b1, b0] := by
  have h3 := b3.isLt
  have h2 := b2.isLt
  have h1 := b1.isLt
  have h0 := b0.isLt
  have e1 := toNat_append_byte b3 b2
  have e2 := toNat_append_byte (b3 ++ b2) b1
  have e3 := toNat_append_byte ((b3 ++ b2) ++ b1) b0
  have hb : ∀ (w : Word32) (k : Nat) (b : Byte), w.toNat / 2 ^ k % 256 = b.toNat → w.extractLsb' k 8 = b := by
    intro w k b h
    refine BitVec.eq_of_toNat_eq ?_
    rewrite [BitVec.extractLsb'_toNat, Nat.shiftRight_eq_div_pow]
    exact h
  simp only [bytesOfWord32, List.cons.injEq, and_true]
  refine ⟨hb _ _ _ ?_, hb _ _ _ ?_, hb _ _ _ ?_, hb _ _ _ ?_⟩ <;> rw [e3, e2, e1] <;> omega

/-! ### A good answer (R31) -/

theorem exec_answer {s : State} {t : Transaction} {since : Nat} (h : Receives s t since []) {status : Byte} {payload : List Byte}
    (hl : payload.length ≤ 8) : exec (.answerFrameComplete (answerBytes status payload)) s
      = .next (((s.heard t.target status).handOutcome t status (s.judgeContent t status payload)).resumed.announce s) := by
  have hrun := event_running (f := (·.receiveBytes (answerBytes status payload))) h.running
  rewrite [State.receiveBytes_answer h.inFlight h.waiting hl] at hrun
  exact hrun

theorem State.handOutcome_bringUp {t : Transaction} {step : Step} (ho : t.originator = .bringUp step) (s : State) (status : Byte)
    (answer : Option (AnswerResult × List Byte)) : s.handOutcome t status answer = s.stepAnswered step answer := by
  rw [State.handOutcome, ho]

theorem State.judgeContent_eq (s : State) (t : Transaction) (status : Byte) (payload : List Byte) :
    s.judgeContent t status payload
      = if payload.length ∈ admittedLengths t.kind (answerResult status) ((s.unitAt t.target).map UnitRecord.generation) then
          some (answerResult status, payload) else none := by
  simp only [State.judgeContent, List.contains_iff_mem]

/-- An answer outside what the call takes as accepted is not accepted (R28). -/
theorem State.judgeContent_refused {s : State} {t : Transaction} {status : Byte} {payload : List Byte} {n : Nat}
    (hk : admittedLengths t.kind .accept ((s.unitAt t.target).map UnitRecord.generation) ⊆ [n]) (h : ¬ (answerResult status = .accept ∧ payload.length = n))
    (d : List Byte) : s.judgeContent t status payload ≠ some (.accept, d) := by
  rewrite [State.judgeContent_eq]
  split
  · next hm =>
    intro e
    simp only [Option.some.injEq, Prod.mk.injEq] at e
    rewrite [e.1] at hm
    exact h ⟨e.1, List.mem_singleton.mp (hk hm)⟩
  · exact fun e => by cases e

theorem State.judgeContent_accepted {s : State} {t : Transaction} {status : Byte} {payload : List Byte}
    (hm : payload.length ∈ admittedLengths t.kind .accept ((s.unitAt t.target).map UnitRecord.generation))
    (hr : answerResult status = .accept) : s.judgeContent t status payload = some (.accept, payload) := by
  rw [State.judgeContent_eq, hr, if_pos hm]

/-- A call to position 0 has no flags to hand on (R31). -/
theorem State.heard_none {s : State} {p : Nat} (h : s.unitAt p = none) (status : Byte) :
    s.heard p status = (s.count .answersGood).setTx none := by
  have h' : ((s.count .answersGood).setTx none).unitAt p = none := h
  rw [State.heard, State.handFlags, h']

/-! ### The end of the walk (R11, R45) -/

theorem State.endWalk_building {s : State} (h : s.comb.state = .building) (hu : s.units.any UnitRecord.unsettles = false) :
    s.endWalk = { s with
      walker := { s.walker with active := false, extSince := some s.now }
      comb := { s.comb with state := .serving, attachSince := none }
      counters := { s.counters with combinationsBuilt := bumped s.counters.combinationsBuilt } } := by
  unfold State.endWalk
  dsimp only
  rewrite [h]
  dsimp only
  rewrite [if_neg (by simp [hu])]
  rfl

theorem State.endWalk_serving {s : State} (h : s.comb.state = .serving) :
    s.endWalk = { s with walker := { s.walker with active := false, extSince := some s.now } } := by
  unfold State.endWalk
  dsimp only
  rewrite [h]
  rfl

/-- The walk can end: in SERVING, or in BUILDING with no unit in bring-up (R11, R45). -/
def State.mayEnd (s : State) : Prop :=
  s.comb.state = .serving ∨ (s.comb.state = .building ∧ s.units.any UnitRecord.unsettles = false)

theorem State.mayEnd.cases {s : State} (h : s.mayEnd) : s.comb.state = .building ∨ s.comb.state = .serving :=
  h.elim .inr fun h => .inl h.1

theorem State.endWalk_keeps {s : State} (h : s.mayEnd) : Keeps [.now, .sense, .line, .units, .cache, .lamps, .flash, .claims, .slots,
    .missed, .settings, .setup, .portIn, .portOut, .pending] s s.endWalk := by
  obtain h | ⟨h, hu⟩ := h
  · rewrite [State.endWalk_serving h]
    refine Keeps.sub (keeps_cons (p := .now) rfl (keeps_cons (p := .sense) rfl (keeps_cons (p := .lamps) rfl
      (Keeps.append (keeps_cons (p := .line) rfl (keeps_cons (p := .units) rfl (keeps_cons (p := .cache) rfl
        (keeps_cons (p := .flash) rfl (keeps_cons (p := .claims) rfl (keeps_nil _ _))))))
      (keeps_still rfl rfl rfl rfl rfl))))) ?_
    decide
  · rewrite [State.endWalk_building h hu]
    refine Keeps.sub (keeps_cons (p := .now) rfl (keeps_cons (p := .sense) rfl (keeps_cons (p := .lamps) rfl
      (Keeps.append (keeps_cons (p := .line) rfl (keeps_cons (p := .units) rfl (keeps_cons (p := .cache) rfl
        (keeps_cons (p := .flash) rfl (keeps_cons (p := .claims) rfl (keeps_nil _ _))))))
      (keeps_still rfl rfl rfl rfl rfl))))) ?_
    decide

/-- The end of the walk as the obligations say it, of a state that differs from `s` outside what the walk's end reads. -/
theorem walkEnds_endWalk {s f : State} {clash full : Bool} (hw : f.walker = s.walker)
    (hc : f.comb = { s.comb with identityClash := clash, chainFull := full })
    (hb : f.counters.combinationsBuilt = s.counters.combinationsBuilt) (h : f.mayEnd) : WalkEnds s f.endWalk clash full := by
  have hs : f.comb.state = s.comb.state := by rw [hc]
  obtain h | ⟨h, hu⟩ := h
  · rewrite [State.endWalk_serving h]
    refine ⟨by rw [hw], fun e => ?_, fun _ => ⟨hc, hb⟩⟩
    rewrite [hs, e] at h
    cases h
  · rewrite [State.endWalk_building h hu]
    refine ⟨by rw [hw], fun _ => ⟨by rw [hc], ?_⟩, fun e => ?_⟩
    · exact congrArg bumped hb
    · rewrite [hs, e] at h
      cases h

/-- What follows the end of a walk is announced where the state or a flag has changed (R1). -/
theorem WalkEnds.announced {s u : State} {clash full : Bool} (h : WalkEnds s u clash full)
    (hs : s.comb.state = .building ∨ s.comb.state = .serving) : u.resumed.announce s = u.walkEnded s := by
  have hiff : u.resumed.combSummary = s.combSummary
      ↔ ¬ (s.comb.state = .building ∨ u.comb.identityClash ≠ s.comb.identityClash ∨ u.comb.chainFull ≠ s.comb.chainFull) := by
    have hr : u.resumed.combSummary = u.combSummary := by
      have hl {γ : Type} (p : Combination → γ) : p u.lineWork.comb = p u.comb := congrArg p (State.lineWork_comb _)
      exact State.combSummary_eq (hl (·.state)) (hl (·.unsettled))
        (hl (·.chainFull)) (hl (·.identityClash)) (hl (·.passiveLoad))
    rewrite [hr, State.combSummary_eq_iff]
    obtain hs | hs := hs
    · rewrite [(h.builds hs).1, hs]
      simp
    · rewrite [(h.serves hs).1, hs]
      simp only [reduceCtorEq, false_or, not_or, not_not, true_and, and_true]
      exact And.comm
  rewrite [State.announce_eq_ite, State.walkEnded]
  by_cases hc : s.comb.state = .building ∨ u.comb.identityClash ≠ s.comb.identityClash ∨ u.comb.chainFull ≠ s.comb.chainFull
  · rw [if_pos hc, if_neg (fun e => hiff.mp e hc)]
  · rw [if_neg hc, if_pos (hiff.mpr hc)]

/-- A walk that ends at a failed call: the phase is IDLE and the walker offers what it has (R45). -/
theorem State.endWalk_offers {f : State} (h : f.mayEnd) (htx : f.line.tx = none) :
    f.endWalk.offerNext.comb = { f.comb with
        state := .serving, attachSince := f.endWalk.offerNext.comb.attachSince }
    ∧ f.endWalk.offerNext.walker = { f.walker with
        active := false, extSince := some f.now, offered := f.endWalk.offerNext.walker.offered }
    ∧ IdleOffers f.walker f.endWalk.offerNext.walker
    ∧ f.endWalk.offerNext.counters = { f.counters with combinationsBuilt :=
        if f.comb.state = .building then (bumped f.counters.combinationsBuilt) else f.counters.combinationsBuilt }
    ∧ Keeps [.now, .sense, .line, .units, .cache, .lamps, .flash, .claims, .slots, .missed, .settings, .setup, .portIn, .portOut,
        .pending] f f.endWalk.offerNext := by
  have hserving : f.endWalk.comb.state = .serving := by
    obtain h | ⟨h, hu⟩ := h
    · rewrite [State.endWalk_serving h]
      exact h
    · rw [State.endWalk_building h hu]
  have hwalker : f.endWalk.walker = { f.walker with active := false, extSince := some f.now } := by
    obtain h | ⟨h, hu⟩ := h
    · rw [State.endWalk_serving h]
    · rw [State.endWalk_building h hu]
  have hkeep := State.endWalk_keeps h
  have hline : f.endWalk.line = f.line := hkeep .line (by decide)
  obtain ⟨hi, hx⟩ := State.offerNext_idleOffers hserving (by rw [hwalker])
    (State.reportInFlight_eq_false (s := f.endWalk) fun t p ht => by rw [hline, htx] at ht; cases ht)
  have hcomb : f.endWalk.offerNext.comb = f.endWalk.comb := by rw [hx]
  refine ⟨?_, ?_, ⟨?_, ?_, ?_⟩, ?_, hkeep.trans ?_⟩
  · rewrite [hcomb]
    obtain h | ⟨h, hu⟩ := h
    · rw [State.endWalk_serving h, ← h]
    · rw [State.endWalk_building h hu]
  · have := congrArg State.walker hx
    rewrite [hwalker] at this
    exact this
  · intro ho
    exact (hi.stays (by rw [hwalker]; exact ho)).trans (by rw [hwalker])
  · intro ho p hp
    exact hi.report (by rw [hwalker]; exact ho) p (by rw [hwalker]; exact hp)
  · intro ho hn
    exact (hi.probe (by rw [hwalker]; exact ho) (by rw [hwalker]; exact hn)).trans (by rw [hwalker])
  · have : f.endWalk.offerNext.counters = f.endWalk.counters := by rw [hx]
    rewrite [this]
    obtain h | ⟨h, hu⟩ := h
    · rw [State.endWalk_serving h, if_neg (by rw [h]; decide)]
    · rw [State.endWalk_building h hu, if_pos h]
  · rewrite [f.endWalk.offerNext_walkerOnly]
    exact keeps_cons rfl (keeps_cons rfl (keeps_cons rfl (keeps_cons rfl (keeps_cons rfl (keeps_cons rfl (keeps_cons rfl
      (keeps_cons rfl (keeps_still rfl rfl rfl rfl rfl))))))))

/-! ### The walk goes on (R33, R45) -/

/-- The state `u` is `w` but for what the start of the next step writes: the transaction and the offers. -/
def Starts (w u : State) : Prop :=
  u = { w with
    line := u.line
    walker := { w.walker with offered := u.walker.offered, owed := u.walker.owed, lampReports := u.walker.lampReports } }

theorem State.offer_of_report {s : State} {p : Nat} (h : s.walker.offered = some (.lampReport p)) (step : Step) :
    s.offer step = { s with walker := { s.walker with owed := some step } } := by
  rw [State.offer, State.modifyWalker, Walker.offer_of_report h]

/-- A walk step that is started moves the offers alone, and a PROBE of an active walk too (R54). -/
theorem Walker.started_offers (w : Walker) {step : Step} (h : step = .probe → w.active = true) :
    w.started step = { w with
      offered := (w.started step).offered, owed := (w.started step).owed, lampReports := (w.started step).lampReports } := by
  cases step with
  | probe =>
    unfold Walker.started
    dsimp only
    rw [if_pos (h rfl)]
  | lampReport _ | place _ _ _ _ | listOpen _ | loadRead _ _ | listEntry _ _ | bridge _ => rfl

/-- The next step of the walk, on a line that is free: called at once, or behind the LAMP-REPORT that stands offered. -/
theorem State.offer_goesOn {w : State} (h : LineReady w) (hu : w.line.urgent = []) (hr : ReportAtMost w.walker) {step : Step}
    (hstep : ∀ p, step ≠ .lampReport p) (ha : step = .probe → w.walker.active = true) :
    Starts w (w.offer step).lineWork ∧ WalkGoesOn w (w.offer step).lineWork step := by
  obtain ho | ⟨p, ho⟩ := hr
  · have hl : LineReady { w with walker := { w.walker with offered := some step } } := ⟨h.free, h.gap, h.working⟩
    rewrite [State.offer_of_none ho, hl.work_step hu rfl]
    obtain ⟨h1, h2, h3⟩ := Walker.started_step { w.walker with offered := some step } hstep
    refine ⟨?_, ⟨fun _ => ⟨rfl, h1, h2, h3⟩, fun q hq => ?_⟩⟩
    · have hs := Walker.started_offers { w.walker with offered := some step } ha
      exact congrArg (fun x => { w with line := { w.line with tx := some (Originator.bringUp step).transaction }, walker := x }) hs
    · rewrite [ho] at hq
      cases hq
  · have hl : LineReady { w with walker := { w.walker with owed := some step } } := ⟨h.free, h.gap, h.working⟩
    rewrite [State.offer_of_report ho, hl.work_step hu ho]
    refine ⟨rfl, ⟨fun hn => ?_, fun q hq => ?_⟩⟩
    · rewrite [ho] at hn
      cases hn
    · rewrite [ho] at hq
      cases hq
      exact ⟨rfl, rfl, rfl, fun q => inPositionSet_writePosition_false _ p q⟩

/-- The walk that goes on from a state with the same offers and a line that was occupied goes on from that one. -/
theorem WalkGoesOn.of_line {s w u : State} {step : Step} (h : WalkGoesOn w u step) (hl : w.line = { s.line with tx := none })
    (ho : w.walker.offered = s.walker.offered) (hw : w.walker.owed = s.walker.owed)
    (hr : w.walker.lampReports = s.walker.lampReports) : WalkGoesOn s u step := by
  obtain ⟨h1, h2⟩ := h
  rewrite [hl, ho, hw, hr] at h1
  rewrite [hl, ho, hr] at h2
  exact ⟨h1, h2⟩

/-- The two timers of chapter 1 leave the walk alone. -/
theorem WalkGoesOn.retimed {s u : State} {step : Step} (h : WalkGoesOn s u step) :
    WalkGoesOn s u.retimeAttach.retimePark step := ⟨h.called, h.behind⟩

/-! ### The outcomes of a PROBE (R46 to R48) -/

theorem admittedLengths_probe (g : Option Generation) : admittedLengths .probe .accept g ⊆ [7] := by
  cases g <;> exact List.Subset.refl _

/-- A PROBE answered otherwise than with an acceptable identity is treated as unanswered (R28, R46). -/
theorem State.stepAnswered_probe_refused {s h : State} {t : Transaction} {status : Byte} {payload : List Byte} (hk : t.kind = .probe)
    (ha : ¬ (answerResult status = .accept ∧ payload.length = 7 ∧ (byteAt payload 4 = 1 ∨ byteAt payload 4 = 2))) :
    h.stepAnswered .probe (s.judgeContent t status payload) = h.probeUnanswered := by
  by_cases hr : answerResult status = .accept ∧ payload.length = 7
  · rw [State.judgeContent_accepted (by rw [hk, hr.2]; exact List.mem_singleton_self 7) hr.1]
    have hg : generationOf (byteAt payload 4) = none := by
      have h12 : ¬ (byteAt payload 4 = 1 ∨ byteAt payload 4 = 2) := fun h => ha ⟨hr.1, hr.2, h⟩
      simp only [not_or] at h12
      simp only [generationOf, h12.1, h12.2, if_false]
    simp only [State.stepAnswered, hg]
  · have hn := State.judgeContent_refused (s := s) (t := t) (n := 7) (by rw [hk]; exact admittedLengths_probe _) hr
    rcases hj : s.judgeContent t status payload with _ | ⟨r, d⟩
    · rfl
    · cases r with
      | accept => exact absurd hj (hn d)
      | decline | inhibit | unknownKind => rfl

/-- The state in which the answer to a call to position 0 is handed on. -/
def State.answeredGood (s : State) (clash full : Bool) : State :=
  { s with
    line := { s.line with tx := none }
    counters := { s.counters with answersGood := bumped s.counters.answersGood }
    comb := { s.comb with identityClash := clash, chainFull := full } }

theorem State.answeredGood_keeps (s : State) (clash full : Bool) : Keeps [.now, .sense, .units, .cache, .lamps, .flash, .claims,
    .slots, .missed, .settings, .setup, .portIn, .portOut, .pending] s (s.answeredGood clash full) := by
  refine Keeps.sub (keeps_cons (p := .now) rfl (keeps_cons (p := .sense) rfl (keeps_cons (p := .lamps) rfl
    (Keeps.append (keeps_cons (p := .units) rfl (keeps_cons (p := .cache) rfl (keeps_cons (p := .flash) rfl
      (keeps_cons (p := .claims) rfl (keeps_nil _ _)))))
    (keeps_still rfl rfl rfl rfl rfl))))) ?_
  decide

/-- An answer that ends the walk (R45). -/
theorem walkEnds_answer {s : State} {t : Transaction} {since : Nat} (h : Receives s t since []) {status : Byte} {payload : List Byte}
    (hl : payload.length ≤ 8) (hm : s.mayEnd) {clash full : Bool}
    (hx : (s.heard t.target status).handOutcome t status (s.judgeContent t status payload) = (s.answeredGood clash full).endWalk) :
    exec (.answerFrameComplete (answerBytes status payload)) s = .next ((s.answeredGood clash full).endWalk.walkEnded s)
    ∧ WalkEnds s (s.answeredGood clash full).endWalk clash full
    ∧ (s.answeredGood clash full).endWalk.line = { s.line with tx := none }
    ∧ (s.answeredGood clash full).endWalk.counters.answersGood = bumped s.counters.answersGood
    ∧ Keeps [.now, .sense, .units, .cache, .lamps, .flash, .claims, .slots, .missed, .settings, .setup, .portIn, .portOut,
        .pending] s (s.answeredGood clash full).endWalk := by
  have hm' : (s.answeredGood clash full).mayEnd := hm
  have hends : WalkEnds s (s.answeredGood clash full).endWalk clash full := walkEnds_endWalk rfl rfl rfl hm'
  have hkeep := State.endWalk_keeps hm'
  refine ⟨?_, hends, hkeep .line (by decide), ?_, ?_⟩
  · rw [exec_answer h hl, hx, hends.announced hm.cases]
  · obtain hs | ⟨hs, hu⟩ := hm'
    · rewrite [State.endWalk_serving hs]
      rfl
    · rewrite [State.endWalk_building hs hu]
      rfl
  · have hk : Keeps [.now, .sense, .units, .cache, .lamps, .flash, .claims, .slots, .missed, .settings, .setup, .portIn, .portOut,
        .pending] (s.answeredGood clash full) (s.answeredGood clash full).endWalk := hkeep.sub (by decide)
    exact (s.answeredGood_keeps clash full).trans hk

theorem State.heard_probe {s : State} {t : Transaction} (ht : t.target = 0) (h0 : s.unitAt 0 = none) (status : Byte) :
    s.heard t.target status = s.answeredGood s.comb.identityClash s.comb.chainFull := by
  rewrite [ht, State.heard_none h0]
  rfl

theorem State.holdsIdentity_iff (s : State) (identity : Word32) :
    s.holdsIdentity identity = true ↔ ∃ v ∈ s.units, v.identity = identity := by
  simp only [State.holdsIdentity, List.any_eq_true, beq_iff_eq]

theorem generationOf_code (g : Generation) : generationOf (byteOf (generationCode g)) = some g := by cases g <;> rfl

/-- What an acceptable answer to a PROBE carries (11.3, R47). -/
theorem State.stepAnswered_probe_accepted {s h : State} {t : Transaction} {status b3 b2 b1 b0 sh sl : Byte} {g : Generation}
    (hk : t.kind = .probe) (hr : answerResult status = .accept) :
    h.stepAnswered .probe (s.judgeContent t status [b3, b2, b1, b0, byteOf (generationCode g), sh, sl])
      = h.probeAnswered (((b3 ++ b2) ++ b1) ++ b0) g (sh ++ sl) := by
  rw [State.judgeContent_accepted (by rw [hk]; exact List.mem_singleton_self 7) hr]
  have hg : generationOf (byteAt [b3, b2, b1, b0, byteOf (generationCode g), sh, sl] 4) = some g := generationOf_code g
  rewrite [← word32Of_four, ← word16Of_two sh sl, State.stepAnswered, hg]
  rfl

/-- The transaction of the PLACE that an answer leads to (R49). -/
theorem placeCall_eq (p : Nat) (b3 b2 b1 b0 : Byte) (g : Generation) (signature : Word16) :
    (Originator.bringUp (.place p (((b3 ++ b2) ++ b1) ++ b0) g signature)).transaction
      = { kind := .place, target := 0, payload := [byteOf p, b3, b2, b1, b0], attempts := 1, phase := .calling
          originator := .bringUp (.place p (((b3 ++ b2) ++ b1) ++ b0) g signature) } := by
  have h : (Originator.bringUp (.place p (((b3 ++ b2) ++ b1) ++ b0) g signature)).call
      = (.place, 0, byteOf p :: bytesOfWord32 (((b3 ++ b2) ++ b1) ++ b0)) := rfl
  rw [Originator.transaction, h, bytesOfWord32_four]

/-- The parts that stand while a call to position 0 is answered and the next step starts. -/
theorem Starts.keeps {w u : State} (h : Starts w u) : Keeps [.now, .sense, .units, .cache, .lamps, .flash, .claims, .slots, .missed,
    .settings, .setup, .portIn, .portOut, .pending] w u := by
  rewrite [h]
  refine Keeps.sub (keeps_cons (p := .now) rfl (keeps_cons (p := .sense) rfl (keeps_cons (p := .lamps) rfl
    (Keeps.append (keeps_cons (p := .units) rfl (keeps_cons (p := .cache) rfl (keeps_cons (p := .flash) rfl
      (keeps_cons (p := .claims) rfl (keeps_nil _ _)))))
    (keeps_still rfl rfl rfl rfl rfl))))) ?_
  decide

/-- Settles the first clause of O15 and the failed PLACE of O18: a call to position 0 whose last attempt has failed. -/
theorem exec_walkCallFails {s : State} {t : Transaction} {c : Instr} {now : Nat} {counters : Counters} {clash : Bool}
    (hr : s.comb.heldInReset = false) (ht : s.line.tx = some t) (hf : AttemptFails s t c now counters)
    (ha : s.settings.retryLimit.toNat < t.attempts) (hm : s.mayEnd)
    (hx : ∀ f : State, f.comb.identityClash = s.comb.identityClash → f.failedTransaction t
      = ({ f.setTx none with comb := { f.comb with identityClash := clash } } : State).endWalk.offerNext) :
    ∃ u, exec c s = .next (if s.comb.state = .building ∨ s.comb.identityClash ≠ clash then u.noticeCombination else u)
      ∧ u.now = now
      ∧ u.comb = { s.comb with
          state := .serving, identityClash := clash
          attachSince := u.comb.attachSince, parkSince := u.comb.parkSince, entryWaiting := u.comb.entryWaiting }
      ∧ u.walker = { s.walker with active := false, extSince := some u.now, offered := u.walker.offered }
      ∧ IdleOffers s.walker u.walker
      ∧ u.line = { s.line with tx := none, gapSince := some u.now }
      ∧ u.counters = { counters with combinationsBuilt :=
          if s.comb.state = .building then bumped s.counters.combinationsBuilt else s.counters.combinationsBuilt }
      ∧ Keeps [.sense, .units, .cache, .lamps, .flash, .claims, .slots, .missed, .settings, .setup, .portIn, .portOut,
          .pending] s u := by
  have hends : (s.failing now counters).attemptEnds t = ({ (s.failing now counters).setTx none with
      comb := { s.comb with identityClash := clash } } : State).endWalk.offerNext := by
    have hn : ¬ t.attempts < 1 + (s.failing now counters).setting .retryLimit := by
      change ¬ t.attempts < 1 + s.settings.retryLimit.toNat
      omega
    rewrite [State.attemptEnds, if_neg hn]
    exact hx _ rfl
  have he := exec_attemptFails hr ht hf
  rewrite [hends] at he
  have hbuilt : counters.combinationsBuilt = s.counters.combinationsBuilt := by rw [hf.counters_eq]
  have hoff := State.endWalk_offers (f := { (s.failing now counters).setTx none with
      comb := { s.comb with identityClash := clash } }) hm rfl
  generalize ({ (s.failing now counters).setTx none with
      comb := { s.comb with identityClash := clash } } : State).endWalk.offerNext = d at *
  obtain ⟨hcomb, hwalker, hoffers, hcounters, hkeep⟩ := hoff
  have hnow : d.now = now := hkeep .now (by decide)
  refine ⟨d.retimeAttach.retimePark, ?_, hnow, ?_, ?_, hoffers, ?_, ?_, ?_⟩
  · rewrite [he, State.announce_eq_ite]
    have hiff : d.retimeAttach.retimePark.combSummary = s.combSummary
        ↔ ¬ (s.comb.state = .building ∨ s.comb.identityClash ≠ clash) := by
      rewrite [State.combSummary_eq_iff]
      change d.comb.state = _ ∧ d.comb.unsettled = _ ∧ d.comb.chainFull = _ ∧ d.comb.identityClash = _ ∧ d.comb.passiveLoad = _ ↔ _
      rewrite [hcomb]
      obtain hs | ⟨hs, -⟩ := hm
      · simp [hs, eq_comm]
      · simp [hs]
    by_cases hc : s.comb.state = .building ∨ s.comb.identityClash ≠ clash
    · rw [if_pos hc, if_neg fun e => hiff.mp e hc]
    · rw [if_neg hc, if_pos (hiff.mpr hc)]
  · rw [State.retimed_comb, hcomb]
  · refine hwalker.trans ?_
    change { s.walker with active := false, extSince := some now, offered := d.walker.offered }
      = { s.walker with active := false, extSince := some d.now, offered := d.walker.offered }
    rw [hnow]
  · refine Eq.trans (hkeep .line (by decide)) ?_
    change { s.line with tx := none, gapSince := some now } = { s.line with tx := none, gapSince := some d.now }
    rw [hnow]
  · rewrite [← hbuilt]
    exact hcounters
  · have hk : Keeps [.sense, .units, .cache, .lamps, .flash, .claims, .slots, .missed, .settings, .setup, .portIn, .portOut,
          .pending] ({ (s.failing now counters).setTx none with comb := { s.comb with identityClash := clash } } : State) d :=
      hkeep.sub (by decide)
    refine Keeps.trans (Keeps.trans ?_ hk) (Keeps.sub (keeps_cons (p := .sense) rfl (keeps_cons (p := .lamps) rfl
      (Keeps.append (keeps_cons (p := .units) rfl (keeps_cons (p := .cache) rfl (keeps_cons (p := .flash) rfl
        (keeps_cons (p := .claims) rfl (keeps_nil _ _)))))
      (keeps_still rfl rfl rfl rfl rfl)))) ?_)
    · refine Keeps.sub (keeps_cons (p := .sense) rfl (keeps_cons (p := .lamps) rfl
        (Keeps.append (keeps_cons (p := .units) rfl (keeps_cons (p := .cache) rfl (keeps_cons (p := .flash) rfl
          (keeps_cons (p := .claims) rfl (keeps_nil _ _)))))
        (keeps_still rfl rfl rfl rfl rfl)))) ?_
      decide
    · decide

theorem byteOf_generationCode_injective {g g' : Generation} (h : byteOf (generationCode g) = byteOf (generationCode g')) : g = g' := by
  have := congrArg generationOf h
  rewrite [generationOf_code, generationOf_code] at this
  exact Option.some.inj this

/-- The seven bytes that an acceptable answer to a PROBE carries. -/
theorem acceptable_cases {payload : List Byte} (hlen : payload.length = 7) (hg : byteAt payload 4 = 1 ∨ byteAt payload 4 = 2) :
    ∃ (b3 b2 b1 b0 sh sl : Byte) (g : Generation), payload = [b3, b2, b1, b0, byteOf (generationCode g), sh, sl] := by
  obtain ⟨b3, b2, b1, b0, gen, sh, sl, rfl⟩ : ∃ b3 b2 b1 b0 gen sh sl, payload = [b3, b2, b1, b0, gen, sh, sl] := by
    rcases payload with _ | ⟨b3, _ | ⟨b2, _ | ⟨b1, _ | ⟨b0, _ | ⟨gen, _ | ⟨sh, _ | ⟨sl, _ | ⟨x, rest⟩⟩⟩⟩⟩⟩⟩⟩ <;>
      simp at hlen
    exact ⟨_, _, _, _, _, _, _, rfl⟩
  obtain h | h := hg
  · exact ⟨b3, b2, b1, b0, sh, sl, .a, by rw [show gen = 1 from h]; rfl⟩
  · exact ⟨b3, b2, b1, b0, sh, sl, .b, by rw [show gen = 2 from h]; rfl⟩

/-- The seven bytes fix what they stand for. -/
theorem acceptable_inj {b3 b2 b1 b0 sh sl c3 c2 c1 c0 gen th tl : Byte} {g g' : Generation}
    (hb : [b3, b2, b1, b0, byteOf (generationCode g), sh, sl] = [c3, c2, c1, c0, gen, th, tl])
    (hg : gen = byteOf (generationCode g')) : b3 = c3 ∧ b2 = c2 ∧ b1 = c1 ∧ b0 = c0 ∧ sh = th ∧ sl = tl ∧ g = g' := by
  simp only [List.cons.injEq, and_true] at hb
  obtain ⟨h3, h2, h1, h0, hgen, hh, hl⟩ := hb
  exact ⟨h3, h2, h1, h0, hh, hl, byteOf_generationCode_injective (hgen.trans hg)⟩

/-- The PROBE that leads to a PLACE (R47, R49). -/
theorem exec_probePlaces {s : State} {t : Transaction} {since p : Nat} (h : Receives s t since []) {status : Byte} {payload : List Byte}
    (hl : payload.length ≤ 8) (hworking : s.comb.state = .building ∨ s.comb.state = .serving) (hgap : s.line.gapSince = none)
    (hu : s.line.urgent = []) (hr : ReportAtMost s.walker) {identity : Word32} {g : Generation} {signature : Word16}
    (hx : (s.heard t.target status).handOutcome t status (s.judgeContent t status payload)
      = (s.answeredGood false s.comb.chainFull).offer (.place p identity g signature)) :
    ∃ u, Starts (s.answeredGood false s.comb.chainFull) u ∧ WalkGoesOn s u (.place p identity g signature)
      ∧ exec (.answerFrameComplete (answerBytes status payload)) s
          = .next (if s.comb.identityClash then u.retimeAttach.retimePark.noticeCombination else u.retimeAttach.retimePark) := by
  have hready : LineReady (s.answeredGood false s.comb.chainFull) := ⟨rfl, hgap, hworking⟩
  obtain ⟨hs, hw⟩ := State.offer_goesOn (step := .place p identity g signature) hready hu hr (fun q hq => by cases hq)
    fun hq => by cases hq
  refine ⟨_, hs, hw.of_line rfl rfl rfl rfl, ?_⟩
  have he := exec_answer h (status := status) hl
  rewrite [hx, State.resumed] at he
  rewrite [he]
  generalize ((s.answeredGood false s.comb.chainFull).offer (.place p identity g signature)).lineWork = u at *
  have hcomb : u.comb = { s.comb with identityClash := false } := by rw [hs]; rfl
  rewrite [State.announce_eq_ite]
  have hiff : u.retimeAttach.retimePark.combSummary = s.combSummary ↔ ¬ s.comb.identityClash = true := by
    rewrite [State.combSummary_eq_iff]
    change u.comb.state = _ ∧ u.comb.unsettled = _ ∧ u.comb.chainFull = _ ∧ u.comb.identityClash = _ ∧ u.comb.passiveLoad = _ ↔ _
    rewrite [hcomb]
    cases s.comb.identityClash <;> simp
  by_cases hc : s.comb.identityClash = true
  · rw [if_pos hc, if_neg fun e => hiff.mp e hc]
  · rw [if_neg hc, if_pos (hiff.mpr hc)]

section
variable {s : State} {identity : Word32} (clash full : Bool) (g : Generation) (signature : Word16)

theorem State.probeAnswered_clash (hi : ∃ v ∈ s.units, v.identity = identity) (hp : s.walker.pointer ≤ 6) :
    (s.answeredGood clash full).probeAnswered identity g signature = (s.answeredGood true full).endWalk := by
  have hh : (s.answeredGood clash full).holdsIdentity identity = true := (s.holdsIdentity_iff identity).mpr hi
  have hm : (s.answeredGood clash full).walker.pointer ≤ Config.maxUnits := hp
  rewrite [State.probeAnswered, if_pos hh, if_pos hm]
  rfl

theorem State.probeAnswered_clashFull (hi : ∃ v ∈ s.units, v.identity = identity) (hp : 7 ≤ s.walker.pointer) :
    (s.answeredGood clash full).probeAnswered identity g signature = (s.answeredGood clash true).endWalk := by
  have hh : (s.answeredGood clash full).holdsIdentity identity = true := (s.holdsIdentity_iff identity).mpr hi
  have hm : ¬ (s.answeredGood clash full).walker.pointer ≤ Config.maxUnits := Nat.not_le.mpr hp
  rewrite [State.probeAnswered, if_pos hh, if_neg hm]
  rfl

theorem State.probeAnswered_full (hi : ¬ ∃ v ∈ s.units, v.identity = identity) (hp : 7 ≤ s.walker.pointer) :
    (s.answeredGood clash full).probeAnswered identity g signature = (s.answeredGood false true).endWalk := by
  have hh : ¬ (s.answeredGood clash full).holdsIdentity identity = true := fun e => hi ((s.holdsIdentity_iff identity).mp e)
  have hm : ¬ (s.answeredGood clash full).walker.pointer ≤ Config.maxUnits := Nat.not_le.mpr hp
  rewrite [State.probeAnswered, if_neg hh, if_neg hm]
  rfl

theorem State.probeAnswered_places (hi : ¬ ∃ v ∈ s.units, v.identity = identity) (hp : s.walker.pointer ≤ 6) :
    (s.answeredGood clash full).probeAnswered identity g signature
      = (s.answeredGood false full).offer (.place s.walker.pointer identity g signature) := by
  have hh : ¬ (s.answeredGood clash full).holdsIdentity identity = true := fun e => hi ((s.holdsIdentity_iff identity).mp e)
  have hm : (s.answeredGood clash full).walker.pointer ≤ Config.maxUnits := hp
  rewrite [State.probeAnswered, if_neg hh, if_pos hm]
  rfl
end

/-- Settles O15: the outcomes of a PROBE are those of `probeUnanswered` and `probeAnswered`. -/
theorem probeOutcomesDecideWalk : Obligations.ProbeOutcomesDecideWalk := by
  refine ⟨fun s t c now counters hr ht hf ho h0 hk ha hm => ?_, fun s t since status payload h ho h0 hk hnone hl hm => ?_⟩
  · obtain ⟨u, he, rest⟩ := exec_walkCallFails (clash := false) hr ht hf ha hm fun f _ => by
      obtain ⟨k, p, d, o, n, ph⟩ := t
      obtain rfl : o = _ := ho
      obtain rfl : p = 0 := h0
      rfl
    exact ⟨u, he.trans (congrArg _ (if_congr (or_congr Iff.rfl (iff_of_eq (Bool.not_eq_false _))) rfl rfl)), rest⟩
  · have hh := State.heard_probe h0 hnone status
    have houtcome : (s.heard t.target status).handOutcome t status (s.judgeContent t status payload)
        = (s.answeredGood s.comb.identityClash s.comb.chainFull).stepAnswered .probe (s.judgeContent t status payload) := by
      rw [State.handOutcome_bringUp ho, hh]
    by_cases hacc : answerResult status = .accept ∧ payload.length = 7 ∧ (byteAt payload 4 = 1 ∨ byteAt payload 4 = 2)
    · obtain ⟨hres, hlen, hgen⟩ := hacc
      obtain ⟨b3, b2, b1, b0, sh, sl, g, rfl⟩ := acceptable_cases hlen hgen
      rewrite [State.stepAnswered_probe_accepted hk hres] at houtcome
      by_cases hi : ∃ v ∈ s.units, v.identity = ((b3 ++ b2) ++ b1) ++ b0
      · have hold : ¬ ∀ v ∈ s.units, v.identity ≠ ((b3 ++ b2) ++ b1) ++ b0 := by simpa using hi
        by_cases hp : s.walker.pointer ≤ 6
        · rewrite [State.probeAnswered_clash _ _ _ _ hi hp] at houtcome
          obtain ⟨he, hw, hline, hgood, hkeep⟩ := walkEnds_answer h hl hm houtcome
          refine ⟨_, hgood, hkeep, fun hn => absurd ⟨hres, hlen, hgen⟩ hn, ?_⟩
          intro c3 c2 c1 c0 gen th tl g' identity _ hb hg hid
          obtain ⟨rfl, rfl, rfl, rfl, rfl, rfl, rfl⟩ := acceptable_inj hb hg
          subst hid
          exact ⟨fun _ => ⟨he, hline, fun _ _ => hw, fun _ h7 => absurd hp (Nat.not_le.mpr h7), fun hn => absurd hn hold⟩,
            fun hn => absurd hn hold⟩
        · rewrite [State.probeAnswered_clashFull _ _ _ _ hi (by omega)] at houtcome
          obtain ⟨he, hw, hline, hgood, hkeep⟩ := walkEnds_answer h hl hm houtcome
          refine ⟨_, hgood, hkeep, fun hn => absurd ⟨hres, hlen, hgen⟩ hn, ?_⟩
          intro c3 c2 c1 c0 gen th tl g' identity _ hb hg hid
          obtain ⟨rfl, rfl, rfl, rfl, rfl, rfl, rfl⟩ := acceptable_inj hb hg
          subst hid
          exact ⟨fun _ => ⟨he, hline, fun _ h6 => absurd h6 hp, fun _ _ => hw, fun hn => absurd hn hold⟩,
            fun hn => absurd hn hold⟩
      · by_cases hp : s.walker.pointer ≤ 6
        · rewrite [State.probeAnswered_places _ _ _ _ hi hp] at houtcome
          have hends {Q : Prop} (hc : (∃ v ∈ s.units, v.identity = ((b3 ++ b2) ++ b1) ++ b0) ∨ 7 ≤ s.walker.pointer) : Q :=
            hc.elim (fun e => absurd e hi) fun h7 => absurd hp (Nat.not_le.mpr h7)
          by_cases hfree : s.line.gapSince = none ∧ s.line.urgent = [] ∧ ReportAtMost s.walker
          · obtain ⟨hgap, hu, hr⟩ := hfree
            obtain ⟨u, hs, hw, he⟩ := exec_probePlaces h hl (State.mayEnd.cases hm) hgap hu hr houtcome
            have hgood : u.counters.answersGood = bumped s.counters.answersGood := by rw [hs]; rfl
            have hkeep : Keeps [.now, .sense, .units, .cache, .lamps, .flash, .claims, .slots, .missed, .settings, .setup, .portIn,
                .portOut, .pending] s u := Keeps.trans (s.answeredGood_keeps _ _) hs.keeps
            refine ⟨u.retimeAttach.retimePark, hgood, hkeep.retimed, fun hn => absurd ⟨hres, hlen, hgen⟩ hn, ?_⟩
            intro c3 c2 c1 c0 gen th tl g' identity _ hb hg hid
            obtain ⟨rfl, rfl, rfl, rfl, rfl, rfl, rfl⟩ := acceptable_inj hb hg
            subst hid
            refine ⟨hends, fun _ _ _ _ _ => ⟨he, ?_, ?_, hw.retimed, fun hn => ?_⟩⟩
            · rewrite [State.retimed_comb, hs]
              rfl
            · have := congrArg State.walker hs
              exact this
            · rewrite [← placeCall_eq]
              exact (hw.called hn).1
          · refine ⟨s.answeredGood false s.comb.chainFull, rfl, s.answeredGood_keeps _ _,
              fun hn => absurd ⟨hres, hlen, hgen⟩ hn, ?_⟩
            intro c3 c2 c1 c0 gen th tl g' identity _ hb hg hid
            obtain ⟨rfl, rfl, rfl, rfl, rfl, rfl, rfl⟩ := acceptable_inj hb hg
            subst hid
            exact ⟨hends, fun _ _ hgap hu hr => absurd ⟨hgap, hu, hr⟩ hfree⟩
        · rewrite [State.probeAnswered_full _ _ _ _ hi (by omega)] at houtcome
          obtain ⟨he, hw, hline, hgood, hkeep⟩ := walkEnds_answer h hl hm houtcome
          refine ⟨_, hgood, hkeep, fun hn => absurd ⟨hres, hlen, hgen⟩ hn, ?_⟩
          intro c3 c2 c1 c0 gen th tl g' identity _ hb hg hid
          obtain ⟨rfl, rfl, rfl, rfl, rfl, rfl, rfl⟩ := acceptable_inj hb hg
          subst hid
          exact ⟨fun _ => ⟨he, hline, fun e => absurd e hi, fun e => absurd e hi, fun _ _ => hw⟩, fun _ h6 => absurd h6 hp⟩
    · rewrite [State.stepAnswered_probe_refused hk hacc] at houtcome
      obtain ⟨he, hw, hline, hgood, hkeep⟩ := walkEnds_answer (clash := false) (full := s.comb.chainFull) h hl hm houtcome
      refine ⟨_, hgood, hkeep, fun _ => ⟨he, hw, hline⟩, fun b3 b2 b1 b0 gen sh sl g identity hres hp hg _ => ?_⟩
      refine absurd ⟨hres, by rw [hp]; rfl, ?_⟩ hacc
      rewrite [hp, hg]
      cases g
      · exact .inl rfl
      · exact .inr rfl

end Sys2Proof.Machine
end

section
/-! PROOFS. The walk goes on after an answer; the answers to PLACE: O18. -/
namespace Sys2Proof.Machine

/-! ### The state in which the walk has gone on -/

/-- The state `u` is `w` but for the transaction, the offers and the two timers of chapter 1. -/
def Resumes (w u : State) : Prop :=
  u = { w with
    line := u.line
    walker := { w.walker with offered := u.walker.offered, owed := u.walker.owed, lampReports := u.walker.lampReports }
    comb := { w.comb with
      attachSince := u.comb.attachSince, parkSince := u.comb.parkSince, entryWaiting := u.comb.entryWaiting } }

theorem Starts.resumes {w u : State} (h : Starts w u) : Resumes w u.retimeAttach.retimePark := by
  obtain ⟨line, offered, owed, reports, rfl⟩ : ∃ line offered owed reports,
      u = { w with line, walker := { w.walker with offered, owed, lampReports := reports } } := ⟨_, _, _, _, h⟩
  rfl

/-- What the walk that goes on leaves alone. -/
theorem Resumes.keeps {w u : State} (h : Resumes w u) : Keeps [.now, .comb, .sense, .units, .cache, .lamps, .flash, .claims, .slots,
    .missed, .settings, .setup, .portIn, .portOut, .counters, .pending] w u := by
  rewrite [h]
  refine Keeps.sub (keeps_cons (p := .now) rfl (keeps_cons (p := .comb) rfl (keeps_cons (p := .sense) rfl
    (keeps_cons (p := .lamps) rfl (Keeps.append (keeps_cons (p := .units) rfl (keeps_cons (p := .cache) rfl
      (keeps_cons (p := .flash) rfl (keeps_cons (p := .claims) rfl (keeps_cons (p := .counters) rfl (keeps_nil _ _))))))
    (keeps_still rfl rfl rfl rfl rfl)))))) ?_
  decide

theorem Resumes.outbox {w u : State} (h : Resumes w u) : u.outbox = w.outbox := by
  rewrite [h]
  rfl

theorem Resumes.tallies {w u : State} (h : Resumes w u) : u.tallies = w.tallies := by
  rewrite [h]
  rfl

/-- The COMBINATION notice follows a change of UNSETTLED (R1). -/
theorem State.announce_listed {s u : State} {x : Bool} (h : u.comb = { s.comb with
    unsettled := x, attachSince := u.comb.attachSince, parkSince := u.comb.parkSince, entryWaiting := u.comb.entryWaiting }) :
    u.announce s = u.listed s := by
  have hiff : u.combSummary = s.combSummary ↔ u.comb.unsettled = s.comb.unsettled := by
    rewrite [State.combSummary_eq_iff, h]
    exact ⟨fun ⟨_, hu, _⟩ => hu, fun hu => ⟨rfl, hu, rfl, rfl, rfl⟩⟩
  exact if_congr hiff rfl rfl

/-- What the outcome of an answer leaves for the walk to go on: the line as it was, freed, and the offers as they stood. -/
structure Hands (s w : State) : Prop where
  line : w.line = { s.line with tx := none }
  offered : w.walker.offered = s.walker.offered
  owed : w.walker.owed = s.walker.owed
  reports : w.walker.lampReports = s.walker.lampReports
  comb : w.comb = { s.comb with unsettled := w.comb.unsettled }

/-- An answer after which the walk goes on with `step` (R33, R45). -/
theorem exec_goesOn {s w : State} {t : Transaction} {since : Nat} (h : Receives s t since []) {status : Byte} {payload : List Byte}
    (hl : payload.length ≤ 8) {step : Step}
    (hx : (s.heard t.target status).handOutcome t status (s.judgeContent t status payload) = w.offer step) (hw : Hands s w)
    (hgap : s.line.gapSince = none) (hu : s.line.urgent = []) (hr : ReportAtMost s.walker)
    (hstate : s.comb.state = .building ∨ s.comb.state = .serving) (hstep : ∀ p, step ≠ .lampReport p)
    (ha : step = .probe → w.walker.active = true) :
    ∃ u, exec (.answerFrameComplete (answerBytes status payload)) s = .next (u.listed s) ∧ Resumes w u ∧ WalkGoesOn s u step := by
  have hready : LineReady w := by
    refine ⟨by rw [hw.line], by rw [hw.line]; exact hgap, ?_⟩
    rewrite [hw.comb]
    exact hstate
  have hurgent : w.line.urgent = [] := by rw [hw.line]; exact hu
  obtain ⟨hs, hgo⟩ := State.offer_goesOn hready hurgent (by rw [ReportAtMost, hw.offered]; exact hr) hstep ha
  have he := exec_answer h (status := status) hl
  rewrite [hx, State.resumed] at he
  generalize (w.offer step).lineWork = v at *
  refine ⟨_, he.trans (congrArg _ ?_), hs.resumes, (hgo.of_line hw.line hw.offered hw.owed hw.reports).retimed⟩
  refine State.announce_listed (x := w.comb.unsettled) ?_
  have hv : v.comb = w.comb := by rw [hs]
  rw [State.retimed_comb, hv, hw.comb]

/-! ### The record of a placed unit (R49, R50, R85 to R87) -/

theorem State.unitAt_eq_some_append {s : State} {p : Nat} {v : UnitRecord} (h : s.unitAt p = none) (hv : v.position = p) :
    (s.units ++ [v]).find? (fun u => u.position == p) = some v := by
  have h' : s.units.find? (fun u => u.position == p) = none := h
  simp [List.find?_append, h', hv]

/-- The record that a PLACE creates, as the cache decides (R85 to R87). -/
theorem State.placeRecord_restored {s : State} {u : UnitRecord} {r : CacheRecord} (hc : s.cachedAs u.identity = some r)
    (hm : r.signature = u.signature ∧ r.generation = u.generation) :
    s.placeRecord u = { s with
      units := s.units ++ [u.restoreFrom r]
      cache := s.cache.filter fun r => r.identity ≠ u.identity
      counters := { s.counters with cacheRestores := bumped s.counters.cacheRestores } } := by
  have hm' : r.isMatch u.generation u.signature = true := by simp [CacheRecord.isMatch, hm.1, hm.2]
  simp only [State.placeRecord, hc, hm', if_true]
  rfl

theorem State.placeRecord_listed {s : State} {u : UnitRecord}
    (hc : ∀ r, s.cachedAs u.identity = some r → ¬ (r.signature = u.signature ∧ r.generation = u.generation)) :
    s.placeRecord u = { s with
      units := s.units ++ [{ u with state := .listing }]
      cache := s.cache.filter fun r => r.identity ≠ u.identity } := by
  cases hr : s.cachedAs u.identity with
  | none =>
    have hf : s.cache.filter (fun r => r.identity ≠ u.identity) = s.cache := by
      refine List.filter_eq_self.mpr fun r hr' => ?_
      have := List.find?_eq_none.mp hr r hr'
      simpa using this
    simp only [State.placeRecord, hr, hf]
  | some r =>
    have hm : r.isMatch u.generation u.signature = false := by
      rewrite [Bool.eq_false_iff]
      intro hm
      simp only [CacheRecord.isMatch, Bool.and_eq_true, beq_iff_eq] at hm
      exact hc r hr hm
    simp only [State.placeRecord, hr, hm, Bool.false_eq_true, if_false]
    rfl

/-- The state in which a placed unit's record stands and its UNIT notice has been offered. -/
def State.placing (s : State) (p : Nat) (v : UnitRecord) (cache : List CacheRecord) (restores : Nat) : State :=
  ({ s.forgetPosition p with
    units := s.units ++ [v], cache, counters := { s.counters with cacheRestores := restores }
    comb := { s.comb with unsettled := true } } : State).noticeUnit p (unitStateCode v.state) v.identity

theorem State.placeAccepted_eq {s : State} {p : Nat} {identity : Word32} {g : Generation} {signature : Word16} {v : UnitRecord}
    {cache : List CacheRecord} {restores : Nat} (hle : p ≤ s.walker.pointer) (hp : s.unitAt p = none) (hv : v.position = p)
    (hus : v.unsettles = true)
    (hrec : (s.forgetPosition p).placeRecord (newUnit p identity g signature) = { s.forgetPosition p with
      units := s.units ++ [v], cache, counters := { s.counters with cacheRestores := restores } }) :
    s.placeAccepted p identity g signature
      = (s.placing p v cache restores).offer (if v.state = .bridging then .bridge p else .listOpen p) := by
  have hfind : (s.units ++ [v]).find? (fun u => u.position == p) = some v := State.unitAt_eq_some_append hp hv
  have hany : (s.units ++ [v]).any UnitRecord.unsettles = true := by simp [hus]
  have ht : (((s.forgetPosition p).placeRecord (newUnit p identity g signature)).refreshUnsettled).noticeUnitAt p
      = s.placing p v cache restores := by
    rewrite [hrec, State.noticeUnitAt, State.refreshUnsettled]
    simp only [State.unitAt, hfind, hany, State.placing]
    rfl
  have hunit : (s.placing p v cache restores).unitAt p = some v := by
    simp only [State.placing, State.unitAt, State.noticeUnit_units, hfind]
  rewrite [State.placeAccepted, if_neg (Nat.not_lt.mpr hle)]
  dsimp only
  rewrite [ht, hunit]
  obtain ⟨position, identity', generation, signature', state⟩ := v
  cases state <;> rfl

section
variable (s : State) (p : Nat) (v : UnitRecord) (cache : List CacheRecord) (restores : Nat) (clash full : Bool)

theorem State.placing_outbox : (s.placing p v cache restores).outbox
    = s.outbox.unitNotice s p (byteOf (unitStateCode v.state)) v.identity := by
  rewrite [State.placing, State.noticeUnit_outbox]
  exact Outbox.unitNotice_settings rfl _ _ _ _

theorem State.placing_hands (hc : clash = s.comb.identityClash) (hf : full = s.comb.chainFull) :
    Hands s ((s.answeredGood clash full).placing p v cache restores) := by
  subst hc hf
  refine ⟨?_, ?_, ?_, ?_, ?_⟩
  · rewrite [State.placing, State.noticeUnit_line]
    rfl
  · rewrite [State.placing, State.noticeUnit_walker]
    rfl
  · rewrite [State.placing, State.noticeUnit_walker]
    rfl
  · rewrite [State.placing, State.noticeUnit_walker]
    rfl
  · rewrite [State.placing, State.noticeUnit_comb]
    rfl

theorem State.placing_keeps : Keeps [.now, .sense, .lamps, .flash, .claims, .slots, .settings, .setup, .portIn, .pending] s
    (s.placing p v cache restores) := by
  have hi : (s.placing p v cache restores).inlets = s.inlets := by
    rewrite [State.placing, State.noticeUnit_inlets]
    rfl
  intro x hx
  cases x with
  | slots => exact slots_same hi
  | portIn => exact portIn_same hi
  | now | sense | lamps | flash | claims | settings | setup | pending => simp [Part.same, State.placing]
  | comb | line | walker | units | cache | counters | missed | portOut => simp at hx
end

theorem State.placing_tallies (s : State) (p : Nat) (v : UnitRecord) (cache : List CacheRecord) (restores : Nat) :
    (s.placing p v cache restores).tallies = { s.tallies with cacheRestores := restores } := by
  rewrite [State.placing, State.noticeUnit_tallies]
  rfl

/-- A PLACE accepted creates the record `v` and the walk goes on with its BRIDGE or its LIST-OPEN (R49, R50). -/
theorem exec_placeAccepted {s : State} {t : Transaction} {since p : Nat} {identity : Word32} {g : Generation} {signature : Word16}
    {status : Byte} (h : Receives s t since []) (ho : t.originator = .bringUp (.place p identity g signature)) (hk : t.kind = .place)
    (h0 : t.target = 0) (hgap : s.line.gapSince = none) (hu : s.line.urgent = []) (hr : ReportAtMost s.walker)
    (hstate : s.comb.state = .building ∨ s.comb.state = .serving) (hle : p ≤ s.walker.pointer) (hp : s.unitAt p = none)
    (hnone : s.unitAt 0 = none) (hres : answerResult status = .accept) {v : UnitRecord} {cache : List CacheRecord} {restores : Nat}
    (hv : v.position = p) (hid : v.identity = identity) (hus : v.unsettles = true)
    (hrec : ∀ f : State, f.cache = s.cache → f.counters.cacheRestores = s.counters.cacheRestores →
      f.placeRecord (newUnit p identity g signature) = { f with
        units := f.units ++ [v], cache, counters := { f.counters with cacheRestores := restores } }) :
    ∃ u, exec (.answerFrameComplete (answerBytes status [])) s = .next (u.listed s)
      ∧ u.cache = cache
      ∧ u.comb = { s.comb with
          unsettled := true
          attachSince := u.comb.attachSince, parkSince := u.comb.parkSince, entryWaiting := u.comb.entryWaiting }
      ∧ u.walker.pointer = s.walker.pointer ∧ u.walker.active = s.walker.active
      ∧ u.counters.answersGood = bumped s.counters.answersGood
      ∧ u.units = s.units ++ [v]
      ∧ WalkGoesOn s u (if v.state = .bridging then .bridge p else .listOpen p)
      ∧ u.outbox = s.outbox.unitNotice s p (byteOf (unitStateCode v.state)) identity
      ∧ u.counters.cacheRestores = restores
      ∧ Keeps [.now, .sense, .lamps, .flash, .claims, .slots, .settings, .setup, .portIn, .pending] s u := by
  have hx : (s.heard t.target status).handOutcome t status (s.judgeContent t status [])
      = ((s.answeredGood s.comb.identityClash s.comb.chainFull).placing p v cache restores).offer
          (if v.state = .bridging then .bridge p else .listOpen p) := by
    rewrite [State.handOutcome_bringUp ho, State.heard_probe h0 hnone,
      State.judgeContent_accepted (by rw [hk]; exact List.mem_singleton_self 0) hres]
    exact State.placeAccepted_eq (s := s.answeredGood s.comb.identityClash s.comb.chainFull) hle hp hv hus
      (hrec ((s.answeredGood s.comb.identityClash s.comb.chainFull).forgetPosition p) rfl rfl)
  obtain ⟨u, he, hres, hgo⟩ := exec_goesOn h (by decide) hx (s.placing_hands p v cache restores _ _ rfl rfl) hgap hu hr hstate
    (by split <;> exact fun q hq => by cases hq) (by split <;> exact fun hq => by cases hq)
  have hkeep := hres.keeps
  have hout := hres.outbox
  have hw {γ : Type} (f : Walker → γ) (hf : ∀ (w : Walker) o e l, f { w with offered := o, owed := e, lampReports := l } = f w) :
      f u.walker = f ((s.answeredGood s.comb.identityClash s.comb.chainFull).forgetPosition p).walker := by
    have := congrArg (fun x : State => f x.walker) hres
    refine this.trans ((hf _ _ _ _).trans (congrArg f ?_))
    rw [State.placing, State.noticeUnit_walker]
  have htall : u.tallies = _ := hres.tallies.trans (State.placing_tallies _ _ _ _ _)
  have hgood : u.tallies.answersGood = bumped s.counters.answersGood := by rw [htall]; rfl
  have hrestores : u.tallies.cacheRestores = restores := by rw [htall]
  have hpointer := hw (·.pointer) fun _ _ _ _ => rfl
  have hactive := hw (·.active) fun _ _ _ _ => rfl
  refine ⟨u, he, ?_, ?_, hpointer, hactive, hgood, ?_, hgo, ?_, hrestores, ?_⟩
  · refine Eq.trans (hkeep .cache (by decide)) ?_
    rw [State.placing, State.noticeUnit_cache]
  · refine Eq.trans (hkeep .comb (by decide)) ?_
    rewrite [State.placing, State.noticeUnit_comb]
    rfl
  · refine Eq.trans (hkeep .units (by decide)) ?_
    rewrite [State.placing, State.noticeUnit_units]
    rfl
  · rewrite [hout, State.placing_outbox, hid]
    exact Outbox.unitNotice_settings rfl _ _ _ _
  · have h1 : Keeps [.now, .sense, .lamps, .flash, .claims, .slots, .settings, .setup, .portIn, .pending] s
        (s.answeredGood s.comb.identityClash s.comb.chainFull) := (s.answeredGood_keeps _ _).sub (by decide)
    exact (h1.trans (State.placing_keeps _ p v cache restores)).trans (hkeep.sub (by decide))

theorem admittedLengths_place (g : Option Generation) : admittedLengths .place .accept g ⊆ [0] := by
  cases g <;> exact List.Subset.refl _

/-- A PLACE answered otherwise, or accepted above the pointer, ends the walk (R49, R60). -/
theorem State.stepAnswered_place_ends {s f : State} {t : Transaction} {p : Nat} {identity : Word32} {g : Generation}
    {signature : Word16} {status : Byte} {payload : List Byte} (hk : t.kind = .place) (hf : f.walker.pointer = s.walker.pointer)
    (h : ¬ (answerResult status = .accept ∧ payload = []) ∨ s.walker.pointer < p) :
    f.stepAnswered (.place p identity g signature) (s.judgeContent t status payload) = f.endWalk := by
  by_cases hacc : answerResult status = .accept ∧ payload.length = 0
  · obtain ⟨hres, hlen⟩ := hacc
    obtain rfl := List.length_eq_zero_iff.mp hlen
    have hlt : f.walker.pointer < p := by
      rewrite [hf]
      exact h.resolve_left fun hn => hn ⟨hres, rfl⟩
    rw [State.judgeContent_accepted (by rw [hk]; exact List.mem_singleton_self 0) hres]
    exact if_pos hlt
  · have hn := State.judgeContent_refused (s := s) (t := t) (n := 0) (by rw [hk]; exact admittedLengths_place _) hacc
    rcases hj : s.judgeContent t status payload with _ | ⟨r, d⟩
    · rfl
    · cases r with
      | accept => exact absurd hj (hn d)
      | decline | inhibit | unknownKind => rfl

/-- Settles O18: the record by the cache, the walk's end by `endWalk`. -/
theorem placeOutcomesDecideRecord : Obligations.PlaceOutcomesDecideRecord := by
  refine ⟨fun s t since p identity g signature status h ho hk h0 hgap hu ha hr hstate hle h1 hp hnone hres => ?_,
    fun s t p identity g signature hr ht ho hk h0 hnone hm => ⟨fun since status payload h hl hend => ?_,
      fun c now counters hf hlast => ?_⟩⟩
  · have hcache : (s.cache.filter fun r => decide (r.identity ≠ identity)) = s.cache.filter fun r => r.identity ≠ identity := rfl
    by_cases hm : ∃ r, s.cachedAs identity = some r ∧ r.signature = signature ∧ r.generation = g
    · obtain ⟨r, hc, hsig, hgen⟩ := hm
      obtain ⟨u, he, hca, hco, hpt, hac, hgood, hun, hgo, hout, hre, hkeep⟩ := exec_placeAccepted
        (v := (newUnit p identity g signature).restoreFrom r) (restores := bumped s.counters.cacheRestores)
        (cache := s.cache.filter fun r => r.identity ≠ identity) h ho hk h0 hgap hu hr hstate hle hp hnone hres rfl rfl rfl
        fun f hf hb => by
          have hc' : f.cachedAs (newUnit p identity g signature).identity = some r := by
            rewrite [State.cachedAs, hf]
            exact hc
          rewrite [State.placeRecord_restored hc' ⟨hsig, hgen⟩, hf, hb]
          rfl
      refine ⟨u, he, hca, hco, hpt, hac.trans ha, hgood, fun r' hr' hs' hg' => ?_, fun hn => absurd ⟨hsig, hgen⟩ (hn r hc), hkeep⟩
      obtain rfl : r = r' := Option.some.inj (hc.symm.trans hr')
      exact ⟨hun, hgo, hout, hre⟩
    · have hn (r : CacheRecord) (hc : s.cachedAs identity = some r) : ¬ (r.signature = signature ∧ r.generation = g) :=
        fun e => hm ⟨r, hc, e⟩
      obtain ⟨u, he, hca, hco, hpt, hac, hgood, hun, hgo, hout, hre, hkeep⟩ := exec_placeAccepted
        (v := { newUnit p identity g signature with state := .listing }) (restores := s.counters.cacheRestores)
        (cache := s.cache.filter fun r => r.identity ≠ identity) h ho hk h0 hgap hu hr hstate hle hp hnone hres rfl rfl rfl
        fun f hf hb => by
          have hc' : ∀ r, f.cachedAs (newUnit p identity g signature).identity = some r →
              ¬ (r.signature = signature ∧ r.generation = g) := by
            intro r
            rewrite [State.cachedAs, hf]
            exact hn r
          rewrite [State.placeRecord_listed hc', hf, ← hb]
          rfl
      exact ⟨u, he, hca, hco, hpt, hac.trans ha, hgood, fun r hr hs hg => absurd ⟨hs, hg⟩ (hn r hr),
        fun _ => ⟨hun, hgo, hout, hre⟩, hkeep⟩
  · have hx : (s.heard t.target status).handOutcome t status (s.judgeContent t status payload)
        = (s.answeredGood s.comb.identityClash s.comb.chainFull).endWalk := by
      rewrite [State.handOutcome_bringUp ho, State.heard_probe h0 hnone]
      exact State.stepAnswered_place_ends hk rfl hend
    obtain ⟨he, hw, hline, hgood, hkeep⟩ := walkEnds_answer h hl hm hx
    exact ⟨_, he, hw, hline, hgood, hkeep⟩
  · obtain ⟨u, he, hnow, hcomb, rest⟩ := exec_walkCallFails (clash := s.comb.identityClash) hr ht hf hlast hm fun f hi => by
      obtain ⟨k, q, d, o, n, ph⟩ := t
      obtain rfl : o = _ := ho
      obtain rfl : q = 0 := h0
      rewrite [← hi]
      rfl
    refine ⟨u, he.trans (congrArg _ (if_congr (by simp) rfl rfl)), hnow, hcomb, rest⟩

end Sys2Proof.Machine
end

section
/-! PROOFS. Listing and bridging (R52, R65 to R75): O19, O20, O21. -/
namespace Sys2Proof.Machine

/-! ### The flags of a unit that is not yet serving (R31, R55) -/

/-- The state in which the answer of a unit in bring-up is handed on: only the rear-activity flag is remembered. -/
def State.overheard (s : State) (rear : Bool) (cache : List CacheRecord) : State :=
  { s with
    line := { s.line with tx := none }
    counters := { s.counters with answersGood := bumped s.counters.answersGood }
    walker := { s.walker with rearSeen := rear }
    cache }

/-- In an active walk the flags of a unit that does not serve lead to nothing (R55, R56). -/
theorem State.heard_bringUp {s : State} {p : Nat} {v : UnitRecord} (hv : s.unitAt p = some v) (hs : v.state ≠ .serving)
    (ha : s.walker.active = true) (status : Byte) : ∃ rear, s.heard p status = s.overheard rear s.cache := by
  have hv' : ((s.count .answersGood).setTx none).unitAt p = some v := hv
  have hk : ∀ b, ∃ rear, State.handRear ((s.count .answersGood).setTx none) p b = s.overheard rear s.cache := by
    intro b
    unfold State.handRear
    split
    · have hdue : (s.walker.extDue || (b && !s.walker.rearSeen && s.comb.state == .serving && !s.walker.active
          && !s.comb.chainFull && !s.comb.identityClash)) = s.walker.extDue := by simp [ha]
      exact ⟨b, congrArg (fun d => { s.overheard b s.cache with walker := { s.walker with rearSeen := b, extDue := d } }) hdue⟩
    · exact ⟨s.walker.rearSeen, rfl⟩
  unfold State.heard State.handFlags
  rewrite [hv']
  obtain ⟨position, identity, generation, signature, state⟩ := v
  cases generation with
  | a => exact ⟨s.walker.rearSeen, rfl⟩
  | b =>
    obtain ⟨rear, hr⟩ := hk (answerRear status)
    refine ⟨rear, ?_⟩
    dsimp only
    rewrite [if_neg hs]
    exact hr

section
variable {s : State} {t : Transaction} {since : Nat} {step : Step} {v : UnitRecord}

theorem Lists.originator (h : Lists s t since step v) : t.originator = .bringUp step := by rw [h.call]; rfl
theorem Lists.kind (h : Lists s t since step v) : t.kind = (Originator.bringUp step).call.1 := by rw [h.call]; rfl

/-- The outcome of a listing call is handed on with the flags heard. -/
theorem Lists.handed (h : Lists s t since step v) (ht : t.target = step.target) (status : Byte) (payload : List Byte) :
    ∃ rear, (s.heard t.target status).handOutcome t status (s.judgeContent t status payload)
      = (s.overheard rear s.cache).stepAnswered step (s.judgeContent t status payload) := by
  obtain ⟨rear, hr⟩ := State.heard_bringUp h.unit (by rw [h.listing]; decide) h.active status
  exact ⟨rear, by rw [State.handOutcome_bringUp h.originator, ht, hr]⟩
end

/-! ### One record written, and the walk goes on -/

section
variable {s : State} {t : Transaction} {since p : Nat} {call next : Step} {v : UnitRecord} {status : Byte} {payload : List Byte}
  {rear : Bool} {cache : List CacheRecord} {φ : UnitRecord → UnitRecord}

/-- The record at `p` written and the presence list held. -/
def State.noted (f : State) (p : Nat) (φ : UnitRecord → UnitRecord) (list : Word32) : State :=
  (f.modifyUnit p φ).modifyWalker fun w => { w with presenceList := list }

theorem unitAt_modified (hφ : ∀ u, (φ u).position = u.position) (hv : s.unitAt p = some v) (f : State) (hf : f.units = s.units) :
    (f.modifyUnit p φ).unitAt p = some (φ v) ∧ ∀ q, q ≠ p → (f.modifyUnit p φ).unitAt q = s.unitAt q := by
  have hu (q : Nat) : f.unitAt q = s.unitAt q := by rw [State.unitAt, State.unitAt, hf]
  refine ⟨?_, fun q hq => ?_⟩
  · rewrite [State.unitAt_modifyUnit _ _ _ hφ, if_pos rfl, hu, hv]
    rfl
  · rw [State.unitAt_modifyUnit _ _ _ hφ, if_neg hq, hu]

/-- A record written without a change of the unit's state: the walk goes on in silence. -/
theorem Lists.continues (h : Lists s t since call v) (hp : call.target = p) (hl : payload.length ≤ 8)
    (hφ : ∀ u, (φ u).position = u.position) {list : Word32} (hn : ∀ q, next ≠ .lampReport q) (hn' : next ≠ .probe)
    (hx : (s.heard t.target status).handOutcome t status (s.judgeContent t status payload)
      = ((s.overheard rear cache).noted p φ list).offer next) :
    ∃ u, exec (.answerFrameComplete (answerBytes status payload)) s = .next (u.listed s) ∧ u.cache = cache
      ∧ Continues s u p (φ v) next list := by
  subst hp
  obtain ⟨u, he, hres, hgo⟩ := exec_goesOn (w := (s.overheard rear cache).noted call.target φ list) h.receives hl hx
    ⟨rfl, rfl, rfl, rfl, rfl⟩ h.gap h.urgent h.offered h.walking hn fun e => absurd e hn'
  obtain ⟨h1, h2⟩ := unitAt_modified hφ h.unit (s.overheard rear cache) rfl
  have hkeep := hres.keeps
  have hunits (q : Nat) : u.unitAt q = ((s.overheard rear cache).modifyUnit call.target φ).unitAt q := by
    have hu : u.units = ((s.overheard rear cache).modifyUnit call.target φ).units := hkeep .units (by decide)
    rw [State.unitAt, State.unitAt, hu]
  refine ⟨u, he, hkeep .cache (by decide), ⟨⟨(hunits _).trans h1, fun q hq => (hunits q).trans (h2 q hq), hgo, ?_, ?_, ?_, ?_⟩, ?_, ?_⟩⟩
  · have hw := congrArg State.walker hres
    exact ⟨congrArg (·.pointer) hw, (congrArg (·.active) hw).trans h.active, congrArg (·.presenceList) hw⟩
  · have hc : u.comb = _ := hkeep .comb (by decide)
    rewrite [hc]
    rfl
  · exact congrArg (·.answersGood) (hkeep .counters (by decide) : u.counters = _)
  · refine Keeps.trans (t := s.overheard rear cache) ?_ (Keeps.trans (t := (s.overheard rear cache).noted call.target φ list) ?_
      (hkeep.sub (by decide)))
    · refine Keeps.sub (keeps_cons (p := .now) rfl (keeps_cons (p := .sense) rfl (keeps_cons (p := .lamps) rfl
        (keeps_cons (p := .flash) rfl (keeps_cons (p := .claims) rfl (keeps_still rfl rfl rfl rfl rfl)))))) ?_
      decide
    · refine Keeps.sub (keeps_cons (p := .now) rfl (keeps_cons (p := .sense) rfl (keeps_cons (p := .lamps) rfl
        (keeps_cons (p := .flash) rfl (keeps_cons (p := .claims) rfl (keeps_still rfl rfl rfl rfl rfl)))))) ?_
      decide
  · exact hres.outbox
  · have hc : u.comb = _ := hkeep .comb (by decide)
    rewrite [hc]
    rfl

/-- The change of a unit's state, field by field (R3, R53). -/
theorem State.setUnitState_comb' (f : State) (p : Nat) (st : UnitState) : (f.setUnitState p st).comb = { f.comb with
    unsettled := (f.units.map fun u => if u.position = p then { u with state := st } else u).any UnitRecord.unsettles } := by
  rewrite [State.setUnitState, State.noticeUnitAt_comb]
  rfl

theorem State.setUnitState_units' (f : State) (p : Nat) (st : UnitState) :
    (f.setUnitState p st).units = (f.modifyUnit p fun u => { u with state := st }).units := by
  rewrite [State.setUnitState, State.noticeUnitAt_units]
  rfl

theorem State.setUnitState_outbox {f : State} {p : Nat} {w : UnitRecord} (hw : f.unitAt p = some w) (st : UnitState) :
    (f.setUnitState p st).outbox = f.outbox.unitNotice f p (byteOf (unitStateCode st)) w.identity := by
  have hu : ((f.modifyUnit p fun u => { u with state := st }).refreshUnsettled).unitAt p = some { w with state := st } := by
    have := State.unitAt_modifyUnit f p p (f := fun u => { u with state := st }) fun _ => rfl
    rewrite [if_pos rfl, hw] at this
    exact this
  rewrite [State.setUnitState, State.noticeUnitAt, hu]
  dsimp only
  rewrite [State.noticeUnit_outbox]
  exact Outbox.unitNotice_settings rfl _ _ _ _

theorem State.setUnitState_keeps (f : State) (p : Nat) (st : UnitState) :
    Keeps [.now, .sense, .line, .walker, .cache, .lamps, .flash, .claims, .slots, .settings, .setup, .portIn, .pending] f
      (f.setUnitState p st) := by
  intro x hx
  cases x with
  | slots => exact slots_same (f.setUnitState_inlets p st)
  | portIn => exact portIn_same (f.setUnitState_inlets p st)
  | now => exact f.setUnitState_now p st
  | sense => exact f.setUnitState_sense p st
  | line => exact f.setUnitState_line p st
  | walker => exact f.setUnitState_walker p st
  | cache => exact f.setUnitState_cache p st
  | lamps => exact f.setUnitState_lamps p st
  | flash => exact f.setUnitState_flash p st
  | claims => exact f.setUnitState_claims p st
  | settings => exact f.setUnitState_settings p st
  | setup => exact f.setUnitState_setup p st
  | pending => exact f.setUnitState_pending p st
  | comb | units | counters | missed | portOut => simp at hx

/-- A record written with a change of the unit's state: its UNIT notice is offered and BRIDGE follows. -/
theorem Lists.bridges (h : Lists s t since call v) (hp : call.target = p) (hl : payload.length ≤ 8)
    (hφ : ∀ u, (φ u).position = u.position ∧ (φ u).identity = u.identity) {st : UnitState}
    (hx : (s.heard t.target status).handOutcome t status (s.judgeContent t status payload)
      = (((s.overheard rear cache).noted p φ 0).setUnitState p st).offer (.bridge p)) :
    ∃ u, exec (.answerFrameComplete (answerBytes status payload)) s = .next (u.listed s) ∧ u.cache = cache
      ∧ Bridges s u p { φ v with state := st } := by
  subst hp
  have hsame := State.setUnitState_keeps ((s.overheard rear cache).noted call.target φ 0) call.target st
  have hline : (((s.overheard rear cache).noted call.target φ 0).setUnitState call.target st).line = _ := hsame .line (by decide)
  have hwalker : (((s.overheard rear cache).noted call.target φ 0).setUnitState call.target st).walker = _ :=
    hsame .walker (by decide)
  have hcomb := State.setUnitState_comb' ((s.overheard rear cache).noted call.target φ 0) call.target st
  have hunits := State.setUnitState_units' ((s.overheard rear cache).noted call.target φ 0) call.target st
  have hcache : (((s.overheard rear cache).noted call.target φ 0).setUnitState call.target st).cache = _ := hsame .cache (by decide)
  have htall := State.setUnitState_tallies ((s.overheard rear cache).noted call.target φ 0) call.target st
  obtain ⟨h1, h2⟩ := unitAt_modified (fun u => (hφ u).1) h.unit (s.overheard rear cache) rfl
  have h1' : ((s.overheard rear cache).noted call.target φ 0).unitAt call.target = some (φ v) := h1
  have hout := State.setUnitState_outbox h1' st
  obtain ⟨h3, h4⟩ := unitAt_modified (φ := fun u => { u with state := st }) (fun _ => rfl) h1
    ((s.overheard rear cache).noted call.target φ 0) rfl
  generalize ((s.overheard rear cache).noted call.target φ 0).setUnitState call.target st = w at *
  have hands : Hands s w := by
    refine ⟨hline, ?_, ?_, ?_, ?_⟩
    · rw [hwalker]; rfl
    · rw [hwalker]; rfl
    · rw [hwalker]; rfl
    · rw [hcomb]; rfl
  obtain ⟨u, he, hres, hgo⟩ := exec_goesOn h.receives hl hx hands h.gap h.urgent h.offered h.walking (fun q hq => by cases hq)
    fun hq => by cases hq
  have hkeep := hres.keeps
  have huu : u.units = w.units := hkeep .units (by decide)
  have hunit (q : Nat) : u.unitAt q = (((s.overheard rear cache).noted call.target φ 0).modifyUnit call.target
      fun u => { u with state := st }).unitAt q := by
    rw [State.unitAt, State.unitAt, huu, hunits]
  refine ⟨u, he, Eq.trans (hkeep .cache (by decide)) hcache, ⟨⟨(hunit _).trans h3, fun q hq => (hunit q).trans ((h4 q hq).trans (h2 q hq)),
    hgo, ?_, ?_, ?_, ?_⟩, ?_, ?_⟩⟩
  · have hw := congrArg State.walker hres
    exact ⟨(congrArg (·.pointer) hw).trans (congrArg (·.pointer) hwalker),
      ((congrArg (·.active) hw).trans (congrArg (·.active) hwalker)).trans h.active,
      (congrArg (·.presenceList) hw).trans (congrArg (·.presenceList) hwalker)⟩
  · have hc : u.comb = _ := hkeep .comb (by decide)
    rewrite [hc, hcomb]
    rfl
  · have hu : u.tallies = w.tallies := by
      rewrite [hres]
      rfl
    exact congrArg (·.answersGood) (hu.trans htall)
  · refine Keeps.trans (t := s.overheard rear cache) ?_ (Keeps.trans (t := (s.overheard rear cache).noted call.target φ 0) ?_
      (Keeps.trans (hsame.sub ?_) (hkeep.sub ?_)))
    · refine Keeps.sub (keeps_cons (p := .now) rfl (keeps_cons (p := .sense) rfl (keeps_cons (p := .lamps) rfl
        (keeps_cons (p := .flash) rfl (keeps_cons (p := .claims) rfl (keeps_still rfl rfl rfl rfl rfl)))))) ?_
      decide
    · refine Keeps.sub (keeps_cons (p := .now) rfl (keeps_cons (p := .sense) rfl (keeps_cons (p := .lamps) rfl
        (keeps_cons (p := .flash) rfl (keeps_cons (p := .claims) rfl (keeps_still rfl rfl rfl rfl rfl)))))) ?_
      decide
    · decide
    · decide
  · rewrite [hres.outbox, hout]
    exact (Outbox.unitNotice_settings rfl _ _ _ _).trans rfl
  · have hc : u.comb = _ := hkeep .comb (by decide)
    have hcu : u.comb.unsettled = w.comb.unsettled := by rw [hc]
    rewrite [hcu, hcomb, huu, hunits]
    rfl
end

/-! ### The listing goes on, or ends (R68, R70, R71) -/

/-- The search of the third pass finds the lowest present index from `i` on (R68). -/
theorem nextPresent_find (list : Word32) (i : Nat) : NextPresent list i ((presentIndices list).find? fun j => decide (i ≤ j)) := by
  rewrite [presentIndices, List.find?_filter]
  generalize h : List.find? _ (List.range 32) = o
  cases o with
  | none =>
    intro j hi hj
    have := List.find?_eq_none.mp h j (List.mem_range.mpr hj)
    simpa [hi] using this
  | some j =>
    obtain ⟨hp, hj, hb⟩ := List.find?_range_eq_some.mp h
    simp only [decide_eq_true_eq] at hp
    refine ⟨hp.2, List.mem_range.mp hj, hp.1, fun k hi hk => ?_⟩
    have := hb k hk
    simpa [hi] using this

theorem State.listFrom_some {f : State} {p i j : Nat}
    (h : ((presentIndices f.walker.presenceList).find? fun j => decide (i ≤ j)) = some j) :
    f.listFrom p i = f.offer (.listEntry p j) := by
  rw [State.listFrom, h]

theorem State.listFrom_none {f : State} {p i : Nat}
    (h : ((presentIndices f.walker.presenceList).find? fun j => decide (i ≤ j)) = none) : f.listFrom p i = f.endListing p := by
  rw [State.listFrom, h]

section
variable {s : State} {t : Transaction} {since p : Nat} {call : Step} {v : UnitRecord} {status : Byte} {payload : List Byte}
  {rear : Bool} {cache : List CacheRecord} {φ : UnitRecord → UnitRecord}

/-- The third pass goes on, or the listing ends normally (R68, R71). -/
theorem Lists.passesOn (h : Lists s t since call v) (hp : call.target = p) (hl : payload.length ≤ 8)
    (hφ : ∀ u, (φ u).position = u.position ∧ (φ u).identity = u.identity) {i : Nat}
    (hx : (s.heard t.target status).handOutcome t status (s.judgeContent t status payload)
      = ((s.overheard rear cache).modifyUnit p φ).listFrom p i) :
    ∃ u j, exec (.answerFrameComplete (answerBytes status payload)) s = .next (u.listed s) ∧ u.cache = cache
      ∧ NextPresent s.walker.presenceList i j ∧ PassesOn s u p (φ v) j := by
  have hfind := nextPresent_find s.walker.presenceList i
  cases hf : (presentIndices s.walker.presenceList).find? fun j => decide (i ≤ j) with
  | some j =>
    rewrite [State.listFrom_some (f := (s.overheard rear cache).modifyUnit p φ) hf] at hx
    rewrite [hf] at hfind
    obtain ⟨u, he, hc, hgo⟩ := h.continues hp hl (rear := rear) (cache := cache) (fun u => (hφ u).1) (list := s.walker.presenceList) (next := .listEntry p j)
      (fun q hq => by cases hq) (fun hq => by cases hq) hx
    exact ⟨u, some j, he, hc, hfind, hgo⟩
  | none =>
    rewrite [State.listFrom_none (f := (s.overheard rear cache).modifyUnit p φ) hf] at hx
    rewrite [hf] at hfind
    obtain ⟨u, he, hc, hgo⟩ := h.bridges hp hl (rear := rear) (cache := cache) hφ (st := .bridging) hx
    exact ⟨u, none, he, hc, hfind, hgo⟩

/-- The unit is refused (R70). -/
theorem Lists.refuses (h : Lists s t since call v) (hp : call.target = p) (hl : payload.length ≤ 8) {cause : RefusalCause} {named : Nat}
    (hx : (s.heard t.target status).handOutcome t status (s.judgeContent t status payload)
      = (s.overheard rear s.cache).refuseUnit p cause named) :
    ∃ u, exec (.answerFrameComplete (answerBytes status payload)) s = .next (u.listed s) ∧ u.cache = s.cache
      ∧ Refuses s u p v cause named :=
  h.bridges hp hl (φ := fun u => { u with functions := [], partialFlag := false, refusal := some (cause, named) })
    (fun _ => ⟨rfl, rfl⟩) hx

theorem Lists.target (h : Lists s t since call v) : t.target = call.target := by
  rewrite [h.call]
  cases call <;> rfl

theorem Lists.generation (h : Lists s t since call v) : (s.unitAt t.target).map UnitRecord.generation = some v.generation := by
  rewrite [h.target, h.unit]
  rfl
end

/-- What is not an accepted answer of the listing refuses the unit (R66, R67, R69). -/
theorem stepAnswered_unreadable {f : State} {p i : Nat} {line : Line} {answer : Option (AnswerResult × List Byte)}
    (h : ∀ d, answer ≠ some (.accept, d)) :
    f.stepAnswered (.listOpen p) answer = f.refuseUnit p .listUnreadable 0
    ∧ f.stepAnswered (.loadRead p line) answer = f.refuseUnit p .loadUnreadable (lineNumber line)
    ∧ ((∀ d, answer ≠ some (.decline, d)) → f.stepAnswered (.listEntry p i) answer = f.refuseUnit p .entryUnreadable i) := by
  rcases answer with _ | ⟨r, d⟩
  · exact ⟨rfl, rfl, fun _ => rfl⟩
  · cases r with
    | accept => exact absurd rfl (h d)
    | decline => exact ⟨rfl, rfl, fun hd => absurd rfl (hd d)⟩
    | inhibit | unknownKind => exact ⟨rfl, rfl, fun _ => rfl⟩

theorem listed_of_continues {s u : State} {p : Nat} {w : UnitRecord} {next : Step} {list : Word32}
    (h : Continues s u p w next list) : u.listed s = u := if_pos h.settled

/-- The presence list that the bytes of a LIST-OPEN's answer spell, one or four of them (R66, 11.3). -/
theorem presenceOf_bytes {g : Generation} {payload : List Byte} {b3 b2 b1 b0 : Byte}
    (h : g = .a ∧ payload = [b0] ∧ b3 = 0 ∧ b2 = 0 ∧ b1 = 0 ∨ g = .b ∧ payload = [b3, b2, b1, b0]) :
    presenceOf payload = ((b3 ++ b2) ++ b1) ++ b0 := by
  obtain ⟨-, rfl, rfl, rfl, rfl⟩ | ⟨-, rfl⟩ := h
  · refine Eq.trans ?_ (word32Of_four 0 0 0 b0)
    simp [presenceOf, word32Of, natOfBytes]
  · exact word32Of_four b3 b2 b1 b0

theorem admittedLengths_listOpen (g : Generation) :
    admittedLengths .listOpen .accept (some g) = [if g = .a then 1 else 4] := by cases g <;> rfl

/-- The clause of O19 about LIST-OPEN. -/
theorem Lists.listOpen_answered {s : State} {t : Transaction} {since p : Nat} {v : UnitRecord} {status : Byte} {payload : List Byte}
    (hl : payload.length ≤ 8) (h : Lists s t since (.listOpen p) v) :
    (∀ (list : Word32) (b3 b2 b1 b0 : Byte), answerResult status = .accept → list = ((b3 ++ b2) ++ b1) ++ b0 →
      (v.generation = .a ∧ payload = [b0] ∧ b3 = 0 ∧ b2 = 0 ∧ b1 = 0
        ∨ v.generation = .b ∧ payload = [b3, b2, b1, b0]) →
      ∃ u, exec (.answerFrameComplete (answerBytes status payload)) s = .next u ∧ u.cache = s.cache
        ∧ Continues s u p { v with declared := (List.range 32).countP fun i => list.getLsbD i } (.loadRead p .tailL) list)
    ∧ (¬ (answerResult status = .accept ∧ payload.length = if v.generation = .a then 1 else 4) →
      ∃ u, exec (.answerFrameComplete (answerBytes status payload)) s = .next (u.listed s) ∧ u.cache = s.cache
        ∧ Refuses s u p v .listUnreadable 0) := by
  obtain ⟨rear, hx⟩ := h.handed h.target status payload
  have hadm : admittedLengths t.kind .accept ((s.unitAt t.target).map UnitRecord.generation)
      = [if v.generation = .a then 1 else 4] := by rw [h.generation, h.kind]; exact admittedLengths_listOpen _
  refine ⟨fun list b3 b2 b1 b0 hres hlist hpay => ?_, fun hn => ?_⟩
  · have hlen : payload.length = if v.generation = .a then 1 else 4 := by
      obtain ⟨hg, rfl, -⟩ | ⟨hg, rfl⟩ := hpay <;> rw [hg] <;> rfl
    have hans := State.judgeContent_accepted (by rw [hadm, hlen]; exact List.mem_singleton_self _) hres
    have hpres : presenceOf payload = list := (presenceOf_bytes hpay).trans hlist.symm
    have hcount : (presentIndices list).length = (List.range 32).countP fun i => list.getLsbD i :=
      List.countP_eq_length_filter.symm
    have hopen : (s.heard t.target status).handOutcome t status (s.judgeContent t status payload)
        = ((s.overheard rear s.cache).noted p (fun u => { u with declared := (presentIndices list).length }) list).offer
            (.loadRead p .tailL) := by
      rewrite [hx, hans, State.stepAnswered, State.listOpened, hpres]
      rfl
    obtain ⟨u, he, hc, hgo⟩ := h.continues rfl hl (by exact fun _ => rfl) (fun q hq => by cases hq) (fun hq => by cases hq) hopen
    rewrite [listed_of_continues hgo] at he
    rewrite [hcount] at hgo
    exact ⟨u, he, hc, hgo⟩
  · have hne := State.judgeContent_refused (by rw [hadm]; exact List.Subset.refl _) hn
    rewrite [(stepAnswered_unreadable (p := p) (i := 0) (line := .tailL) hne).1] at hx
    exact h.refuses rfl hl hx

/-! ### The answers to LOAD-READ (R67) -/

theorem nextLine_eq_some {l k : Line} : nextLine l = some k ↔ lineNumber k = lineNumber l + 1 := by
  cases l <;> cases k <;> decide

theorem nextLine_eq_none {l : Line} : nextLine l = none ↔ l = .marker := by
  cases l <;> decide

theorem natOfBytes_two (b1 b0 : Byte) : natOfBytes [b1, b0] = (b1 ++ b0).toNat := by
  rewrite [toNat_append_byte]
  simp [natOfBytes]

theorem loadOf_bytes (r1 r0 c1 c0 n : Byte) :
    loadOf [r1, r0, c1, c0, n] = ⟨(r1 ++ r0).toNat, (c1 ++ c0).toNat, n.toNat⟩ := by
  rewrite [← natOfBytes_two, ← natOfBytes_two]
  rfl

section
variable {f : State} {p : Nat} {l : Line} {v : UnitRecord} {payload : List Byte}

theorem State.loadRead_faulty (hv : f.unitAt p = some v) {cause : RefusalCause}
    (hf : (loadOf payload).fault v.generation = some cause) : f.loadRead p l payload = f.refuseUnit p cause (lineNumber l) := by
  simp only [State.loadRead, hv, hf]

theorem State.loadRead_next (hv : f.unitAt p = some v) (hf : (loadOf payload).fault v.generation = none) {k : Line}
    (hk : nextLine l = some k) : f.loadRead p l payload
      = (f.modifyUnit p fun u => { u with loads := u.loads.set l (loadOf payload) }).offer (.loadRead p k) := by
  simp only [State.loadRead, hv, hf, hk]

theorem State.loadRead_last (hv : f.unitAt p = some v) (hf : (loadOf payload).fault v.generation = none)
    (hk : nextLine l = none) : f.loadRead p l payload
      = (f.modifyUnit p fun u => { u with loads := u.loads.set l (loadOf payload) }).listFrom p 0 := by
  simp only [State.loadRead, hv, hf, hk]
end

/-- The test of a load record (R67). -/
theorem Load.fault_genA {x : Load} {g : Generation} (h : g = .a ∧ x.c ≠ 0) : x.fault g = some .genAConstant := if_pos h

theorem Load.fault_limit {x : Load} {g : Generation} (h : g = .b ∨ x.c = 0)
    (hx : 4000 < x.r ∨ 2000 < x.c ∨ 15 < x.n ∨ (x.n = 0 ∧ 0 < x.r + x.c)) : x.fault g = some .loadLimit := by
  have hg : ¬ (g = .a ∧ x.c ≠ 0) := by
    rintro ⟨rfl, hc⟩
    exact h.elim (fun e => by cases e) hc
  rewrite [Load.fault, if_neg hg]
  by_cases hm : 4000 < x.r ∨ 2000 < x.c ∨ 15 < x.n
  · exact if_pos hm
  · have hn : x.n = 0 ∧ 0 < x.r + x.c := by
      simp only [not_or] at hm
      obtain hx | hx | hx | hx := hx
      · exact absurd hx hm.1
      · exact absurd hx hm.2.1
      · exact absurd hx hm.2.2
      · exact hx
    exact (if_neg hm).trans (if_pos hn)

theorem Load.fault_none {x : Load} {g : Generation} (h : g = .b ∨ x.c = 0) (hr : x.r ≤ 4000) (hc : x.c ≤ 2000) (hn : x.n ≤ 15)
    (h0 : x.n = 0 → x.r + x.c = 0) : x.fault g = none := by
  have hg : ¬ (g = .a ∧ x.c ≠ 0) := by
    rintro ⟨rfl, hc⟩
    exact h.elim (fun e => by cases e) hc
  have hm : ¬ (Config.maxR < x.r ∨ Config.maxC < x.c ∨ Config.maxN < x.n) := by
    simp only [Config.maxR, Config.maxC, Config.maxN]
    omega
  rw [Load.fault, if_neg hg, if_neg hm, if_neg]
  rintro ⟨hn0, hpos⟩
  have := h0 hn0
  omega

/-- The clause of O19 about LOAD-READ. -/
theorem Lists.loadRead_answered {s : State} {t : Transaction} {since p : Nat} {v : UnitRecord} {status : Byte} {payload : List Byte}
    {l : Line} (hl : payload.length ≤ 8) (h : Lists s t since (.loadRead p l) v) :
    (∀ (r1 r0 c1 c0 n : Byte) (x : Load), answerResult status = .accept → payload = [r1, r0, c1, c0, n] →
      x = ⟨(r1 ++ r0).toNat, (c1 ++ c0).toNat, n.toNat⟩ →
      ∃ u, u.cache = s.cache
        ∧ (v.generation = .a → x.c ≠ 0 →
          exec (.answerFrameComplete (answerBytes status payload)) s = .next (u.listed s)
          ∧ Refuses s u p v .genAConstant (lineNumber l))
        ∧ ((v.generation = .b ∨ x.c = 0) → (4000 < x.r ∨ 2000 < x.c ∨ 15 < x.n ∨ (x.n = 0 ∧ 0 < x.r + x.c)) →
          exec (.answerFrameComplete (answerBytes status payload)) s = .next (u.listed s)
          ∧ Refuses s u p v .loadLimit (lineNumber l))
        ∧ ((v.generation = .b ∨ x.c = 0) → x.r ≤ 4000 → x.c ≤ 2000 → x.n ≤ 15 → (x.n = 0 → x.r + x.c = 0) →
          exec (.answerFrameComplete (answerBytes status payload)) s = .next (u.listed s)
          ∧ (∀ k, lineNumber k = lineNumber l + 1 →
              Continues s u p { v with loads := v.loads.set l x } (.loadRead p k) s.walker.presenceList)
          ∧ (l = .marker → ∃ j, NextPresent s.walker.presenceList 0 j
              ∧ PassesOn s u p { v with loads := v.loads.set l x } j)))
    ∧ (¬ (answerResult status = .accept ∧ payload.length = 5) →
      ∃ u, exec (.answerFrameComplete (answerBytes status payload)) s = .next (u.listed s) ∧ u.cache = s.cache
        ∧ Refuses s u p v .loadUnreadable (lineNumber l)) := by
  obtain ⟨rear, hx⟩ := h.handed h.target status payload
  refine ⟨fun r1 r0 c1 c0 n x hres hpay hload => ?_, fun hn => ?_⟩
  · have hans : s.judgeContent t status payload = some (.accept, payload) :=
      State.judgeContent_accepted (by rw [h.kind, hpay]; exact List.mem_singleton_self 5) hres
    replace hx := hx.trans (congrArg (State.stepAnswered _ _) hans)
    have hv : (s.overheard rear s.cache).unitAt p = some v := h.unit
    have hlo : loadOf payload = x := by rw [hpay, loadOf_bytes, hload]
    by_cases hA : v.generation = .a ∧ x.c ≠ 0
    · have hno (hb : v.generation = .b ∨ x.c = 0) : False := by
        obtain ⟨ha, hc⟩ := hA
        rewrite [ha] at hb
        exact hb.elim (fun e => by cases e) hc
      have hf : (loadOf payload).fault v.generation = some .genAConstant := by rw [hlo]; exact Load.fault_genA hA
      obtain ⟨u, he, hc, hr⟩ := h.refuses rfl hl (hx.trans (State.loadRead_faulty hv hf))
      exact ⟨u, hc, fun _ _ => ⟨he, hr⟩, fun hb => (hno hb).elim, fun hb => (hno hb).elim⟩
    · have hA' (ha : v.generation = .a) (hc : x.c ≠ 0) : False := hA ⟨ha, hc⟩
      have hb : v.generation = .b ∨ x.c = 0 := by
        cases hg : v.generation with
        | a => exact .inr (by by_contra hc; exact hA' hg hc)
        | b => exact .inl rfl
      by_cases hL : 4000 < x.r ∨ 2000 < x.c ∨ 15 < x.n ∨ (x.n = 0 ∧ 0 < x.r + x.c)
      · have hf : (loadOf payload).fault v.generation = some .loadLimit := by rw [hlo]; exact Load.fault_limit hb hL
        obtain ⟨u, he, hc, hr⟩ := h.refuses rfl hl (hx.trans (State.loadRead_faulty hv hf))
        exact ⟨u, hc, fun ha hc => (hA' ha hc).elim, fun _ _ => ⟨he, hr⟩, fun _ h1 h2 h3 h4 => by omega⟩
      · have hf : (loadOf payload).fault v.generation = none := by
          rewrite [hlo]
          exact Load.fault_none hb (by omega) (by omega) (by omega) (by omega)
        cases hk : nextLine l with
        | some k =>
          have hstep : (s.heard t.target status).handOutcome t status (s.judgeContent t status payload)
              = ((s.overheard rear s.cache).noted p (fun u => { u with loads := u.loads.set l x }) s.walker.presenceList).offer
                  (.loadRead p k) := by
            rewrite [← hlo]
            exact hx.trans (State.loadRead_next hv hf hk)
          obtain ⟨u, he, hc, hgo⟩ := h.continues rfl hl (by exact fun _ => rfl) (fun q hq => by cases hq) (fun hq => by cases hq) hstep
          refine ⟨u, hc, fun ha hc => (hA' ha hc).elim, fun _ hL' => absurd hL' hL, fun _ _ _ _ _ => ⟨he, fun k' hk' => ?_, fun hm => ?_⟩⟩
          · obtain rfl : k = k' := Option.some.inj (hk.symm.trans (nextLine_eq_some.mpr hk'))
            exact hgo
          · rewrite [nextLine_eq_none.mpr hm] at hk
            cases hk
        | none =>
          have hstep : (s.heard t.target status).handOutcome t status (s.judgeContent t status payload)
              = ((s.overheard rear s.cache).modifyUnit p (fun u => { u with loads := u.loads.set l x })).listFrom p 0 := by
            rewrite [← hlo]
            exact hx.trans (State.loadRead_last hv hf hk)
          obtain ⟨u, j, he, hc, hj, hgo⟩ := h.passesOn rfl hl (by exact fun _ => ⟨rfl, rfl⟩) hstep
          refine ⟨u, hc, fun ha hc => (hA' ha hc).elim, fun _ hL' => absurd hL' hL, fun _ _ _ _ _ => ⟨he, fun k' hk' => ?_, fun _ => ⟨j, hj, hgo⟩⟩⟩
          rewrite [nextLine_eq_some.mpr hk'] at hk
          cases hk
  · have hadm (g : Option Generation) : admittedLengths .loadRead .accept g ⊆ [5] := by cases g <;> exact List.Subset.refl _
    have hne := State.judgeContent_refused (s := s) (by rw [h.kind]; exact hadm _) hn
    rewrite [(stepAnswered_unreadable (p := p) (i := 0) (line := l) hne).2.1] at hx
    exact h.refuses rfl hl hx

/-- Settles O19: LIST-OPEN and LOAD-READ apart. -/
theorem listOpenAndLoadReadAnswered : Obligations.ListOpenAndLoadReadAnswered :=
  fun _ _ _ _ _ _ _ hl => ⟨Lists.listOpen_answered hl, fun _ => Lists.loadRead_answered hl⟩

/-! ### Room in the Function Pool (R72, R74, R90) -/

theorem State.usedWith_length (s : State) : s.usedWith s.cache.length = s.poolUsed := by
  rewrite [State.usedWith, List.take_length]
  rfl

theorem State.poolFree_pos {s : State} : 0 < s.poolFree ↔ s.poolUsed < 128 := by
  simp only [State.poolFree, Config.poolEntries]
  omega

/-- The oldest cache records make room one at a time (R74, R90). -/
theorem makeRoom_spec (n : Nat) : ∀ s : State, s.cache.length ≤ n →
    ∃ m, MakesRoom s m ∧ makeRoom n s = { s with cache := s.cache.take m } := by
  induction n with
  | zero =>
    intro s hn
    have hc : s.cache = [] := List.length_eq_zero_iff.mp (Nat.le_zero.mp hn)
    exact ⟨0, ⟨Nat.zero_le _, fun j hj hle => by omega, fun h => absurd h (lt_irrefl 0)⟩,
      by rw [makeRoom, List.take_zero, ← hc]⟩
  | succ n ih =>
    intro s hn
    rewrite [makeRoom]
    by_cases hstop : 0 < s.poolFree ∨ s.cache = []
    · rewrite [if_pos hstop]
      refine ⟨s.cache.length, ⟨le_rfl, fun j hj hle => by omega, fun hpos => ?_⟩, by rw [List.take_length]⟩
      rewrite [State.usedWith_length]
      exact State.poolFree_pos.mp (hstop.resolve_right (List.ne_nil_of_length_pos hpos))
    · rewrite [if_neg hstop]
      simp only [not_or] at hstop
      obtain ⟨hfull, hne⟩ := hstop
      rewrite [State.poolFree_pos] at hfull
      have hlen : s.cache.dropLast.length = s.cache.length - 1 := List.length_dropLast
      have hpos : 0 < s.cache.length := List.length_pos_of_ne_nil hne
      have htake (j : Nat) (hj : j ≤ s.cache.length - 1) : s.cache.dropLast.take j = s.cache.take j := by
        rw [List.dropLast_eq_take, List.take_take, min_eq_left hj]
      have hused (j : Nat) (hj : j ≤ s.cache.length - 1) : ({ s with cache := s.cache.dropLast } : State).usedWith j = s.usedWith j := by
        simp only [State.usedWith, htake j hj]
      obtain ⟨m, ⟨hm, hover, hfree⟩, he⟩ := ih { s with cache := s.cache.dropLast } (by simp only [hlen]; omega)
      simp only [hlen] at hm hover
      refine ⟨m, ⟨by omega, fun j hj hle => ?_, fun hp => ?_⟩, ?_⟩
      · by_cases hlast : j = s.cache.length
        · rewrite [hlast, State.usedWith_length]
          omega
        · rewrite [← hused j (by omega)]
          exact hover j hj (by omega)
      · rewrite [← hused m hm]
        exact hfree hp
      · rewrite [he]
        dsimp only
        rw [htake m hm]

/-! ### The answers to LIST-ENTRY (R69, R73 to R75) -/

theorem classOf_eq_none {k : Byte} : classOf k = none ↔ k.toNat < 1 ∨ 4 < k.toNat := by
  unfold classOf
  split_ifs with h1 h2 h3 h4
  · exact iff_of_false (fun h => by cases h) (by bv_omega)
  · exact iff_of_false (fun h => by cases h) (by bv_omega)
  · exact iff_of_false (fun h => by cases h) (by bv_omega)
  · exact iff_of_false (fun h => by cases h) (by bv_omega)
  · exact iff_of_true rfl (by bv_omega)

theorem classOf_eq_some {k : Byte} {c : FunctionClass} (h : classOf k = some c) : classCode c = k.toNat := by
  unfold classOf at h
  split_ifs at h with h1 h2 h3 h4 <;> cases h
  · rw [h1]; rfl
  · rw [h2]; rfl
  · rw [h3]; rfl
  · rw [h4]; rfl

theorem pollOf_eq_none {q : Byte} : pollOf q = none ↔ q.toNat < 1 ∨ 3 < q.toNat := by
  unfold pollOf
  split_ifs with h1 h2 h3
  · exact iff_of_false (fun h => by cases h) (by bv_omega)
  · exact iff_of_false (fun h => by cases h) (by bv_omega)
  · exact iff_of_false (fun h => by cases h) (by bv_omega)
  · exact iff_of_true rfl (by bv_omega)

theorem pollCode_pollOf {q : Byte} (h : pollOf q ≠ none) : pollCode (pollOf q) = q.toNat := by
  unfold pollOf at h ⊢
  split_ifs at h ⊢ with h1 h2 h3
  · rw [h1]; rfl
  · rw [h2]; rfl
  · rw [h3]; rfl
  · exact absurd rfl h

theorem classCode_eq_one {c : FunctionClass} : classCode c = 1 ↔ c = .sensor := by cases c <;> decide

theorem signedOf_two (b1 b0 : Byte) : signedOf [b1, b0] = (b1 ++ b0).toInt := by rw [signedOf, word16Of_two]

section
variable {c1 c0 k n1 n0 x1 x0 q : Byte}

/-- The function record that eight bytes spell (11.3). -/
theorem functionRecordOf_bytes : functionRecordOf [c1, c0, k, n1, n0, x1, x0, q] =
    { code := c1 ++ c0, cls := classOf k, min := (n1 ++ n0).toInt, max := (x1 ++ x0).toInt, poll := pollOf q } := by
  rewrite [← word16Of_two, ← signedOf_two, ← signedOf_two]
  rfl

/-- A record fails the test of its class (R69). -/
theorem FunctionRecord.fault_class {r : FunctionRecord} (hc : r.cls = classOf k) (hp : r.poll = pollOf q)
    (h : k.toNat < 1 ∨ 4 < k.toNat ∨ (k.toNat = 1 ∧ (q.toNat < 1 ∨ 3 < q.toNat))) : r.fault = some .functionClass := by
  rewrite [FunctionRecord.fault, hc]
  cases hk : classOf k with
  | none => rfl
  | some c =>
    have hcode := classOf_eq_some hk
    have hsome : ¬ (k.toNat < 1 ∨ 4 < k.toNat) := fun e => by
      rewrite [classOf_eq_none.mpr e] at hk
      cases hk
    have h1 : k.toNat = 1 ∧ (q.toNat < 1 ∨ 3 < q.toNat) := by
      simp only [not_or] at hsome
      exact (h.resolve_left hsome.1).resolve_left hsome.2
    refine if_pos ⟨classCode_eq_one.mp (hcode.trans h1.1), ?_⟩
    rewrite [hp]
    exact pollOf_eq_none.mpr h1.2

/-- One that passes it is left to the test of its range (R69). -/
theorem FunctionRecord.fault_range {r : FunctionRecord} {c : FunctionClass} (hc : r.cls = some c)
    (hp : c = .sensor → r.poll ≠ none) : r.fault = if r.max ≤ r.min then some .functionRange else none := by
  rewrite [FunctionRecord.fault, hc]
  exact if_neg fun ⟨h1, h2⟩ => hp h1 h2
end

/-- The entry that a record is admitted as (R69, R73, R129). -/
theorem FunctionRecord.toEntry_fields {k q : Byte} {r : FunctionRecord} {c : FunctionClass} (hr : r.cls = some c)
    (hc : classCode c = k.toNat) (hp : r.poll = pollOf q) (hq : k.toNat = 1 → pollOf q ≠ none) (i : Nat) :
    (r.toEntry i).index = i ∧ (r.toEntry i).code = r.code ∧ classCode (r.toEntry i).cls = k.toNat
      ∧ (r.toEntry i).min = r.min ∧ (r.toEntry i).max = r.max
      ∧ pollCode (r.toEntry i).poll = (if k.toNat = 1 then q.toNat else 0)
      ∧ (r.toEntry i).value = (if k.toNat = 1 then
          some { value := (r.toEntry i).min, quality := .notYet, answeredAt := 0, nextDue := none } else none)
      ∧ ∀ j, (r.toEntry i).subs.get j = none := by
  have he : r.toEntry i = newEntry i r.code c r.min r.max (if c = .sensor then r.poll else none) := by
    rewrite [FunctionRecord.toEntry, hr]
    rfl
  have h1 : k.toNat = 1 ↔ c = .sensor := by rw [← hc]; exact classCode_eq_one
  rewrite [he]
  refine ⟨rfl, rfl, hc, rfl, rfl, ?_, ?_, fun j => PerSlot.get_const _ _⟩
  · by_cases hs : k.toNat = 1
    · rewrite [if_pos hs, newEntry, if_pos (h1.mp hs), hp]
      exact pollCode_pollOf (hq hs)
    · rewrite [if_neg hs, newEntry, if_neg fun e => hs (h1.mpr e)]
      rfl
  · by_cases hs : k.toNat = 1
    · rewrite [if_pos hs]
      exact if_pos (h1.mp hs)
    · rewrite [if_neg hs]
      exact if_neg fun e => hs (h1.mpr e)

/-- A tested record is admitted, or the unit is partial and its listing ends (R73 to R75). -/
theorem Lists.admits {s : State} {t : Transaction} {since p i : Nat} {v : UnitRecord} {status : Byte} {payload : List Byte}
    {rear : Bool} {r : FunctionRecord} (h : Lists s t since (.listEntry p i) v) (hl : payload.length ≤ 8)
    (hx : (s.heard t.target status).handOutcome t status (s.judgeContent t status payload)
      = (s.overheard rear s.cache).admitFunction p i r) :
    ∃ u m, exec (.answerFrameComplete (answerBytes status payload)) s = .next (u.listed s) ∧ MakesRoom s m ∧ u.cache = s.cache.take m
      ∧ (s.usedWith m < 128 → ∃ j, NextPresent s.walker.presenceList (i + 1) j
          ∧ PassesOn s u p { v with functions := v.functions ++ [r.toEntry i] } j)
      ∧ (128 ≤ s.usedWith m → Bridges s u p { v with partialFlag := true, state := .bridging }) := by
  obtain ⟨m, hm, he⟩ := makeRoom_spec (s.overheard rear s.cache).cache.length (s.overheard rear s.cache) le_rfl
  have hroom : (s.overheard rear s.cache).makeRoom = s.overheard rear (s.cache.take m) := he
  have hm' : MakesRoom s m := hm
  have hused : (s.overheard rear (s.cache.take m)).poolUsed = s.usedWith m := rfl
  have hcases : (s.overheard rear s.cache).admitFunction p i r
      = if s.usedWith m < 128 then ((s.overheard rear (s.cache.take m)).modifyUnit p
          fun u => { u with functions := u.functions ++ [r.toEntry i] }).listFrom p (i + 1)
        else ((s.overheard rear (s.cache.take m)).modifyUnit p fun u => { u with partialFlag := true }).endListing p := by
    rewrite [State.admitFunction, hroom]
    exact if_congr (State.poolFree_pos.trans (by rw [hused])) rfl rfl
  rewrite [hcases] at hx
  by_cases hfree : s.usedWith m < 128
  · rewrite [if_pos hfree] at hx
    obtain ⟨u, j, he, hc, hj, hgo⟩ := h.passesOn rfl hl (by exact fun _ => ⟨rfl, rfl⟩) hx
    exact ⟨u, m, he, hm', hc, fun _ => ⟨j, hj, hgo⟩, fun hge => absurd hfree (Nat.not_lt.mpr hge)⟩
  · rewrite [if_neg hfree] at hx
    obtain ⟨u, he, hc, hgo⟩ := h.bridges rfl hl (rear := rear) (cache := s.cache.take m)
      (φ := fun u => { u with partialFlag := true }) (fun _ => ⟨rfl, rfl⟩) (st := .bridging) hx
    exact ⟨u, m, he, hm', hc, fun hlt => absurd hlt hfree, fun _ => hgo⟩

/-- Settles O20: the record is tested, then admitted. -/
theorem listEntryAnswered : Obligations.ListEntryAnswered := by
  intro s t since p i v status payload h hl
  obtain ⟨rear, hx⟩ := h.handed h.target status payload
  refine ⟨fun c1 c0 k n1 n0 x1 x0 q hres hpay => ?_, fun hres hpay => ?_, fun hacc hdec => ?_⟩
  · have hans : s.judgeContent t status payload = some (.accept, payload) :=
      State.judgeContent_accepted (by rw [h.kind, hpay]; exact List.mem_singleton_self 8) hres
    replace hx := hx.trans (congrArg (State.stepAnswered _ _) hans)
    have hrec : functionRecordOf payload =
        { code := c1 ++ c0, cls := classOf k, min := (n1 ++ n0).toInt, max := (x1 ++ x0).toInt, poll := pollOf q } := by
      rw [hpay, functionRecordOf_bytes]
    have hentry : (s.overheard rear s.cache).stepAnswered (.listEntry p i) (some (.accept, payload))
        = match (functionRecordOf payload).fault with
          | some cause => (s.overheard rear s.cache).refuseUnit p cause i
          | none => (s.overheard rear s.cache).admitFunction p i (functionRecordOf payload) := rfl
    refine ⟨fun hbad => ?_, fun h1 h4 hq => ?_⟩
    · rewrite [FunctionRecord.fault_class (by rw [hrec]) (by rw [hrec]) hbad] at hentry
      exact h.refuses rfl hl (hx.trans hentry)
    obtain ⟨c, hc⟩ : ∃ c, classOf k = some c := by
      refine Option.ne_none_iff_exists'.mp fun hn => ?_
      have := classOf_eq_none.mp hn
      omega
    have hpoll (h1 : k.toNat = 1) : pollOf q ≠ none := by
      intro hn
      have := pollOf_eq_none.mp hn
      have := hq h1
      omega
    have hcls : (functionRecordOf payload).cls = some c := by rw [hrec]; exact hc
    have hrange := FunctionRecord.fault_range hcls (by
      rewrite [hrec]
      exact fun e => hpoll ((classOf_eq_some hc).symm.trans (classCode_eq_one.mpr e)))
    have hmin : (functionRecordOf payload).min = (n1 ++ n0).toInt := by rw [hrec]
    have hmax : (functionRecordOf payload).max = (x1 ++ x0).toInt := by rw [hrec]
    rewrite [hrange, hmin, hmax] at hentry
    refine ⟨fun hle => ?_, fun hlt => ?_⟩
    · rewrite [if_pos hle] at hentry
      exact h.refuses rfl hl (hx.trans hentry)
    · rewrite [if_neg (by omega)] at hentry
      obtain ⟨u, m, he, hm, hca, hfree, hfull⟩ := h.admits hl (hx.trans hentry)
      obtain ⟨f1, f2, f3, f4, f5, f6, f7, f8⟩ := FunctionRecord.toEntry_fields (q := q) hcls (classOf_eq_some hc) (by rw [hrec]) hpoll i
      exact ⟨u, m, _, he, hm, hca, f1, f2.trans (by rw [hrec]), f3, f4.trans hmin, f5.trans hmax, f6, f7, f8, hfree, hfull⟩
  · have hans : s.judgeContent t status payload = some (.decline, payload) := by
      rewrite [State.judgeContent_eq, h.kind, hres, hpay]
      exact if_pos (List.mem_singleton_self 0)
    replace hx := hx.trans (congrArg (State.stepAnswered _ _) hans)
    obtain ⟨u, j, he, hc, hj, hgo⟩ := h.passesOn (φ := fun u => { u with partialFlag := true }) rfl hl (fun _ => ⟨rfl, rfl⟩) hx
    exact ⟨u, j, he, hc, hj, hgo⟩
  · have hadm (g : Option Generation) : admittedLengths .listEntry .accept g ⊆ [8] := by cases g <;> exact List.Subset.refl _
    have hne := State.judgeContent_refused (s := s) (by rw [h.kind]; exact hadm _) hacc
    have hnd (d : List Byte) : s.judgeContent t status payload ≠ some (.decline, d) := by
      rewrite [State.judgeContent_eq, h.kind]
      split
      · next hm =>
        intro e
        simp only [Option.some.injEq, Prod.mk.injEq] at e
        rewrite [e.1] at hm
        exact hdec ⟨e.1, List.length_eq_zero_iff.mp (List.mem_singleton.mp hm)⟩
      · exact fun e => by cases e
    rewrite [(stepAnswered_unreadable (p := p) (i := i) (line := .tailL) hne).2.2 hnd] at hx
    exact h.refuses rfl hl hx

end Sys2Proof.Machine
end

section
/-! PROOFS. Bridging, the flags of an answer, and the answers to unit accesses and commands (R31, R37, R39, R52, R55, R56, R146): O21 to
O24. -/
namespace Sys2Proof.Machine

/-! ### The answer to BRIDGE (R52, R131) -/

/-- The record of a bridged unit as it serves. -/
def UnitRecord.served (w : UnitRecord) (now : Nat) : UnitRecord :=
  { w with
    state := .serving
    functions := w.functions.map fun f => { f with value := f.value.map fun x => { x with nextDue := some now } } }

/-- The units after a bridge's answer. -/
theorem State.bridged_units (f : State) (p : Nat) : ((f.setUnitState p .serving).joinRing p).units
    = f.units.map fun w => if w.position = p then w.served f.now else w := by
  have h : ((f.setUnitState p .serving).joinRing p).units
      = (f.setUnitState p .serving).units.map fun u => if u.position = p then
          { u with functions := u.functions.map fun e =>
            { e with value := e.value.map fun v => { v with nextDue := some (f.setUnitState p .serving).now } } } else u := rfl
  rewrite [h, State.setUnitState_units', State.setUnitState_now]
  simp only [State.modifyUnit, List.map_map]
  refine List.map_congr_left fun u _ => ?_
  simp only [Function.comp_apply]
  by_cases hp : u.position = p
  · have hin : (if u.position = p then { u with state := UnitState.serving } else u) = { u with state := .serving } := if_pos hp
    rewrite [hin, if_pos hp]
    exact (if_pos hp).symm
  · simp only [hp, if_false]

/-- A unit that serves moves on the pointer; the walk goes on with a PROBE (R52). -/
theorem exec_bridged {s w : State} {t : Transaction} {since : Nat} {status : Byte} {payload : List Byte}
    (h : Receives s t since []) (hl : payload.length ≤ 8) (hgap : s.line.gapSince = none) (hu : s.line.urgent = [])
    (ha : s.walker.active = true) (hr : ReportAtMost s.walker) (hstate : s.comb.state = .building ∨ s.comb.state = .serving)
    (hx : (s.heard t.target status).handOutcome t status (s.judgeContent t status payload)
      = (w.modifyWalker fun x => { x with pointer := x.pointer + 1, rearSeen := false }).offer .probe)
    (hline : w.line = { s.line with tx := none }) (hw : w.walker = { s.walker with rearSeen := w.walker.rearSeen })
    (hcomb : w.comb = { s.comb with unsettled := w.comb.unsettled })
    (hgood : w.counters.answersGood = bumped s.counters.answersGood)
    (hkeep : Keeps [.now, .sense, .cache, .lamps, .flash, .claims, .slots, .settings, .setup, .portIn, .pending] s w) :
    ∃ u, exec (.answerFrameComplete (answerBytes status payload)) s = .next (u.listed s)
      ∧ u.outbox = w.outbox ∧ u.units = w.units ∧ u.comb.unsettled = w.comb.unsettled
      ∧ u.walker = { s.walker with
          pointer := s.walker.pointer + 1, rearSeen := false
          offered := u.walker.offered, owed := u.walker.owed, lampReports := u.walker.lampReports }
      ∧ WalkGoesOn s u .probe
      ∧ u.comb = { s.comb with
          unsettled := u.comb.unsettled
          attachSince := u.comb.attachSince, parkSince := u.comb.parkSince, entryWaiting := u.comb.entryWaiting }
      ∧ u.counters.answersGood = bumped s.counters.answersGood
      ∧ Keeps [.now, .sense, .cache, .lamps, .flash, .claims, .slots, .settings, .setup, .portIn, .pending] s u := by
  have hands : Hands s (w.modifyWalker fun x => { x with pointer := x.pointer + 1, rearSeen := false }) := by
    refine ⟨hline, ?_, ?_, ?_, hcomb⟩
    · exact congrArg (·.offered) hw
    · exact congrArg (·.owed) hw
    · exact congrArg (·.lampReports) hw
  obtain ⟨u, he, hres, hgo⟩ := exec_goesOn h hl hx hands hgap hu hr hstate (fun q hq => by cases hq)
    fun _ => (congrArg (·.active) hw).trans ha
  have hk := hres.keeps
  have hc : u.comb = { w.comb with
      attachSince := u.comb.attachSince, parkSince := u.comb.parkSince, entryWaiting := u.comb.entryWaiting } := hk .comb (by decide)
  have hcu : u.comb.unsettled = w.comb.unsettled := by rw [hc]
  refine ⟨u, he, hres.outbox, hk .units (by decide), hcu, ?_, hgo, ?_, ?_, ?_⟩
  · have h1 := congrArg State.walker hres
    have h2 : (w.modifyWalker fun x => { x with pointer := x.pointer + 1, rearSeen := false }).walker
        = { s.walker with pointer := s.walker.pointer + 1, rearSeen := false } := by
      change { w.walker with pointer := w.walker.pointer + 1, rearSeen := false } = _
      rw [hw]
    rewrite [h2] at h1
    exact h1
  · rewrite [hcu]
    rewrite [hcomb] at hc
    exact hc
  · have hcn : u.counters = w.counters := hk .counters (by decide)
    rw [hcn, hgood]
  · have hm : Keeps [.now, .sense, .cache, .lamps, .flash, .claims, .slots, .settings, .setup, .portIn, .pending] w
        (w.modifyWalker fun x => { x with pointer := x.pointer + 1, rearSeen := false }) := by
      refine Keeps.sub (keeps_cons (p := .now) rfl (keeps_cons (p := .sense) rfl (keeps_cons (p := .cache) rfl
        (keeps_cons (p := .lamps) rfl (keeps_cons (p := .flash) rfl (keeps_cons (p := .claims) rfl
        (keeps_still rfl rfl rfl rfl rfl))))))) ?_
      decide
    exact (hkeep.trans hm).trans (hk.sub (by decide))

theorem State.overheard_keeps (s : State) (rear : Bool) : Keeps [.now, .comb, .sense, .units, .cache, .lamps, .flash, .claims, .slots,
    .missed, .settings, .setup, .portIn, .portOut, .pending] s (s.overheard rear s.cache) := by
  refine Keeps.sub (keeps_cons (p := .now) rfl (keeps_cons (p := .comb) rfl (keeps_cons (p := .sense) rfl
    (keeps_cons (p := .units) rfl (keeps_cons (p := .cache) rfl (keeps_cons (p := .lamps) rfl (keeps_cons (p := .flash) rfl
    (keeps_cons (p := .claims) rfl (keeps_still rfl rfl rfl rfl rfl))))))))) ?_
  decide

/-- Settles O21: a BRIDGING unit serves, a REFUSED one stays. -/
theorem bridgeAnsweredServes : Obligations.BridgeAnsweredServes := by
  intro s t since p v status payload h ho hk ht hgap hu ha hr hstate hv hbridge hl
  obtain ⟨rear, hh⟩ := State.heard_bringUp hv (by obtain e | e := hbridge <;> rw [e] <;> decide) ha status
  have hout : (s.heard t.target status).handOutcome t status (s.judgeContent t status payload)
      = (s.overheard rear s.cache).bridged p := by
    rewrite [State.handOutcome_bringUp ho, ht, hh]
    rcases s.judgeContent t status payload with _ | ⟨r, d⟩
    · rfl
    · cases r <;> rfl
  have hv' : (s.overheard rear s.cache).unitAt p = some v := hv
  obtain e | e := hbridge
  · have hb : (s.overheard rear s.cache).bridged p = ((((s.overheard rear s.cache).setUnitState p .serving).joinRing p).modifyWalker
        fun x => { x with pointer := x.pointer + 1, rearSeen := false }).offer .probe := by
      rewrite [State.bridged, hv']
      obtain ⟨position, identity, generation, signature, state⟩ := v
      obtain rfl : state = .bridging := e
      rfl
    have hsame := State.setUnitState_keeps (s.overheard rear s.cache) p .serving
    have hcomb := State.setUnitState_comb' (s.overheard rear s.cache) p .serving
    have htall := State.setUnitState_tallies (s.overheard rear s.cache) p .serving
    have hbox := State.setUnitState_outbox hv' .serving
    have hunits := (s.overheard rear s.cache).bridged_units p
    have hj : Keeps [.now, .sense, .cache, .lamps, .flash, .claims, .slots, .settings, .setup, .portIn, .pending]
        ((s.overheard rear s.cache).setUnitState p .serving) (((s.overheard rear s.cache).setUnitState p .serving).joinRing p) := by
      refine Keeps.sub (keeps_cons (p := .now) rfl (keeps_cons (p := .sense) rfl (keeps_cons (p := .cache) rfl
        (keeps_cons (p := .lamps) rfl (keeps_cons (p := .flash) rfl (keeps_cons (p := .claims) rfl
        (keeps_still rfl rfl rfl rfl rfl))))))) ?_
      decide
    have hw : ((s.overheard rear s.cache).setUnitState p .serving).walker = (s.overheard rear s.cache).walker :=
      hsame .walker (by decide)
    have hw' : (((s.overheard rear s.cache).setUnitState p .serving).joinRing p).walker
        = { s.walker with rearSeen := (((s.overheard rear s.cache).setUnitState p .serving).joinRing p).walker.rearSeen } := by
      change ((s.overheard rear s.cache).setUnitState p .serving).walker
        = { s.walker with rearSeen := ((s.overheard rear s.cache).setUnitState p .serving).walker.rearSeen }
      rewrite [hw]
      rfl
    have hc' : (((s.overheard rear s.cache).setUnitState p .serving).joinRing p).comb
        = { s.comb with unsettled := (((s.overheard rear s.cache).setUnitState p .serving).joinRing p).comb.unsettled } := by
      change ((s.overheard rear s.cache).setUnitState p .serving).comb
        = { s.comb with unsettled := ((s.overheard rear s.cache).setUnitState p .serving).comb.unsettled }
      rewrite [hcomb]
      rfl
    obtain ⟨u, he, huo, huu, hun, hrest⟩ := exec_bridged h hl hgap hu ha hr hstate (hout.trans hb)
      (hsame .line (by decide)) hw' hc' (congrArg (·.answersGood) htall)
      (Keeps.trans ((s.overheard_keeps rear).sub (by decide)) (Keeps.trans (hsame.sub (by decide)) hj))
    refine ⟨u, he, fun _ => ⟨huo.trans ?_, huu.trans hunits, ?_⟩, fun hn => ?_, hrest⟩
    · refine Eq.trans hbox ?_
      exact Outbox.unitNotice_settings rfl _ _ _ _
    · rewrite [hun, huu, hunits]
      refine Eq.trans (congrArg Combination.unsettled hcomb) ?_
      simp only [List.any_map]
      refine List.any_congr rfl fun w => ?_
      simp only [Function.comp_apply]
      split <;> rfl
    · rewrite [hn] at e
      cases e
  · have hb : (s.overheard rear s.cache).bridged p = ((s.overheard rear s.cache).modifyWalker
        fun x => { x with pointer := x.pointer + 1, rearSeen := false }).offer .probe := by
      rewrite [State.bridged, hv']
      obtain ⟨position, identity, generation, signature, state⟩ := v
      obtain rfl : state = .refused := e
      rfl
    obtain ⟨u, he, huo, huu, hun, hrest⟩ := exec_bridged h hl hgap hu ha hr hstate (hout.trans hb) rfl rfl rfl rfl
      ((s.overheard_keeps rear).sub (by decide))
    refine ⟨u, he, fun hn => ?_, fun _ => ⟨huo, huu, hun⟩, hrest⟩
    rewrite [hn] at e
    cases e

/-! ### An answer that moves no flag of the combination -/

theorem State.handFlags_walkerOnly (s : State) (p : Nat) (b : Byte) :
    s.handFlags p b = { s with walker := (s.handFlags p b).walker } := by
  unfold State.handFlags State.handLampFault State.handRear
  dsimp only
  repeat' split
  all_goals rfl

/-- The flags heard move the walker alone (R31). -/
theorem State.heard_eq (s : State) (p : Nat) (status : Byte) : s.heard p status = { s with
    line := { s.line with tx := none }
    counters := { s.counters with answersGood := bumped s.counters.answersGood }
    walker := (s.heard p status).walker } := by
  rewrite [State.heard]
  conv_lhs => rw [State.handFlags_walkerOnly]
  rfl

theorem exec_answer_quiet {s u : State} {t : Transaction} {since : Nat} (h : Receives s t since []) {status : Byte}
    {payload : List Byte} (hl : payload.length ≤ 8)
    (hu : (s.heard t.target status).handOutcome t status (s.judgeContent t status payload) = u) (hcomb : u.comb = s.comb) :
    exec (.answerFrameComplete (answerBytes status payload)) s = .next u.resumed := by
  rw [exec_answer h hl, hu, State.announce_same]
  have hwork : u.resumed.comb.state = s.comb.state ∧ u.resumed.comb.unsettled = s.comb.unsettled
      ∧ u.resumed.comb.chainFull = s.comb.chainFull ∧ u.resumed.comb.identityClash = s.comb.identityClash
      ∧ u.resumed.comb.passiveLoad = s.comb.passiveLoad := by
    have hl : u.lineWork.comb = s.comb := u.lineWork_comb.trans hcomb
    exact ⟨congrArg (·.state) hl, congrArg (·.unsettled) hl, congrArg (·.chainFull) hl, congrArg (·.identityClash) hl,
      congrArg (·.passiveLoad) hl⟩
  exact State.combSummary_eq_iff.mpr hwork

/-! ### Answers to unit accesses (R39) -/

/-- A response that finds a free frame and none waiting is queued (R162). -/
theorem State.deferResponse_free {s : State} {r : Response} (ht : s.tag r.slot ≠ 0xFF) (hd : s.port.deferred = [])
    (hl : s.port.report.length < 24) : s.deferResponse r = { s with
      port := { s.port with report := s.port.report ++ [frameTo s r.slot r.code r.sequence r.status r.clamped
        (byteAt r.data 0) (byteAt r.data 1) (byteAt r.data 2) (byteAt r.data 3)] }
      slots := s.slots.set r.slot { s.slots.get r.slot with missed := false } } := by
  have he : ¬ s.slotEmpty r.slot = true := by
    simp only [State.slotEmpty, beq_iff_eq]
    exact ht
  have hpos : 0 < s.freeFrames := by
    simp only [State.freeFrames, Config.reportFrames]
    omega
  have hf : (s.port.deferred.isEmpty && decide (0 < s.freeFrames)) = true := by
    rewrite [hd]
    exact decide_eq_true hpos
  rewrite [State.deferResponse, if_neg he, if_pos hf]
  exact State.queueResponse_eq s r.slot r.code r.sequence r.status r.clamped r.data _ _ _ _ (fitBytes_four r.data)

theorem missed_set_self (s : State) (k : Slot) : (({ s with slots := s.slots.set k { s.slots.get k with missed := false } } : State)).missed k
    = false := by
  simp [State.missed]

theorem missed_set_ne (s : State) {j k : Slot} (h : j ≠ k) :
    (({ s with slots := s.slots.set k { s.slots.get k with missed := false } } : State)).missed j = s.missed j := by
  simp [State.missed, h]

theorem slots_set_same (s : State) (k : Slot) :
    Part.slots.same s { s with slots := s.slots.set k { s.slots.get k with missed := false } } := by
  intro j
  by_cases h : j = k
  · subst h
    simp
  · simp [h]

/-- An answer to a unit access that is not an accepted one is declined (R39). -/
theorem AccessEntry.answered_declined {a : AccessEntry} {answer : Option (AnswerResult × List Byte)}
    (h : ∀ d, answer ≠ some (.accept, d)) : a.answered answer = a.response .unitDeclined [] := by
  rcases answer with _ | ⟨r, d⟩
  · rfl
  · cases r with
    | accept => exact absurd rfl (h d)
    | decline | inhibit | unknownKind => rfl

theorem AccessEntry.answered_get {a : AccessEntry} (h : a.kind = .get) (d : List Byte) :
    a.answered (some (.accept, d)) = a.response .done d := by
  simp only [AccessEntry.answered, h]

theorem AccessEntry.answered_set {a : AccessEntry} {w : Word32} (h : a.kind = .set w) (d : List Byte) :
    a.answered (some (.accept, d)) = a.response .done [] := by
  simp only [AccessEntry.answered, h]

theorem AccessEntry.response_code (a : AccessEntry) (st : Status) (d : List Byte) :
    (a.response st d).code = if a.kind = .get then 0x50 else 0x51 := by
  obtain ⟨slot, sequence, position, parameter, kind⟩ := a
  cases kind <;> rfl

/-- The frame of the response that a unit access is answered with. -/
def AccessEntry.frame (a : AccessEntry) (s : State) (r : Response) : Frame :=
  frameTo s a.slot r.code a.sequence r.status false (byteAt r.data 0) (byteAt r.data 1) (byteAt r.data 2) (byteAt r.data 3)

/-- Settles O23: the answer's response is queued, and nothing else moves but the flags heard. -/
theorem accessAnswered : Obligations.AccessAnswered := by
  intro s t since a status payload h ho ht hk hl htag hd hlen
  have hheard := s.heard_eq t.target status
  obtain ⟨r, hr⟩ : ∃ r, r = a.answered (s.judgeContent t status payload) := ⟨_, rfl⟩
  have hrslot : r.slot = a.slot ∧ r.sequence = a.sequence ∧ r.clamped = false := by
    rewrite [hr]
    have hany (st : Status) (d : List Byte) : (a.response st d).slot = a.slot ∧ (a.response st d).sequence = a.sequence
        ∧ (a.response st d).clamped = false := ⟨rfl, rfl, rfl⟩
    unfold AccessEntry.answered
    split <;> exact hany _ _
  obtain ⟨hslot, hseq, hcl⟩ := hrslot
  have hout : (s.heard t.target status).handOutcome t status (s.judgeContent t status payload)
      = (s.heard t.target status).deferResponse r := by
    rw [State.handOutcome, ho, hr]
  have hframe (k : Slot) (code seq : Byte) (st : Status) (cl : Bool) (d0 d1 d2 d3 : Byte) :
      frameTo (s.heard t.target status) k code seq st cl d0 d1 d2 d3 = frameTo s k code seq st cl d0 d1 d2 d3 := by
    rewrite [hheard]
    rfl
  have hfree := State.deferResponse_free (s := s.heard t.target status) (r := r) (by rw [hheard, hslot]; exact htag)
    (by rw [hheard]; exact hd) (by rw [hheard]; exact hlen)
  rewrite [hframe, hslot, hseq, hcl] at hfree
  generalize hw : (s.heard t.target status).walker = w at hheard
  rewrite [hheard] at hfree
  have hacc {n : Nat} (hadm : admittedLengths t.kind .accept ((s.unitAt t.target).map UnitRecord.generation) = [n])
      (hres : answerResult status = .accept) (hn : payload.length = n) :
      s.judgeContent t status payload = some (.accept, payload) :=
    State.judgeContent_accepted (by rw [hadm, hn]; exact List.mem_singleton_self n) hres
  have hcode := a.response_code
  refine ⟨_, a.frame s r, exec_answer_quiet h hl (hout.trans ((congrArg (State.deferResponse · r) hheard).trans hfree)) rfl, rfl, rfl,
    fun d0 d1 d2 d3 hg hres hp => ?_, fun v hs hres hp => ?_, fun hbad => ?_, rfl, missed_set_self s _, fun k hk => missed_set_ne s hk,
    fun v hv hg => ?_, ?_⟩
  · have hadm : admittedLengths t.kind .accept ((s.unitAt t.target).map UnitRecord.generation) = [4] := by
      rewrite [hk, hg]
      rfl
    rw [hr, hacc hadm hres (by rw [hp]; rfl), AccessEntry.answered_get hg, AccessEntry.frame, hcode, if_pos hg, hp]
    rfl
  · have hadm : admittedLengths t.kind .accept ((s.unitAt t.target).map UnitRecord.generation) = [0] := by
      rewrite [hk, hs]
      rfl
    rw [hr, hacc hadm hres (by rw [hp]; rfl), AccessEntry.answered_set hs, AccessEntry.frame, hcode, if_neg (by rw [hs]; simp)]
    rfl
  · have hne : ∀ d, s.judgeContent t status payload ≠ some (.accept, d) := by
      refine State.judgeContent_refused (n := if a.kind = .get then 4 else 0) ?_ fun ⟨h1, h2⟩ => hbad.elim (fun e => e h1) fun e => e h2
      rewrite [hk]
      cases hkind : a.kind with
      | get => exact List.Subset.refl _
      | set w => exact List.Subset.refl _
    rewrite [hr, AccessEntry.answered_declined hne, AccessEntry.frame, hcode]
    rfl
  · exact hw.symm.trans (State.heard_walker_genA s t.target status (by rw [ht]; exact hv) hg)
  · refine Keeps.sub (keeps_cons (p := .slots) (slots_set_same s _) (keeps_cons (p := .now) rfl (keeps_cons (p := .comb) rfl
      (keeps_cons (p := .sense) rfl (keeps_cons (p := .units) rfl (keeps_cons (p := .cache) rfl (keeps_cons (p := .lamps) rfl
      (keeps_cons (p := .flash) rfl (keeps_cons (p := .claims) rfl (keeps_cons (p := .settings) rfl (keeps_cons (p := .setup) rfl
      (keeps_cons (p := .portIn) ⟨rfl, rfl, rfl, rfl⟩ (keeps_cons (p := .pending) rfl (keeps_nil _ _)))))))))))))) ?_
    decide

/-! ### Answers to commands (R37, R146, R149) -/

theorem State.claimOn_putClaim_self {s : State} {p i : Nat} {c d : Claim} (h : s.claimOn p i = some c) (hp : d.position = c.position)
    (hi : d.index = c.index) : (s.putClaim d).claimOn p i = some d := by
  have hc := List.find?_some h
  simp only [Bool.and_eq_true, beq_iff_eq] at hc
  obtain ⟨rfl, rfl⟩ := hc
  rewrite [State.putClaim, State.claimOn, List.find?_map]
  have hf : ((fun x : Claim => x.position == c.position && x.index == c.index) ∘
      fun x : Claim => if x.position = d.position ∧ x.index = d.index then d else x)
      = fun x : Claim => x.position == c.position && x.index == c.index := by
    funext x
    simp only [Function.comp_apply, hp, hi]
    split
    · next hx => simp [hp, hi, hx]
    · rfl
  rewrite [hf]
  change (s.claimOn c.position c.index).map _ = _
  rewrite [h]
  simp [hp, hi]

theorem State.claimOn_putClaim_ne (s : State) {p i : Nat} {d : Claim} (h : p ≠ d.position ∨ i ≠ d.index) :
    (s.putClaim d).claimOn p i = s.claimOn p i := by
  have hd : ∀ x : Claim, (x.position == p && x.index == i) = true → ¬ (x.position = d.position ∧ x.index = d.index) := by
    intro x hx
    simp only [Bool.and_eq_true, beq_iff_eq] at hx
    obtain ⟨rfl, rfl⟩ := hx
    rintro ⟨h1, h2⟩
    exact h.elim (fun e => e h1) fun e => e h2
  have hn : (d.position == p && d.index == i) = false := by
    rewrite [Bool.eq_false_iff]
    intro e
    exact hd d e ⟨rfl, rfl⟩
  simp only [State.claimOn, State.putClaim]
  induction s.claims with
  | nil => rfl
  | cons x l ih =>
    rewrite [List.map_cons, List.find?_cons, List.find?_cons, ih]
    by_cases hx : x.position = d.position ∧ x.index = d.index
    · have hxn : (x.position == p && x.index == i) = false := by rw [hx.1, hx.2]; exact hn
      rw [if_pos hx, hn, hxn]
    · rw [if_neg hx]

theorem State.claimOn_removeClaim_ne (s : State) {p i q j : Nat} (h : p ≠ q ∨ i ≠ j) :
    (s.removeClaim q j).claimOn p i = s.claimOn p i := by
  rewrite [State.removeClaim, State.claimOn, State.claimOn, List.find?_filter]
  congr 1
  funext x
  rewrite [Bool.eq_iff_iff]
  simp only [decide_eq_true_eq, Bool.not_eq_true', Bool.and_eq_false_iff, beq_eq_false_iff_ne, Bool.and_eq_true, beq_iff_eq]
  constructor
  · exact fun hx => hx.2
  · rintro ⟨rfl, rfl⟩
    exact ⟨h, rfl, rfl⟩

theorem State.claimOn_removeClaim_self (s : State) (p i : Nat) : (s.removeClaim p i).claimOn p i = none := by
  refine List.find?_eq_none.mpr fun x hx => ?_
  have := (List.mem_filter.mp hx).2
  rewrite [Bool.not_eq_true'] at this
  rewrite [this]
  decide

/-- What the completion of a command makes of its claim (R146, R149). -/
theorem State.claimCompleted_cases {f : State} {p i : Nat} :
    (∀ c, f.claimOn p i = some c → c.entry = some .inFlight →
      (c.state = .held → f.claimCompleted p i = f.putClaim { c with entry := none })
      ∧ (∀ b, c.state = .ending b → c.stopMark = false → f.claimCompleted p i = f.putClaim { c with entry := none })
      ∧ (c.state = .ending false → c.stopMark = true → f.claimCompleted p i = f.removeClaim p i)
      ∧ (c.state = .ending true → c.stopMark = true →
          f.claimCompleted p i = (f.removeClaim p i).noticeClaimEnd c .releasedByStop))
    ∧ ((∀ c, f.claimOn p i = some c → c.entry ≠ some .inFlight) → f.claimCompleted p i = f) := by
  refine ⟨fun c hc hf => ⟨fun hs => ?_, fun b hs hm => ?_, fun hs hm => ?_, fun hs hm => ?_⟩, fun hn => ?_⟩
  · simp only [State.claimCompleted, hc, hf, hs, if_true]
  · simp only [State.claimCompleted, hc, hf, hs, hm, if_true, Bool.false_eq_true, if_false]
  · simp only [State.claimCompleted, hc, hf, hs, hm, if_true, Bool.false_eq_true, if_false]
  · simp only [State.claimCompleted, hc, hf, hs, hm, if_true]
  · cases hc : f.claimOn p i with
    | none => simp only [State.claimCompleted, hc]
    | some c => simp only [State.claimCompleted, hc, if_neg (hn c hc)]

/-- A completed command settles its own claim alone. -/
theorem State.claimCompleted_claimOn_ne (f : State) {p i q j : Nat} (h : p ≠ q ∨ i ≠ j) :
    (f.claimCompleted q j).claimOn p i = f.claimOn p i := by
  obtain ⟨hcases, hno⟩ := State.claimCompleted_cases (f := f) (p := q) (i := j)
  by_cases hf : ∃ c, f.claimOn q j = some c ∧ c.entry = some .inFlight
  · obtain ⟨c, hc, hi⟩ := hf
    obtain ⟨h1, h2, h3, h4⟩ := hcases c hc hi
    have hkey := List.find?_some hc
    simp only [Bool.and_eq_true, beq_iff_eq] at hkey
    have hput : (f.putClaim { c with entry := none }).claimOn p i = f.claimOn p i :=
      State.claimOn_putClaim_ne f (by rw [hkey.1, hkey.2]; exact h)
    cases hs : c.state with
    | held => rw [h1 hs, hput]
    | ending b =>
      cases hm : c.stopMark with
      | false => rw [h2 b hs hm, hput]
      | true =>
        cases b with
        | false => rw [h3 hs hm, State.claimOn_removeClaim_ne f h]
        | true =>
          have hcl : ((f.removeClaim q j).noticeClaimEnd c .releasedByStop).claims = (f.removeClaim q j).claims :=
            State.noticeClaimEnd_claims _ _ _
          rewrite [h4 hs hm, State.claimOn, hcl]
          exact State.claimOn_removeClaim_ne f h
  · rw [hno fun c hc hi => hf ⟨c, hc, hi⟩]

/-- The status of the response to a command by the answer to its call (R28, R37). -/
theorem State.urgentStatus_judged {s : State} {t : Transaction} (hk : t.kind = .actuate) (status : Byte) (payload : List Byte) :
    urgentStatus (s.judgeContent t status payload) = if answerResult status = .accept ∧ payload = [] then .done
      else if answerResult status = .inhibit ∧ payload = [] then .unitInhibited else .unitDeclined := by
  have hadm (r : AnswerResult) (g : Option Generation) : admittedLengths .actuate r g = if r = .decline then [] else [0] := by
    cases r <;> cases g <;> rfl
  rewrite [State.judgeContent_eq, hk, hadm]
  have hlen : payload.length ∈ [0] ↔ payload = [] := by simp
  cases hres : answerResult status with
  | decline => rfl
  | accept =>
    rewrite [if_neg (c := AnswerResult.accept = .decline) (by decide)]
    by_cases hp : payload = []
    · rewrite [if_pos (hlen.mpr hp), if_pos ⟨rfl, hp⟩]
      rfl
    · rewrite [if_neg fun e => hp (hlen.mp e), if_neg fun e => hp e.2, if_neg fun e => hp e.2]
      rfl
  | inhibit =>
    rewrite [if_neg (c := AnswerResult.inhibit = .decline) (by decide)]
    by_cases hp : payload = []
    · rewrite [if_pos (hlen.mpr hp), if_neg (fun e => by cases e.1), if_pos ⟨rfl, hp⟩]
      rfl
    · rewrite [if_neg fun e => hp (hlen.mp e), if_neg fun e => hp e.2, if_neg fun e => hp e.2]
      rfl
  | unknownKind =>
    rewrite [if_neg (c := AnswerResult.unknownKind = .decline) (by decide), if_neg (c := AnswerResult.unknownKind = .accept ∧ _)
      (fun e => by cases e.1), if_neg (c := AnswerResult.unknownKind = .inhibit ∧ _) (fun e => by cases e.1)]
    split <;> rfl

/-- Settles O24: the requester is answered, then the claim settled. -/
theorem urgentCommandAnswered : Obligations.UrgentCommandAnswered := by
  intro s t since e status payload h ho ht hk hl
  obtain ⟨st, hst⟩ : ∃ st, st = urgentStatus (s.judgeContent t status payload) := ⟨_, rfl⟩
  have hst' := hst.trans (State.urgentStatus_judged hk status payload)
  obtain ⟨g, hg⟩ : ∃ g, g = (s.heard t.target status).deferAll (e.responses st (e.clamped && st == .done)) := ⟨_, rfl⟩
  have hout : (s.heard t.target status).handOutcome t status (s.judgeContent t status payload)
      = g.claimCompleted e.position e.index := by
    rw [State.handOutcome, ho, hg, hst]
  have hheard := s.heard_eq t.target status
  have hset : g.settings = s.settings := by rw [hg, State.deferAll_settings, State.heard_settings]
  have hclaims : g.claims = s.claims := by rw [hg, State.deferAll_claims, hheard]
  have hcomb : g.comb = s.comb := by rw [hg, State.deferAll_comb, hheard]
  have hline : g.line = { s.line with tx := none } := by rw [hg, State.deferAll_line, hheard]
  have hon (p i : Nat) : g.claimOn p i = s.claimOn p i := by rw [State.claimOn, State.claimOn, hclaims]
  have htall : g.tallies = { s.tallies with answersGood := bumped s.counters.answersGood } := by
    rewrite [hg, State.deferAll_tallies, hheard]
    rfl
  have hkeep : Keeps [.now, .comb, .sense, .units, .cache, .lamps, .flash, .slots, .settings, .setup, .portIn, .pending] s g := by
    have hin : g.inlets = s.inlets := by rw [hg, State.deferAll_inlets, hheard]; rfl
    intro x hx
    cases x with
    | slots => exact slots_same hin
    | portIn => exact portIn_same hin
    | comb => exact comb_same hcomb
    | settings => exact hset
    | now | sense | units | cache | lamps | flash | setup | pending => simp [Part.same, hg, State.heard]
    | line | walker | claims | counters | missed | portOut => simp at hx
  have hkept : Keeps [.now, .comb, .sense, .units, .cache, .lamps, .flash, .slots, .settings, .setup, .portIn, .pending] g
      (g.claimCompleted e.position e.index) := by
    intro x hx
    cases x with
    | slots => exact slots_same (by simp)
    | portIn => exact portIn_same (by simp)
    | comb => exact comb_same (by simp)
    | now | sense | units | cache | lamps | flash | settings | setup | pending => simp [Part.same]
    | line | walker | claims | counters | missed | portOut => simp at hx
  obtain ⟨hcases, hno⟩ := State.claimCompleted_cases (f := g) (p := e.position) (i := e.index)
  simp only [hon] at hcases hno
  have hkey {c : Claim} (hc : s.claimOn e.position e.index = some c) : e.position = c.position ∧ e.index = c.index := by
    have := List.find?_some hc
    simp only [Bool.and_eq_true, beq_iff_eq] at this
    exact ⟨this.1.symm, this.2.symm⟩
  refine ⟨g.claimCompleted e.position e.index, g.outbox, exec_answer_quiet h hl hout (by rw [State.claimCompleted_comb, hcomb]), ?_,
    fun hn => ?_, fun q hq => ?_, fun c hc hf => ⟨fun hs => ?_, fun b hs hm => ?_, fun hs hm => ?_, fun hs hm => ?_⟩, fun hn => ?_,
    fun p i hpi => ?_, ?_, hkeep.trans hkept⟩
  · rw [State.claimCompleted_line, hline]
  · rewrite [hg, UrgentEntry.responses, hn]
    exact s.heard_outbox t.target status
  · have hr : e.responses st (e.clamped && st == .done) = [⟨q.slot, codeActuate, q.sequence, st, e.clamped && st == .done, []⟩] := by
      rw [UrgentEntry.responses, hq]
    have hclamped : (e.clamped && st == .done) = (e.clamped && decide (answerResult status = .accept ∧ payload = [])) := by
      rewrite [hst']
      by_cases ha : answerResult status = .accept ∧ payload = []
      · simp [ha]
      · rewrite [if_neg ha, decide_eq_false ha]
        split <;> rfl
    rewrite [hg, hr, State.deferAll_outbox _ _ (by simp [codeActuate, codeLampSet]), State.heard_outbox,
      Outbox.respondAll_settings (s.heard_settings t.target status), hclamped, ← hst']
    rfl
  · rewrite [(hcases c hc hf).1 hs]
    exact ⟨rfl, State.claimOn_putClaim_self ((hon _ _).trans hc) rfl rfl⟩
  · rewrite [(hcases c hc hf).2.1 b hs hm]
    exact ⟨rfl, State.claimOn_putClaim_self ((hon _ _).trans hc) rfl rfl⟩
  · rewrite [(hcases c hc hf).2.2.1 hs hm]
    exact ⟨rfl, State.claimOn_removeClaim_self _ _ _⟩
  · rewrite [(hcases c hc hf).2.2.2 hs hm]
    refine ⟨?_, ?_⟩
    · rewrite [State.noticeClaimEnd, State.offerNotice_outbox _ _ _ _ (by simp), ← (hkey hc).1, ← (hkey hc).2]
      exact Outbox.offer_settings hset _ _ _ _
    · have hcl : ((g.removeClaim e.position e.index).noticeClaimEnd c .releasedByStop).claims
          = (g.removeClaim e.position e.index).claims := State.noticeClaimEnd_claims _ _ _
      rewrite [State.claimOn, hcl]
      exact State.claimOn_removeClaim_self _ _ _
  · rewrite [hno hn]
    exact ⟨rfl, hclaims⟩
  · rw [State.claimCompleted_claimOn_ne g hpi, hon]
  · exact congrArg (fun c : Counters => { c with noticesDropped := (g.claimCompleted e.position e.index).counters.noticesDropped })
      ((State.claimCompleted_tallies _ _ _).trans htall)

end Sys2Proof.Machine
end

/-! From here on proofs are elaborated one after another: side by side they come near the memory limit of the check. -/
section
set_option Elab.async false

section
/-! PROOFS. The flags of an answer and the LAMP-REPORTs they lead to (R31, R55, R56, R77): O22. -/
namespace Sys2Proof.Machine

/-! ### The last position (R55) -/

theorem foldl_max_le {l : List UnitRecord} {n k : Nat} (hn : n ≤ k) (h : ∀ u ∈ l, u.position ≤ k) :
    l.foldl (fun n u => Nat.max n u.position) n ≤ k := by
  induction l generalizing n with
  | nil => exact hn
  | cons u l ih =>
    exact ih (Nat.max_le.mpr ⟨hn, h u List.mem_cons_self⟩) fun w hw => h w (List.mem_cons_of_mem u hw)

theorem le_foldl_max {l : List UnitRecord} {n k : Nat} (h : k ≤ n ∨ ∃ u ∈ l, k ≤ u.position) :
    k ≤ l.foldl (fun n u => Nat.max n u.position) n := by
  induction l generalizing n with
  | nil =>
    obtain h | ⟨u, hu, -⟩ := h
    · exact h
    · cases hu
  | cons u l ih =>
    refine ih ?_
    obtain h | ⟨w, hw, hk⟩ := h
    · exact .inl (h.trans (Nat.le_max_left _ _))
    · obtain rfl | hw := List.mem_cons.mp hw
      · exact .inl (hk.trans (Nat.le_max_right _ _))
      · exact .inr ⟨w, hw, hk⟩

theorem State.lastPosition_eq {s : State} {v : UnitRecord} (hv : v ∈ s.units) (h : ∀ w ∈ s.units, w.position ≤ v.position) :
    s.lastPosition = v.position :=
  Nat.le_antisymm (foldl_max_le (Nat.zero_le _) h) (le_foldl_max (.inr ⟨v, hv, le_rfl⟩))

theorem State.lastPosition_ne {s : State} {p : Nat} (h : ∃ w ∈ s.units, p < w.position) : p ≠ s.lastPosition := by
  obtain ⟨w, hw, hp⟩ := h
  have := le_foldl_max (n := 0) (.inr ⟨w, hw, le_refl w.position⟩)
  have hl : w.position ≤ s.lastPosition := this
  omega

/-! ### The walker that has heard the flags -/

/-- The walker once the rear-activity flag is handed on (R55). -/
def State.rearHanded (s : State) (p : Nat) (flag : Bool) : Walker :=
  if p = s.lastPosition then
    { s.walker with
      extDue := s.walker.extDue || (flag && !s.walker.rearSeen && s.comb.state == .serving && !s.walker.active
        && !s.comb.chainFull && !s.comb.identityClash)
      rearSeen := flag }
  else s.walker

/-- The walker once the lamp-fault flag of a position is handed on (R56). -/
def Walker.faultHanded (w : Walker) (p : Nat) (flag : Bool) : Walker :=
  if inPositionSet w.lampFaultSeen p = flag then w
  else { w with lampReports := w.lampReports ||| positionBit p, lampFaultSeen := writePosition w.lampFaultSeen p flag }

theorem State.heard_walker_genB {s : State} {p : Nat} {v : UnitRecord} (hv : s.unitAt p = some v) (hg : v.generation = .b)
    (status : Byte) : (s.heard p status).walker
      = if v.state = .serving then (s.rearHanded p (status.getLsbD 4)).faultHanded p (status.getLsbD 5)
        else s.rearHanded p (status.getLsbD 4) := by
  have hv' : ((s.count .answersGood).setTx none).unitAt p = some v := hv
  have hrear : (State.handRear ((s.count .answersGood).setTx none) p (answerRear status)).walker
      = s.rearHanded p (status.getLsbD 4) := by
    unfold State.handRear State.rearHanded
    split
    · next h => exact (if_pos h).symm
    · next h => exact (if_neg h).symm
  rewrite [State.heard, State.handFlags, hv']
  simp only [hg]
  split
  · rewrite [State.handLampFault, ← hrear, Walker.faultHanded]
    split
    · next h => exact (if_pos h).symm
    · next h => exact (if_neg h).symm
  · exact hrear

theorem State.rearHanded_others (s : State) (p : Nat) (flag : Bool) : s.rearHanded p flag = { s.walker with
    rearSeen := (s.rearHanded p flag).rearSeen, extDue := (s.rearHanded p flag).extDue } := by
  unfold State.rearHanded
  split <;> rfl

theorem Walker.faultHanded_others (w : Walker) (p : Nat) (flag : Bool) : w.faultHanded p flag = { w with
    lampReports := (w.faultHanded p flag).lampReports, lampFaultSeen := (w.faultHanded p flag).lampFaultSeen } := by
  unfold Walker.faultHanded
  split <;> rfl

/-- A changed lamp-fault flag puts the position in the lamp-report set (R56). -/
theorem Walker.faultHanded_reports (w : Walker) {p : Nat} (h1 : 1 ≤ p) (h6 : p ≤ 6) (flag : Bool) (q : Nat) :
    inPositionSet (w.faultHanded p flag).lampReports q
      = (inPositionSet w.lampReports q || decide (q = p ∧ inPositionSet w.lampFaultSeen p ≠ flag)) := by
  unfold Walker.faultHanded
  by_cases h : inPositionSet w.lampFaultSeen p = flag
  · rewrite [if_pos h]
    simp [h]
  · rewrite [if_neg h]
    have := inPositionSet_writePosition_true w.lampReports q h1 (by omega : p ≤ 8)
    rewrite [writePosition, if_pos rfl] at this
    rewrite [this]
    simp [h]

/-- The flag of the position is remembered, and no other moves (R56). -/
theorem Walker.faultHanded_seen (w : Walker) {p : Nat} (h1 : 1 ≤ p) (h6 : p ≤ 6) (flag : Bool) (q : Nat) :
    inPositionSet (w.faultHanded p flag).lampFaultSeen q = if q = p then flag else inPositionSet w.lampFaultSeen q := by
  unfold Walker.faultHanded
  by_cases h : inPositionSet w.lampFaultSeen p = flag
  · rewrite [if_pos h]
    by_cases hq : q = p
    · rw [if_pos hq, hq, h]
    · rw [if_neg hq]
  · rewrite [if_neg h]
    cases flag with
    | true =>
      rewrite [inPositionSet_writePosition_true _ q h1 (by omega : p ≤ 8)]
      by_cases hq : q = p <;> simp [hq]
    | false =>
      rewrite [inPositionSet_writePosition_false]
      by_cases hq : q = p <;> simp [hq]

/-- The flags heard are handed on as R31, R55 and R56 say. -/
theorem flagsHanded_heard {s u : State} {p : Nat} {v : UnitRecord} {status : Byte} (h1 : 1 ≤ p) (h6 : p ≤ 6)
    (hv : s.unitAt p = some v) (hu : u.walker = (s.heard p status).walker) : FlagsHanded s u v status := by
  have hp : v.position = p := by simpa using List.find?_some hv
  have hmem : v ∈ s.units := List.mem_of_find?_eq_some hv
  have hr := s.rearHanded_others p (status.getLsbD 4)
  have hreports : (s.rearHanded p (status.getLsbD 4)).lampReports = s.walker.lampReports := by rw [hr]
  have hseen : (s.rearHanded p (status.getLsbD 4)).lampFaultSeen = s.walker.lampFaultSeen := by rw [hr]
  have hf := (s.rearHanded p (status.getLsbD 4)).faultHanded_others p (status.getLsbD 5)
  -- the rear-activity half, whichever state the unit is in
  have hrear (hg : v.generation = .b) : u.walker.rearSeen = (s.rearHanded p (status.getLsbD 4)).rearSeen
      ∧ u.walker.extDue = (s.rearHanded p (status.getLsbD 4)).extDue := by
    rewrite [hu, State.heard_walker_genB hv hg]
    split
    · rewrite [hf]
      exact ⟨rfl, rfl⟩
    · exact ⟨rfl, rfl⟩
  refine ⟨fun hg => ?_, ?_, fun hg q => ?_, fun hg q => ?_, fun hg hlast => ?_, fun hfront => ?_⟩
  · rw [hu, State.heard_walker_genA s p status hv hg]
  · cases hg : v.generation with
    | a => rw [hu, State.heard_walker_genA s p status hv hg]
    | b =>
      rewrite [hu, State.heard_walker_genB hv hg]
      split
      · rw [hf, hr]
      · rw [hr]
  · rewrite [hu, State.heard_walker_genB hv hg, hp]
    by_cases hs : v.state = .serving
    · rewrite [if_pos hs, Walker.faultHanded_reports _ h1 h6, hreports, hseen]
      simp [hs]
    · rewrite [if_neg hs, hreports]
      simp [hs]
  · rewrite [hu, State.heard_walker_genB hv hg, hp]
    by_cases hs : v.state = .serving
    · rewrite [if_pos hs, Walker.faultHanded_seen _ h1 h6, hseen]
      simp [hs]
    · rewrite [if_neg hs, hseen]
      simp [hs]
  · obtain ⟨hrs, hxd⟩ := hrear hg
    rewrite [hrs, hxd]
    have hlp : p = s.lastPosition := by rw [State.lastPosition_eq hmem hlast, hp]
    simp only [State.rearHanded, if_pos hlp, true_and]
    congr 1
    rewrite [Bool.eq_iff_iff]
    simp only [Bool.and_eq_true, Bool.not_eq_true', beq_iff_eq, decide_eq_true_eq, and_assoc]
  · cases hg : v.generation with
    | a =>
      rewrite [hu, State.heard_walker_genA s p status hv hg]
      exact ⟨rfl, rfl⟩
    | b =>
      obtain ⟨hrs, hxd⟩ := hrear hg
      have hlp : p ≠ s.lastPosition := State.lastPosition_ne (hp ▸ hfront)
      rewrite [hrs, hxd, State.rearHanded, if_neg hlp]
      exact ⟨rfl, rfl⟩

/-! ### Answers that hand flags on -/

/-- The outcome of a unit access, an ACTUATE, a poll or a LAMP-REPORT moves neither the walker nor the combination. -/
theorem State.handOutcome_still {f : State} {t : Transaction}
    (ho : ∀ step, t.originator = .bringUp step → ∃ p, step = .lampReport p) (status : Byte)
    (answer : Option (AnswerResult × List Byte)) :
    (f.handOutcome t status answer).walker = f.walker ∧ (f.handOutcome t status answer).comb = f.comb := by
  unfold State.handOutcome
  split
  · next step hs =>
    obtain ⟨p, rfl⟩ := ho step hs
    rcases answer with _ | ⟨r, d⟩
    · exact ⟨rfl, rfl⟩
    · cases r <;> exact ⟨rfl, rfl⟩
  · simp
  · simp
  · split <;> simp

/-- Settles O22: the flags by `flagsHanded_heard`, the starts by the scheduler's rules. -/
theorem lampReportsFollowFlags : Obligations.LampReportsFollowFlags := by
  refine ⟨fun s t since v status payload h h1 h6 hv hl ho => ?_, fun s since p hr hg ht hw ha hoff hu hp => ?_,
    fun s since step hr hg ht hw ha hoff hu => ?_⟩
  · obtain ⟨hwalker, hcomb⟩ := State.handOutcome_still (f := s.heard t.target status) (t := t)
      (fun step hs => ⟨_, (ho step hs).1⟩) status (s.judgeContent t status payload)
    have hheard := s.heard_eq t.target status
    refine ⟨_, exec_answer_quiet h hl rfl (hcomb.trans (by rw [hheard])), flagsHanded_heard h1 h6 hv hwalker, fun hb => ?_⟩
    have hk := (ho _ hb).2
    have hout : (s.heard t.target status).handOutcome t status (s.judgeContent t status payload)
        = (s.heard t.target status).lampReported t.target
            (if answerResult status = .accept ∧ payload.length = 1 then byteAt payload 0 else 0) := by
      rewrite [State.handOutcome_bringUp hb]
      by_cases hacc : answerResult status = .accept ∧ payload.length = 1
      · rw [if_pos hacc, State.judgeContent_accepted (by rw [hk, hacc.2]; exact List.mem_singleton_self 1) hacc.1]
        rfl
      · have hadm (g : Option Generation) : admittedLengths .lampReport .accept g ⊆ [1] := by
          cases g <;> exact List.Subset.refl _
        have hne := State.judgeContent_refused (s := s) (t := t) (by rw [hk]; exact hadm _) hacc
        rewrite [if_neg hacc]
        rcases hj : s.judgeContent t status payload with _ | ⟨r, d⟩
        · rfl
        · cases r with
          | accept => exact absurd hj (hne d)
          | decline | inhibit | unknownKind => rfl
    rewrite [hout, hheard]
    refine ⟨rfl, rfl, rfl, ?_⟩
    refine Keeps.sub (keeps_cons (p := .now) rfl (keeps_cons (p := .comb) rfl (keeps_cons (p := .sense) rfl
      (keeps_cons (p := .cache) rfl (keeps_cons (p := .lamps) rfl (keeps_cons (p := .flash) rfl
      (keeps_cons (p := .claims) rfl (keeps_still rfl rfl rfl rfl rfl)))))))) ?_
    decide
  · have hready : LineReady (s.gapEnded since) := ⟨ht, rfl, hw⟩
    have hoffer := State.offerNext_report (s := s.gapEnded since) hoff hready.noReport hw hp
    have hst : (s.gapEnded since).offer (.lampReport p)
        = { s.gapEnded since with walker := { s.walker with offered := some (.lampReport p) } } :=
      State.offer_of_none (s := s.gapEnded since) hoff _
    have hl : LineReady { s.gapEnded since with walker := { s.walker with offered := some (.lampReport p) } } := ⟨ht, rfl, hw⟩
    have he := exec_resyncGapEnd_free hr hg ht
    rewrite [State.lineWork, hoffer, hst, hl.schedule_step hu rfl] at he
    refine ⟨_, he, rfl, rfl, rfl, ha, rfl, rfl, fun q => inPositionSet_writePosition_false _ p q, ?_⟩
    refine Keeps.sub (keeps_cons (p := .comb) rfl (keeps_cons (p := .sense) rfl (keeps_cons (p := .units) rfl
      (keeps_cons (p := .cache) rfl (keeps_cons (p := .lamps) rfl (keeps_cons (p := .flash) rfl
      (keeps_cons (p := .claims) rfl (keeps_cons (p := .counters) rfl (keeps_still rfl rfl rfl rfl rfl))))))))) ?_
    decide
  · have hready : LineReady (s.gapEnded since) := ⟨ht, rfl, hw⟩
    have he := exec_resyncGapEnd_free hr hg ht
    rewrite [hready.work_step hu hoff] at he
    refine ⟨_, he, rfl, ?_, fun p hn hp => ?_, fun p next hs ho => ?_⟩
    · have hs := s.walker.started_offers (step := step) fun _ => ha
      exact (congrArg (·.active) hs).trans ha
    · obtain ⟨h1, -, h3⟩ := s.walker.started_step hn
      refine h3.lowest p ?_
      rewrite [LowestReport, h1]
      exact hp
    · rewrite [hs]
      exact ho

end Sys2Proof.Machine
end

section
/-! PROOFS. The reads of the masters, and the entries that are no request: O27 to O30. -/
namespace Sys2Proof.Machine

/-! ### A request of one frame and its answer (R161) -/

section
variable {s : State} {e : IntakeEntry} {rest : List IntakeEntry} {code : Byte}

/-- A request is decided in the state that its taking leaves. -/
theorem Takes.decided (ht : Takes s code e rest 1) (h1 : code ≠ codeCountersDump) (h2 : code ≠ codeCountersDumpReset)
    (f : IntakeEntry → State → State) :
    powered (fun s => s.taking (Machine.isRequest code) f) s = .next (f e (s.taken rest)) := by
  rewrite [powered_running ht.running, ht.taking h1 h2]
  rfl

theorem State.taken_refused (s : State) (e : IntakeEntry) (rest : List IntakeEntry) (st : Status) :
    (s.taken rest).answer e st = refusedWith s e rest st := State.answer_refused s e rest st

theorem State.taken_done (s : State) (e : IntakeEntry) (rest : List IntakeEntry) (data : List Byte) :
    (s.taken rest).answer e .done data
      = doneWith s e rest (byteAt data 0) (byteAt data 1) (byteAt data 2) (byteAt data 3) :=
  State.answer_taken _ _ _ _ _ _ _ _ _ _ (fitBytes_four data)

end

/-! ### Counter dumps (R42, R43) -/

theorem State.answered_queueFrame (s : State) (e : IntakeEntry) (rest : List IntakeEntry) (fs : List Frame)
    (data : List Byte) :
    (answered s e rest fs).queueFrame kindResponse e.slot data
      = answered s e rest (fs ++ [⟨identOf s.block kindResponse (s.tag e.slot), data⟩]) := by
  unfold answered
  rewrite [← List.append_assoc]
  rfl

/-- A further response to the same slot carries no missed flag. -/
theorem State.answered_answer (s : State) (e : IntakeEntry) (rest : List IntakeEntry) (fs : List Frame) (st : Status)
    (data : List Byte) :
    (answered s e rest fs).answer e st data
      = answered s e rest (fs ++ [⟨identOf s.block kindResponse (s.tag e.slot), responseBytes e.code e.sequence st false false data⟩]) := by
  have hm : (answered s e rest fs).missed e.slot = false := by simp [State.missed, answered]
  change ((answered s e rest fs).queueFrame kindResponse e.slot
    (responseBytes e.code e.sequence st ((answered s e rest fs).missed e.slot) false data)).setMissed e.slot false = _
  rewrite [hm, State.answered_queueFrame]
  generalize fs ++ [_] = gs
  have hs : (answered s e rest gs).slots.set e.slot { (answered s e rest gs).slots.get e.slot with missed := false }
      = (answered s e rest gs).slots := by
    unfold answered
    cases e.slot <;> rfl
  unfold State.setMissed
  rw [hs]

/-- The six frames of a dump of these counters, queued at the taking. -/
theorem State.taken_queueDump (s : State) (e : IntakeEntry) (rest : List IntakeEntry) (b : Counters) :
    (s.taken rest).queueDump e b = answered s e rest (dumpFrames { s with counters := b } e) := by
  have hfirst : ∀ d0 d1 d2 d3, (s.taken rest).answer e .part [d0, d1, d2, d3]
      = answered s e rest [responseFrame s e .part false d0 d1 d2 d3] := fun d0 d1 d2 d3 =>
    State.answer_taken _ _ _ _ _ _ _ _ _ _ rfl
  unfold State.queueDump
  dsimp only [bytes16, List.cons_append, List.nil_append]
  rewrite [hfirst, State.answered_queueFrame, State.answered_queueFrame, State.answered_queueFrame, State.answered_queueFrame,
    State.answered_answer]
  rfl

theorem Takes.dumped {s : State} {e : IntakeEntry} {rest : List IntakeEntry} {code : Byte} (ht : Takes s code e rest 6) :
    s.takeHead (Machine.isRequest code) = some (e, { s with port := { s.port with intake := rest } }) := by
  refine ht.takeHead ?_
  unfold State.framesNeeded
  split_ifs <;> decide

/-- Settles O27: six answers, each joined to the tail; the clearing changes nothing that the frames read. -/
theorem countersDumped : Obligations.CountersDumped := by
  refine fun s e rest => ⟨fun ht => ?_, fun ht hr => ?_, fun ht hr => ?_⟩
  · dsimp only [exec, execCountersDump]
    rewrite [powered_running ht.running, show codeCountersDump = 0x70 from rfl, ht.dumped]
    exact congrArg _ (s.taken_queueDump e rest s.counters)
  · dsimp only [exec, execCountersDumpReset]
    rewrite [powered_running ht.running, show codeCountersDumpReset = 0x71 from rfl, ht.dumped]
    dsimp only
    rewrite [if_pos hr]
    exact congrArg _ (State.taken_queueDump { s with counters := .zero } e rest s.counters)
  · have hn : s.framesNeeded e ≤ 1 := by
      unfold State.framesNeeded
      rw [if_neg (Nat.not_lt.mpr ht.whole), if_neg (by rw [ht.carries]; decide), if_neg (by simp [hr])]
    dsimp only [exec, execCountersDumpReset]
    rewrite [powered_running ht.running, show codeCountersDumpReset = 0x71 from rfl, ht.takeHead hn]
    dsimp only
    rewrite [if_neg (by simp [hr])]
    exact congrArg _ (State.answer_refused s e rest .refusedRights)

/-! ### Entries that are no request (R161) -/

theorem Heads.taking {s : State} {e : IntakeEntry} {rest : List IntakeEntry} {wanted : IntakeEntry → Bool}
    (hh : Heads s e rest 1) (hn : s.framesNeeded e ≤ 1) (hw : wanted e = true) (f : IntakeEntry → State → State) :
    s.taking wanted f = f e (s.taken rest) := by
  have hroom := hh.room
  have hf : s.framesNeeded e ≤ s.freeFrames := by simp only [State.freeFrames]; omega
  have ht : s.takesRequests = true := by simp [State.takesRequests, hh.awake, hh.noWait, hh.noDeferred]
  have h : s.takeHead wanted = some (e, { s with port := { s.port with intake := rest } }) := by
    simp [State.takeHead, hh.head, ht, hw, hf]
  simp only [State.taking, h]
  rfl

/-- Settles O30: neither kind of entry is a dump, so one free frame suffices. -/
theorem entriesThatAreNoRequestRefused : Obligations.EntriesThatAreNoRequestRefused := by
  refine fun s e rest hh => ⟨fun hl => ?_, fun hl hc => ?_⟩
  · dsimp only [exec, execRefusedFormat]
    rewrite [powered_running hh.running, hh.taking (by simp [State.framesNeeded, hl]) (by simpa using hl)]
    exact congrArg _ (s.taken_refused e rest _)
  · have hn : s.framesNeeded e ≤ 1 := by
      unfold State.framesNeeded
      rw [if_neg (Nat.not_lt.mpr hl), if_neg fun h => hc (by rw [h]; decide), if_neg fun h => hc (by rw [h.1]; decide)]
    dsimp only [exec, execRefusedUnknown]
    have hw : (decide (8 ≤ e.data.length) && !takenCodes.contains e.code) = true := by
      have hc' : e.code ∉ takenCodes := hc
      simp [hl, hc']
    rewrite [powered_running hh.running, hh.taking hn hw]
    exact congrArg _ (s.taken_refused e rest _)

end Sys2Proof.Machine
end

section
/-! PROOFS. UNIT-READ, FUNCTION-READ, VERDICT-READ, SENSE-READ, SETTING-READ and PART-STATUS-READ: O28, O29. -/
namespace Sys2Proof.Machine

/-! ### The items (R80, R81, R126, R140) -/

@[simp] theorem lineOfNumber_lineNumber (l : Line) : lineOfNumber (lineNumber l) = some l := by cases l <;> rfl

theorem lineOfNumber_none {n : Nat} (h : 7 < n) : lineOfNumber n = none :=
  List.getElem?_eq_none (show allLines.length ≤ n from h)

/-- Bit `i` of the admitted-index flags stands for index `i`. -/
theorem UnitRecord.indexFlags_bit (u : UnitRecord) (i : Nat) (hi : i < 32) :
    u.indexFlags.getLsbD i = u.functions.any fun f => f.index == i := by
  have h : ∀ (fs : List FunctionEntry) (w : Word32),
      (fs.foldl (fun w e => w ||| (1#32 <<< e.index)) w).getLsbD i
        = (w.getLsbD i || fs.any fun f => f.index == i) := by
    intro fs
    induction fs with
    | nil => simp
    | cons f fs ih =>
      intro w
      have hb : (1#32 <<< f.index).getLsbD i = (f.index == i) := by
        rewrite [Bool.eq_iff_iff]
        simp [hi]
        omega
      rw [List.foldl_cons, ih, BitVec.getLsbD_or, hb, List.any_cons, Bool.or_assoc]
  have h0 := h u.functions 0
  rwa [show (0 : Word32).getLsbD i = false from BitVec.getLsbD_zero, Bool.false_or] at h0

theorem Load.word_fields (x : Load) (hc : x.c < 2048) (hn : x.n < 16) :
    x.word.extractLsb' 16 12 = BitVec.ofNat 12 x.r ∧ x.word.extractLsb' 4 11 = BitVec.ofNat 11 x.c
      ∧ x.word.extractLsb' 0 4 = BitVec.ofNat 4 x.n := by
  refine ⟨?_, ?_, ?_⟩ <;>
  · apply BitVec.eq_of_toNat_eq
    simp only [Load.word, BitVec.extractLsb'_toNat, BitVec.toNat_ofNat, Nat.shiftRight_eq_div_pow]
    omega

theorem unitFlags_eq (g : Generation) (p r : Bool) :
    byteOf (generationCode g) ||| (flagByte p <<< 4) ||| (flagByte r <<< 5)
      = byteOf (generationCode g + 16 * p.toNat + 32 * r.toNat) := by
  revert p r
  cases g <;> decide

theorem heldPresence_eq (h : Bool) (p : Presence) :
    flagByte h ||| byteOf (2 * presenceCode p) = byteOf (h.toNat + 2 * presenceCode p) := by
  revert h
  cases p <;> decide

theorem UnitRecord.item_line (u : UnitRecord) (l : Line) :
    u.item (8 + lineNumber l) = bytesOfWord32 (u.loads.get l).word := by
  cases l <;> rfl

theorem UnitRecord.item_refusal (u : UnitRecord) :
    u.item 3 = [byteOf ((u.refusal.map fun r => refusalCode r.1).getD 0), byteOf ((u.refusal.map Prod.snd).getD 0)] := by
  unfold UnitRecord.item
  cases u.refusal <;> rfl

/-! ### UNIT-READ and FUNCTION-READ (R79 to R81) -/

section
variable {s : State} {e : IntakeEntry} {rest : List IntakeEntry}

theorem exec_unitRead_refused (ht : Takes s 0x22 e rest 1)
    (h : e.operand 2 < 1 ∨ 6 < e.operand 2 ∨ 15 < e.operand 3 ∨ (4 < e.operand 3 ∧ e.operand 3 < 8)) :
    exec .unitRead s = .next (refusedWith s e rest .refusedRange) := by
  have hb : (!validPosition (e.operand 2) || !unitItemDefined (e.operand 3)) = true := by
    simp only [validPosition, unitItemDefined, Bool.or_eq_true, Bool.not_eq_true', Bool.and_eq_false_iff,
      Bool.or_eq_false_iff, decide_eq_false_iff_not]
    omega
  dsimp only [exec, execUnitRead]
  rw [Takes.decided (code := codeUnitRead) ht (by decide) (by decide), if_pos hb, State.taken_refused]

theorem exec_unitRead (ht : Takes s 0x22 e rest 1) (h1 : 1 ≤ e.operand 2) (h6 : e.operand 2 ≤ 6)
    (h : e.operand 3 ≤ 4 ∨ (8 ≤ e.operand 3 ∧ e.operand 3 ≤ 15)) :
    exec .unitRead s = .next (match s.unitAt (e.operand 2) with
      | none => refusedWith s e rest .refusedState
      | some u => doneWith s e rest (byteAt (u.item (e.operand 3)) 0) (byteAt (u.item (e.operand 3)) 1)
          (byteAt (u.item (e.operand 3)) 2) (byteAt (u.item (e.operand 3)) 3)) := by
  have hb : ¬ (!validPosition (e.operand 2) || !unitItemDefined (e.operand 3)) = true := by
    simp only [validPosition, unitItemDefined, Bool.or_eq_true, Bool.not_eq_true', Bool.and_eq_false_iff,
      Bool.or_eq_false_iff, decide_eq_false_iff_not]
    omega
  dsimp only [exec, execUnitRead]
  rewrite [Takes.decided (code := codeUnitRead) ht (by decide) (by decide), if_neg hb]
  have hu : (s.taken rest).unitAt (e.operand 2) = s.unitAt (e.operand 2) := rfl
  rewrite [hu]
  cases s.unitAt (e.operand 2) with
  | none => exact congrArg _ (s.taken_refused e rest _)
  | some u => exact congrArg _ (s.taken_done e rest _)

theorem exec_functionRead_refused (ht : Takes s 0x23 e rest 1)
    (h : e.operand 2 < 1 ∨ 6 < e.operand 2 ∨ 31 < e.operand 3 ∨ 1 < e.operand 4) :
    exec .functionRead s = .next (refusedWith s e rest .refusedRange) := by
  have hb : (!validPosition (e.operand 2) || !validIndex (e.operand 3) || decide (1 < e.operand 4)) = true := by
    simp only [validPosition, validIndex, Bool.or_eq_true, Bool.not_eq_true', Bool.and_eq_false_iff,
      decide_eq_false_iff_not, decide_eq_true_eq]
    omega
  dsimp only [exec, execFunctionRead]
  rw [Takes.decided (code := codeFunctionRead) ht (by decide) (by decide), if_pos hb, State.taken_refused]

/-- The operands name a position, an index and one of two items. -/
theorem entryOperands_valid (h1 : 1 ≤ e.operand 2) (h6 : e.operand 2 ≤ 6) (h31 : e.operand 3 ≤ 31) (hi : e.operand 4 ≤ 1) :
    ¬ (!validPosition (e.operand 2) || !validIndex (e.operand 3) || decide (1 < e.operand 4)) = true := by
  simp only [validPosition, validIndex, Bool.or_eq_true, Bool.not_eq_true', Bool.and_eq_false_iff,
    decide_eq_false_iff_not, decide_eq_true_eq]
  omega

theorem exec_functionRead_absent (ht : Takes s 0x23 e rest 1) (h1 : 1 ≤ e.operand 2) (h6 : e.operand 2 ≤ 6)
    (h31 : e.operand 3 ≤ 31) (hi : e.operand 4 ≤ 1) (hn : s.entryAt (e.operand 2) (e.operand 3) = none) :
    exec .functionRead s = .next (refusedWith s e rest .refusedState) := by
  have hn' : (s.taken rest).entryAt (e.operand 2) (e.operand 3) = none := hn
  dsimp only [exec, execFunctionRead]
  rewrite [Takes.decided (code := codeFunctionRead) ht (by decide) (by decide), if_neg (entryOperands_valid h1 h6 h31 hi), hn']
  exact congrArg _ (s.taken_refused e rest _)

theorem exec_functionRead (ht : Takes s 0x23 e rest 1) (h1 : 1 ≤ e.operand 2) (h6 : e.operand 2 ≤ 6)
    (h31 : e.operand 3 ≤ 31) (hi : e.operand 4 ≤ 1) {f : FunctionEntry}
    (hf : s.entryAt (e.operand 2) (e.operand 3) = some f) {d0 d1 d2 d3 : Byte} (hd : f.item (e.operand 4) = [d0, d1, d2, d3]) :
    exec .functionRead s = .next (doneWith s e rest d0 d1 d2 d3) := by
  have hf' : (s.taken rest).entryAt (e.operand 2) (e.operand 3) = some f := hf
  dsimp only [exec, execFunctionRead]
  rewrite [Takes.decided (code := codeFunctionRead) ht (by decide) (by decide), if_neg (entryOperands_valid h1 h6 h31 hi), hf']
  dsimp only
  rewrite [hd, State.taken_done]
  rfl

/-! ### VERDICT-READ (R126) -/

theorem exec_verdictRead_refused (ht : Takes s 0x20 e rest 1) (h : 7 < e.operand 2 ∨ 4 < e.operand 3) :
    exec .verdictRead s = .next (refusedWith s e rest .refusedRange) := by
  dsimp only [exec, execVerdictRead]
  rewrite [Takes.decided (code := codeVerdictRead) ht (by decide) (by decide)]
  cases hl : lineOfNumber (e.operand 2) with
  | none => exact congrArg _ (s.taken_refused e rest _)
  | some l =>
    have h4 : 4 < e.operand 3 := h.resolve_left fun h7 => by simp [lineOfNumber_none h7] at hl
    have hi : ((s.taken rest).lamps.get l).verdict.item (e.operand 3) = none := by
      obtain ⟨k, hk⟩ := Nat.exists_eq_add_of_lt h4
      rewrite [show e.operand 3 = k + 5 by omega]
      rfl
    dsimp only
    rewrite [hi]
    exact congrArg _ (s.taken_refused e rest _)

theorem exec_verdictRead (ht : Takes s 0x20 e rest 1) {l : Line} (hl : e.operand 2 = lineNumber l) {data : List Byte}
    (hd : (s.lamps.get l).verdict.item (e.operand 3) = some data) :
    exec .verdictRead s
      = .next (doneWith s e rest (byteAt data 0) (byteAt data 1) (byteAt data 2) (byteAt data 3)) := by
  have hd' : ((s.taken rest).lamps.get l).verdict.item (e.operand 3) = some data := hd
  dsimp only [exec, execVerdictRead]
  rewrite [Takes.decided (code := codeVerdictRead) ht (by decide) (by decide), hl, lineOfNumber_lineNumber]
  dsimp only
  rewrite [hd']
  exact congrArg _ (s.taken_done e rest data)

/-! ### SENSE-READ (R140) -/

theorem exec_senseRead_refused (ht : Takes s 0x30 e rest 1)
    (h : e.operand 2 < 1 ∨ 6 < e.operand 2 ∨ 31 < e.operand 3 ∨ 1 < e.operand 4) :
    exec .senseRead s = .next (refusedWith s e rest .refusedRange) := by
  have hb : (!validPosition (e.operand 2) || !validIndex (e.operand 3) || decide (1 < e.operand 4)) = true := by
    simp only [validPosition, validIndex, Bool.or_eq_true, Bool.not_eq_true', Bool.and_eq_false_iff,
      decide_eq_false_iff_not, decide_eq_true_eq]
    omega
  dsimp only [exec, execSenseRead]
  rw [Takes.decided (code := codeSenseRead) ht (by decide) (by decide), if_pos hb, State.taken_refused]

/-- No entry, or one of another class, is no SENSOR to any request. -/
theorem State.sensorAt_none {s : State} {admits : UnitState → Bool} {p i : Nat}
    (h : s.entryAt p i = none ∨ ∃ f, s.entryAt p i = some f ∧ f.cls ≠ .sensor) : s.sensorAt admits p i = none := by
  unfold State.sensorAt
  cases hu : s.unitAt p with
  | none => rfl
  | some u =>
    dsimp only
    split_ifs
    · obtain hn | ⟨f, hf, hc⟩ := h
      · have hn' : u.entry i = none := by simpa [State.entryAt, hu] using hn
        rw [hn']
      · have hf' : u.entry i = some f := by simpa [State.entryAt, hu] using hf
        rewrite [hf']
        exact if_neg hc
    · rfl

theorem State.sensorAt_some {s : State} {admits : UnitState → Bool} {p i : Nat} {u : UnitRecord} {f : FunctionEntry}
    {v : ValueRecord} (hu : s.unitAt p = some u) (ha : admits u.state = true) (hf : s.entryAt p i = some f)
    (hc : f.cls = .sensor) (hv : f.value = some v) : s.sensorAt admits p i = some (f, v) := by
  have hf' : u.entry i = some f := by simpa [State.entryAt, hu] using hf
  simp [State.sensorAt, hu, ha, hf', hc, hv]

theorem exec_senseRead_absent (ht : Takes s 0x30 e rest 1) (h1 : 1 ≤ e.operand 2) (h6 : e.operand 2 ≤ 6)
    (h31 : e.operand 3 ≤ 31) (hi : e.operand 4 ≤ 1)
    (hn : s.entryAt (e.operand 2) (e.operand 3) = none
      ∨ ∃ f, s.entryAt (e.operand 2) (e.operand 3) = some f ∧ f.cls ≠ .sensor) :
    exec .senseRead s = .next (refusedWith s e rest .refusedState) := by
  have hn' : (s.taken rest).sensorAt (fun _ => true) (e.operand 2) (e.operand 3) = none := State.sensorAt_none hn
  dsimp only [exec, execSenseRead]
  rewrite [Takes.decided (code := codeSenseRead) ht (by decide) (by decide), if_neg (entryOperands_valid h1 h6 h31 hi), hn']
  exact congrArg _ (s.taken_refused e rest _)

theorem exec_senseRead (ht : Takes s 0x30 e rest 1) (h1 : 1 ≤ e.operand 2) (h6 : e.operand 2 ≤ 6)
    (h31 : e.operand 3 ≤ 31) (hi : e.operand 4 ≤ 1) {f : FunctionEntry} {v : ValueRecord}
    (hf : s.entryAt (e.operand 2) (e.operand 3) = some f) (hc : f.cls = .sensor) (hv : f.value = some v)
    {data : List Byte} (hd : senseItem f v s.now (e.operand 4) = some data) :
    exec .senseRead s
      = .next (doneWith s e rest (byteAt data 0) (byteAt data 1) (byteAt data 2) (byteAt data 3)) := by
  have hs : (s.taken rest).sensorAt (fun _ => true) (e.operand 2) (e.operand 3) = some (f, v) := by
    cases hu : s.unitAt (e.operand 2) with
    | none => simp [State.entryAt, hu] at hf
    | some u => exact State.sensorAt_some hu rfl hf hc hv
  have hd' : senseItem f v (s.taken rest).now (e.operand 4) = some data := hd
  dsimp only [exec, execSenseRead]
  rewrite [Takes.decided (code := codeSenseRead) ht (by decide) (by decide), if_neg (entryOperands_valid h1 h6 h31 hi), hs]
  dsimp only
  rewrite [hd']
  exact congrArg _ (s.taken_done e rest data)

end

/-- Settles O28: each item by its number. -/
theorem unitVerdictAndSenseReadsAnswer : Obligations.UnitVerdictAndSenseReadsAnswer := by
  refine ⟨⟨fun s e rest ht => ⟨exec_unitRead_refused ht, fun h1 h6 h => ⟨fun hn => ?_, fun u hu => ?_⟩⟩,
    fun s e rest ht => ⟨exec_functionRead_refused ht, fun h1 h6 h31 hi =>
      ⟨exec_functionRead_absent ht h1 h6 h31 hi, fun f hf => ⟨fun h0 => ?_, fun h0 => ?_⟩⟩⟩⟩,
    fun s e rest ht => ⟨exec_verdictRead_refused ht, fun l v hl hv => ?_⟩,
    fun s e rest ht => ⟨exec_senseRead_refused ht, fun h1 h6 h31 hi =>
      ⟨exec_senseRead_absent ht h1 h6 h31 hi, fun f v hf hc hv => ⟨fun h0 => ?_, fun h0 => ?_⟩⟩⟩⟩
  · rw [exec_unitRead ht h1 h6 h, hn]
  · have he := exec_unitRead ht h1 h6 h
    rewrite [hu] at he
    dsimp only at he
    refine ⟨fun h0 => ?_, fun h0 => ?_, fun h0 => ?_, fun h0 => ?_, fun h0 => ?_, fun l h0 => ?_⟩
    all_goals rw [h0] at he
    · exact he
    · rewrite [he, ← unitFlags_eq]
      rfl
    · exact he
    · rewrite [he, UnitRecord.item_refusal]
      rfl
    · exact ⟨u.indexFlags, he, u.indexFlags_bit⟩
    · rewrite [UnitRecord.item_line] at he
      exact ⟨(u.loads.get l).word, he, fun _ => (u.loads.get l).word_fields⟩
  · exact exec_functionRead ht h1 h6 h31 hi hf (by rw [h0]; rfl)
  · exact exec_functionRead ht h1 h6 h31 hi hf (by rw [h0]; rfl)
  · subst hv
    refine ⟨fun h0 => ?_, fun h0 => ?_, fun h0 => ?_, fun h0 => ?_, fun h0 => ?_⟩
    · rewrite [← heldPresence_eq]
      exact exec_verdictRead ht hl (by rw [h0]; rfl)
    all_goals exact exec_verdictRead ht hl (by rw [h0]; rfl)
  · exact exec_senseRead ht h1 h6 h31 hi hf hc hv (by rw [h0]; rfl)
  · have hage : (if v.quality = .notYet then 0 else min 65535 (s.now - v.answeredAt)) = v.age s.now := rfl
    rewrite [hage]
    exact exec_senseRead ht h1 h6 h31 hi hf hc hv (by rw [h0]; rfl)

end Sys2Proof.Machine
end

section
/-! PROOFS. SETTING-READ and PART-STATUS-READ: O29. -/
namespace Sys2Proof.Machine

/-! ### SETTING-READ (R164) -/

/-- The list of 11.4 is dense: 00h to 04h and 10h to 38h. -/
theorem defaultWords_dense : defaultWords.map Prod.fst = List.range 5 ++ List.range' 0x10 41 := rfl

/-- The numbers that name a setting are those of the list of 11.4. -/
theorem settingOfNumber_none_of {n : Nat} (h : ∀ w ∈ defaultWords, w.1 ≠ n) : settingOfNumber n = none := by
  have hout : ¬ (n < 5 ∨ 0x10 ≤ n ∧ n < 0x10 + 41) := fun hin => by
    have hn : n ∈ defaultWords.map Prod.fst := by
      rw [defaultWords_dense, List.mem_append, List.mem_range, List.mem_range'_1]
      exact hin
    obtain ⟨w, hw, hwn⟩ := List.mem_map.mp hn
    exact h w hw hwn
  clear h
  unfold settingOfNumber
  rewrite [if_neg (by omega), if_neg (by omega), if_neg (by omega), if_neg (by omega), if_neg (by omega)]
  split
  case h_23 => rfl
  all_goals omega

theorem settingOfNumber_defaultWords : ∀ w ∈ defaultWords, (settingOfNumber w.1).isSome = true := by decide

theorem settingOfNumber_some_of {n : Nat} (h : ∃ w ∈ defaultWords, w.1 = n) : ∃ x, settingOfNumber n = some x := by
  obtain ⟨w, hw, rfl⟩ := h
  exact Option.isSome_iff_exists.mp (settingOfNumber_defaultWords w hw)

/-! ### The sets of PART-STATUS-READ (R173) -/

theorem oneBit {a b : Nat} (hb : b < 8) : (1#8 <<< a).getLsbD b = decide (a = b) := by
  rewrite [Bool.eq_iff_iff]
  simp [hb]
  omega

/-- A fold that joins one bit for each member of a list joins those bits alone. -/
theorem foldl_bits {α : Type} (number : α → Nat) (p : α → Bool) {b : Nat} (hb : b < 8) (xs : List α) (set : Byte) :
    (xs.foldl (fun set x => if p x then set ||| (1#8 <<< number x) else set) set).getLsbD b
      = (set.getLsbD b || xs.any fun x => p x && decide (number x = b)) := by
  induction xs generalizing set with
  | nil => simp
  | cons x xs ih =>
    rewrite [List.foldl_cons, ih, List.any_cons]
    cases p x with
    | true => simp only [if_true, BitVec.getLsbD_or, oneBit hb, Bool.true_and, Bool.or_assoc]
    | false => rfl

theorem lineSetOf_bit (p : Line → Bool) (l : Line) : (lineSetOf p).getLsbD (lineNumber l) = p l := by
  have hb : lineNumber l < 8 := by cases l <;> decide
  refine (foldl_bits lineNumber p hb allLines 0).trans ?_
  cases l <;> simp [allLines, lineNumber]

theorem slotSetOf_bit (p : Slot → Bool) (k : Slot) : (slotSetOf p).getLsbD (slotNumber k) = p k := by
  have hb : slotNumber k < 8 := by cases k <;> decide
  refine (foldl_bits slotNumber p hb allSlots 0).trans ?_
  cases k <;> simp [allSlots, slotNumber]

/-- A set of slots has nothing above bit 3. -/
theorem slotSetOf_above (p : Slot → Bool) (k : Slot) : (slotSetOf p).getLsbD (4 + slotNumber k) = false := by
  have hb : 4 + slotNumber k < 8 := by cases k <;> decide
  refine (foldl_bits slotNumber p hb allSlots 0).trans ?_
  cases k <;> simp [allSlots, slotNumber]

/-- Two sets of slots in the halves of a byte. -/
theorem slotSets_bits (f g : Slot → Bool) (k : Slot) :
    (slotSetOf f ||| (slotSetOf g <<< 4)).getLsbD (slotNumber k) = f k
      ∧ (slotSetOf f ||| (slotSetOf g <<< 4)).getLsbD (4 + slotNumber k) = g k := by
  have hk : slotNumber k < 4 := by cases k <;> decide
  constructor
  · rewrite [BitVec.getLsbD_or, BitVec.getLsbD_shiftLeft, slotSetOf_bit]
    simp [hk]
  · rewrite [BitVec.getLsbD_or, BitVec.getLsbD_shiftLeft, slotSetOf_above, Nat.add_sub_cancel_left, slotSetOf_bit]
    simp
    omega

theorem presenceCode_le (p : Presence) : presenceCode p ≤ 2 := by cases p <;> decide

/-- Two bits for each line, line 0 lowest. -/
theorem presences_bits (p : Line → Presence) (l : Line) :
    ((byteOf (presenceCode (p .turnR) + 4 * presenceCode (p .reverse) + 16 * presenceCode (p .fog)
        + 64 * presenceCode (p .marker))
      ++ byteOf (presenceCode (p .tailL) + 4 * presenceCode (p .tailR) + 16 * presenceCode (p .stop)
        + 64 * presenceCode (p .turnL)) : BitVec 16).toNat / 4 ^ lineNumber l) % 4 = presenceCode (p l) := by
  have hle := fun l => presenceCode_le (p l)
  have hlt : ∀ d ∈ allLines.map fun l => presenceCode (p l), d < 4 := by
    intro d hd
    obtain ⟨l, -, rfl⟩ := List.mem_map.mp hd
    exact Nat.lt_succ_of_le ((hle l).trans (by decide))
  have hx : (byteOf (presenceCode (p .turnR) + 4 * presenceCode (p .reverse) + 16 * presenceCode (p .fog)
        + 64 * presenceCode (p .marker))
      ++ byteOf (presenceCode (p .tailL) + 4 * presenceCode (p .tailR) + 16 * presenceCode (p .stop)
        + 64 * presenceCode (p .turnL)) : BitVec 16).toNat = Nat.ofDigits 4 (allLines.map fun l => presenceCode (p l)) := by
    have hlow : ∀ {a b c d : Nat}, a ≤ 2 → b ≤ 2 → c ≤ 2 → d ≤ 2 →
        (byteOf (a + 4 * b + 16 * c + 64 * d)).toNat = a + 4 * b + 16 * c + 64 * d := by
      intro a b c d ha hb hc hd
      simp only [byteOf, BitVec.toNat_ofNat]
      omega
    rewrite [toNat_append_byte, hlow (hle _) (hle _) (hle _) (hle _), hlow (hle _) (hle _) (hle _) (hle _)]
    simp only [allLines, List.map_cons, List.map_nil, Nat.ofDigits_cons, Nat.ofDigits_nil]
    ring
  rewrite [hx, Nat.ofDigits_div_pow_eq_ofDigits_drop _ (by decide) _ hlt, Nat.ofDigits_mod_eq_head!]
  cases l <;> exact Nat.mod_eq_of_lt (Nat.lt_succ_of_le ((hle _).trans (by decide)))

/-! ### PART-STATUS-READ (R173) -/

section
variable {s : State} {e : IntakeEntry} {rest : List IntakeEntry}

/-- An item is answered with its data. -/
theorem exec_partStatusRead (ht : Takes s 0x24 e rest 1) {n : Nat} (hn : e.operand 2 = n) {data : List Byte}
    (hd : (s.taken rest).partStatus n = some data) :
    exec .partStatusRead s
      = .next (doneWith s e rest (byteAt data 0) (byteAt data 1) (byteAt data 2) (byteAt data 3)) := by
  dsimp only [exec, execPartStatusRead]
  rewrite [Takes.decided (code := codePartStatusRead) ht (by decide) (by decide), hn, hd]
  exact congrArg _ (s.taken_done e rest data)

theorem exec_partStatusRead_refused (ht : Takes s 0x24 e rest 1) (h : 10 < e.operand 2) :
    exec .partStatusRead s = .next (refusedWith s e rest .refusedRange) := by
  have hd : (s.taken rest).partStatus (e.operand 2) = none := by
    obtain ⟨k, hk⟩ := Nat.exists_eq_add_of_lt h
    rewrite [show e.operand 2 = k + 11 by omega]
    rfl
  dsimp only [exec, execPartStatusRead]
  rewrite [Takes.decided (code := codePartStatusRead) ht (by decide) (by decide), hd]
  exact congrArg _ (s.taken_refused e rest _)

theorem exec_partStatusRead_setup (ht : Takes s 0x24 e rest 1) (hn : e.operand 2 = 0) :
    exec .partStatusRead s = .next (doneWith s e rest (byteOf (resetCauseCode s.comb.resetCause))
      (byteOf (wakeCauseCode s.comb.wakeCause)) (byteOf s.setup.open_.toNat)
      (byteOf ((s.setup.holder.map slotNumber).getD 255))) := by
  rewrite [exec_partStatusRead ht hn rfl, State.taken_setup]
  cases s.setup.open_ <;> cases s.setup.holder <;> rfl

theorem flagByte_eq (b : Bool) : flagByte b = byteOf b.toNat := by cases b <;> rfl

theorem exec_partStatusRead_line (ht : Takes s 0x24 e rest 1) (hn : e.operand 2 = 2) :
    (s.line.tx = none → exec .partStatusRead s = .next (doneWith s e rest 0xFF 0xFF 0 0))
    ∧ (∀ t, s.line.tx = some t → exec .partStatusRead s = .next (doneWith s e rest (byteOf (callKindCode t.kind))
        (byteOf t.target) (byteOf (txPhaseCode t.phase)) (byteOf t.attempts))) := by
  have he := exec_partStatusRead ht hn rfl
  rewrite [State.taken_line] at he
  exact ⟨fun h => by rw [he, h]; rfl, fun t h => by rw [he, h]; rfl⟩

theorem exec_partStatusRead_walk (ht : Takes s 0x24 e rest 1) (hn : e.operand 2 = 3) :
    (s.walker.offered = none → exec .partStatusRead s = .next (doneWith s e rest (byteOf s.walker.active.toNat) 0xFF 0xFF
        s.walker.lampReports))
    ∧ (∀ step, s.walker.offered = some step → exec .partStatusRead s = .next (doneWith s e rest
        (byteOf s.walker.active.toNat) (byteOf (callKindCode (Originator.bringUp step).transaction.kind))
        (byteOf (Originator.bringUp step).transaction.target) s.walker.lampReports)) := by
  have he := exec_partStatusRead ht hn rfl
  rewrite [State.taken_walker] at he
  rewrite [← flagByte_eq]
  refine ⟨fun h => by rw [he, h]; rfl, fun step h => ?_⟩
  rewrite [he, h]
  cases step <;> rfl

end

theorem exec_partStatusRead_switches {s : State} {e : IntakeEntry} {rest : List IntakeEntry} (ht : Takes s 0x24 e rest 1)
    (hn : e.operand 2 = 8) : ∃ (switches : Byte) (low high : Byte),
      exec .partStatusRead s = .next (doneWith s e rest switches low high 0)
      ∧ ∀ l, switches.getLsbD (lineNumber l) = (s.lamps.get l).on
          ∧ ((high ++ low).toNat / 4 ^ lineNumber l) % 4 = presenceCode (s.lamps.get l).verdict.presence := by
  have hbits := presences_bits fun l => (s.lamps.get l).verdict.presence
  have he := exec_partStatusRead ht hn rfl
  rewrite [State.taken_lamps] at he
  generalize hlow : byteOf (presenceCode (s.lamps.get .tailL).verdict.presence
    + 4 * presenceCode (s.lamps.get .tailR).verdict.presence + 16 * presenceCode (s.lamps.get .stop).verdict.presence
    + 64 * presenceCode (s.lamps.get .turnL).verdict.presence) = low at *
  generalize hhigh : byteOf (presenceCode (s.lamps.get .turnR).verdict.presence
    + 4 * presenceCode (s.lamps.get .reverse).verdict.presence + 16 * presenceCode (s.lamps.get .fog).verdict.presence
    + 64 * presenceCode (s.lamps.get .marker).verdict.presence) = high at *
  exact ⟨_, low, high, he, fun l => ⟨lineSetOf_bit (fun l => (s.lamps.get l).on) l, hbits l⟩⟩

/-- Settles O29: each number and each item by itself. -/
theorem settingAndPartStatusReadsAnswer : Obligations.SettingAndPartStatusReadsAnswer := by
  refine ⟨fun s e rest ht => ?_, fun s e rest ht => ?_⟩
  · have he := Takes.decided (code := codeSettingRead) ht (by decide) (by decide) fun e s =>
      match settingOfNumber (e.operand 2) with
      | none => s.answer e .refusedRange
      | some n => s.answer e .done (bytesOfWord32 (s.settings.get n))
    refine ⟨fun h => ?_, fun n hn => ?_, settingOfNumber_some_of⟩
    · have hn : settingOfNumber (e.operand 2) = none := settingOfNumber_none_of h
      rewrite [hn] at he
      exact he.trans (congrArg _ (s.taken_refused e rest _))
    · rewrite [hn] at he
      exact he.trans (congrArg _ (s.taken_done e rest _))
  · refine ⟨exec_partStatusRead_refused ht, exec_partStatusRead_setup ht, fun h => ?_, exec_partStatusRead_line ht,
      exec_partStatusRead_walk ht, fun h => ?_, fun h => ?_, fun h => ?_, fun h => ?_, fun h => ?_, fun h => ?_, fun h => ?_⟩
    · simp only [← flagByte_eq]
      have he := exec_partStatusRead ht h rfl
      exact he
    · have he := exec_partStatusRead ht h rfl
      exact he
    · have he := exec_partStatusRead ht h rfl
      exact he
    · have he := exec_partStatusRead ht h rfl
      exact he
    · exact ⟨_, exec_partStatusRead ht h rfl, fun k => slotSets_bits _ _ k⟩
    · exact exec_partStatusRead_switches ht h
    · have he := exec_partStatusRead ht h rfl
      exact he
    · have he := exec_partStatusRead ht h rfl
      exact he

end Sys2Proof.Machine
end

section
/-! PROOFS. Notices, transmission, the FULL-RESET request, the setup window and NOTICE-ROUTE: O49 to O51. -/
namespace Sys2Proof.Machine

@[simp] theorem State.taken_hasRight (s : State) (rest : List IntakeEntry) (k : Slot) (r : Right) :
    (s.taken rest).hasRight k r = s.hasRight k r := rfl

/-- The clock alone moves. -/
theorem State.keeps_reach (s : State) (n : Nat) : Keeps [.comb, .sense, .line, .walker, .units, .cache, .lamps, .flash, .claims,
    .slots, .settings, .setup, .portIn, .pending] s (s.reach n) :=
  keeps_cons (comb_same rfl) (keeps_cons (p := .sense) rfl (keeps_cons (p := .line) rfl (keeps_cons (p := .walker) rfl
    (keeps_cons (p := .units) rfl (keeps_cons (p := .cache) rfl (keeps_cons (p := .lamps) rfl (keeps_cons (p := .flash) rfl
    (keeps_cons (p := .claims) rfl (keeps_cons (slots_same rfl) (keeps_cons (p := .settings) rfl (keeps_cons (p := .setup) rfl
    (keeps_cons (portIn_same rfl) (keeps_cons (p := .pending) rfl (keeps_nil _ _))))))))))))))

/-! ### Notices (R1, R171) -/

/-- What a notice to every slot leaves of the rest of the part. -/
theorem State.offerAll_keeps (s : State) (kind : NoticeKind) (content : List Byte) :
    Keeps [.now, .comb, .sense, .line, .walker, .units, .cache, .lamps, .flash, .claims, .slots, .settings, .setup, .portIn,
      .pending] s (s.offerAll kind content) :=
  keeps_cons (s.offerAll_now kind content) (keeps_cons (comb_same (s.offerAll_comb kind content))
    (keeps_cons (s.offerAll_sense kind content) (keeps_cons (s.offerAll_line kind content)
    (keeps_cons (s.offerAll_walker kind content) (keeps_cons (s.offerAll_units kind content)
    (keeps_cons (s.offerAll_cache kind content) (keeps_cons (s.offerAll_lamps kind content)
    (keeps_cons (s.offerAll_flash kind content) (keeps_cons (s.offerAll_claims kind content)
    (keeps_cons (slots_same (s.offerAll_inlets kind content)) (keeps_cons (s.offerAll_settings kind content)
    (keeps_cons (s.offerAll_setup kind content) (keeps_cons (portIn_same (s.offerAll_inlets kind content))
    (keeps_cons (s.offerAll_pending kind content) (keeps_nil _ _)))))))))))))))

theorem State.offerNotice_none {s : State} {kind : NoticeKind} {k : Slot} (content : List Byte)
    (h : s.tag k = 0xFF ∨ (s.settings.noticeRouting.get k).getLsbD (noticeKindCode kind - 1) = false) :
    s.offerNotice kind k content = s := by
  rw [State.offerNotice, (s.noticeFor_false kind k).mpr h, if_neg (by decide)]

theorem State.noticeFor_true {s : State} {kind : NoticeKind} {k : Slot} (ht : s.tag k ≠ 0xFF)
    (hr : (s.settings.noticeRouting.get k).getLsbD (noticeKindCode kind - 1) = true) : s.noticeFor kind k = true := by
  rewrite [← Bool.not_eq_false, s.noticeFor_false kind k, hr]
  exact fun h => h.elim ht (by decide)

/-- Settles O50: the two tests of an offered notice. -/
theorem noticeQueuedOrDropped : Obligations.NoticeQueuedOrDropped := by
  refine ⟨fun s kind k content => ⟨State.offerNotice_none content, fun ht hr => ?_⟩, fun s => ⟨?_, ?_, ?_⟩⟩
  · have hf := State.noticeFor_true ht hr
    refine ⟨fun hd hroom hlen => ?_, fun hno => ?_⟩
    · rewrite [State.offerNotice, if_pos hf, if_pos (s.noticeRoom_true.mpr ⟨hd, hroom⟩), ← fitBytes_fill 7 content hlen,
        ← noticeKind_missed]
      rfl
    · have hroom : ¬ s.noticeRoom = true := by
        rewrite [s.noticeRoom_true]
        exact fun h => hno.elim (fun hd => hd h.1) (fun hl => Nat.not_lt.mpr hl h.2)
      rewrite [State.offerNotice, if_pos hf, if_neg hroom]
      rfl
  · rewrite [← combFlags_eq]
    exact s.offerAll_outbox .combination _ (Nat.le_of_ble_eq_true rfl)
  · exact counters_of_tallies (s.offerAll_tallies .combination _)
  · exact s.offerAll_keeps .combination _

/-! ### Transmission and bus-off (R162, R170, R172) -/

/-- The Report Queue without its head frame. -/
def State.transmitted (s : State) (f : Frame) (rest : List Frame) : State :=
  { s with port := { s.port with
      report := rest, canOut := some f
      fullReset := s.port.fullReset.map fun w => { w with ahead := w.ahead - 1 } } }

theorem exec_frameTransmitted {s : State} {f : Frame} {rest : List Frame} (hr : s.comb.heldInReset = false)
    (hf : s.port.report = f :: rest) (hb : s.port.busOff = false) :
    exec .frameTransmitted s = .next (s.transmitted f rest).serveDeferred := by
  dsimp only [exec, execFrameTransmitted]
  rewrite [powered_running hr, if_neg (by simp [hb]), hf]
  rfl

theorem State.serveDeferred_none {s : State} (h : s.port.deferred = []) : s.serveDeferred = s := by
  rw [State.serveDeferred, h]

theorem State.serveDeferred_some {s : State} {r : Response} {more : List Response} (h : s.port.deferred = r :: more)
    (hroom : s.port.report.length < 24) : s.serveDeferred = { s with
      port := { s.port with
        report := s.port.report ++ [frameTo s r.slot r.code r.sequence r.status r.clamped (byteAt r.data 0) (byteAt r.data 1)
          (byteAt r.data 2) (byteAt r.data 3)]
        deferred := more }
      slots := s.slots.set r.slot { s.slots.get r.slot with missed := false } } := by
  have hfree : 0 < s.freeFrames := Nat.sub_pos_of_lt hroom
  have hq := State.queueResponse_eq { s with port := { s.port with deferred := more } } r.slot r.code r.sequence r.status
    r.clamped r.data _ _ _ _ (fitBytes_four r.data)
  rewrite [State.serveDeferred, h]
  dsimp only
  rewrite [if_pos hfree]
  exact hq

/-- Settles O51: the branches of the three commands. -/
theorem portTransmitsAndWaits : Obligations.PortTransmitsAndWaits := by
  refine ⟨fun s f frames hr hf => ⟨fun hb => ?_, fun hb hd => ?_, fun r more hb hd _ hroom => ?_⟩,
    fun s hr => ⟨fun hb => ?_, fun hb => ?_, ?_⟩, fun s e rest ht => ⟨fun h => ?_, fun h => ?_⟩⟩
  · dsimp only [exec, execFrameTransmitted]
    rw [powered_running hr, if_pos hb]
  · rewrite [exec_frameTransmitted hr hf hb, State.serveDeferred_none (s := s.transmitted f frames) hd]
    rfl
  · rewrite [exec_frameTransmitted hr hf hb, State.serveDeferred_some (s := s.transmitted f frames) hd hroom]
    rfl
  · dsimp only [exec, execBusOffEntry]
    rewrite [powered_running hr, if_neg (by simp [hb])]
    rfl
  · dsimp only [exec, execBusOffEntry]
    rw [powered_running hr, if_pos hb]
  · dsimp only [exec, execBusOffExit]
    rw [powered_running hr]
  · dsimp only [exec, execFullReset]
    rw [Takes.decided (code := codeFullReset) ht (by decide) (by decide), State.taken_hasRight, if_neg (by rw [h]; decide)]
    exact congrArg _ (s.taken_refused e rest _)
  · refine ⟨_, ?_, rfl⟩
    dsimp only [exec, execFullReset]
    rewrite [Takes.decided (code := codeFullReset) ht (by decide) (by decide), State.taken_hasRight, if_pos h]
    rewrite [State.taken_done]
    have hlen : (doneWith s e rest 0 0 0 0).port.report.length = s.port.report.length + 1 := by
      simp [doneWith, answered]
    rewrite [← hlen]
    rfl

/-! ### The setup window (R165, R169) -/

theorem State.closeWindow_outbox (s : State) (cause : SetupCause) :
    (s.closeWindow cause).outbox = s.outbox.offerAll s .setup [byteOf (setupCauseCode cause)] :=
  (State.offerAll_outbox _ .setup _ (Nat.le_of_ble_eq_true rfl)).trans (Outbox.offerAll_settings rfl _ _ _)

theorem State.closeWindow_setup (s : State) (cause : SetupCause) :
    (s.closeWindow cause).setup = { open_ := false, holder := none, deadlineSince := none } := State.offerAll_setup _ _ _

theorem State.closeWindow_counters (s : State) (cause : SetupCause) :
    (s.closeWindow cause).counters = { s.counters with noticesDropped := (s.closeWindow cause).counters.noticesDropped } :=
  counters_of_tallies (State.offerAll_tallies _ _ _)

theorem State.closeWindow_keeps (s : State) (cause : SetupCause) :
    Keeps [.now, .comb, .sense, .line, .walker, .units, .cache, .lamps, .flash, .claims, .slots, .settings, .portIn, .pending] s
      (s.closeWindow cause) := by
  refine Keeps.trans (t := { s with setup := { open_ := false, holder := none, deadlineSince := none } }) ?_
    ((State.offerAll_keeps _ .setup _).sub (by decide))
  refine Keeps.sub (keeps_cons (p := .now) rfl (keeps_cons (p := .comb) rfl (keeps_cons (p := .sense) rfl
    (keeps_cons (p := .line) rfl (keeps_cons (p := .walker) rfl (keeps_cons (p := .units) rfl (keeps_cons (p := .cache) rfl
    (keeps_cons (p := .lamps) rfl (keeps_cons (p := .flash) rfl (keeps_cons (p := .claims) rfl
    (keeps_cons (p := .settings) rfl (keeps_cons (p := .pending) rfl (keeps_cons (slots_same rfl)
    (keeps_cons (portIn_same rfl) (keeps_nil _ _))))))))))))))) ?_
  decide

section
variable {s : State} {e : IntakeEntry} {rest : List IntakeEntry}

theorem exec_setupClose_closes (ht : Takes s 0x63 e rest 1) (h : WindowLets s e.slot) :
    exec .setupClose s = .next ((doneWith s e rest 0 0 0 0).closeWindow .requested) := by
  obtain ⟨ho, hh⟩ := h
  have hdone : (s.taken rest).answer e .done = doneWith s e rest 0 0 0 0 := s.taken_done e rest []
  dsimp only [exec, execSetupClose]
  rewrite [Takes.decided (code := codeSetupClose) ht (by decide) (by decide), State.taken_setup, ho, hdone]
  obtain hn | hn := hh
  · rewrite [hn]
    rfl
  · rewrite [hn]
    exact congrArg _ (if_pos rfl)

/-- A word of one slot's routing, answered with its low byte. -/
theorem exec_noticeRoute_done (ht : Takes s 0x64 e rest 1) (h : (byteAt e.data 2).getLsbD 7 = false) :
    exec .noticeRoute s = .next { doneWith s e rest (byteAt e.data 2) 0 0 0 with
      settings := s.settings.set (.noticeRouting e.slot) ((byteAt e.data 2).setWidth 32) } := by
  have hd := State.taken_done { s with settings := s.settings.set (.noticeRouting e.slot) ((byteAt e.data 2).setWidth 32) }
    e rest [byteAt e.data 2]
  dsimp only [exec, execNoticeRoute]
  rw [Takes.decided (code := codeNoticeRoute) ht (by decide) (by decide), if_neg (by rw [h]; decide)]
  exact congrArg _ hd

end

/-- Settles O49: the window's checks in their order; the notice follows the DONE. -/
theorem setupWindowClosesAndNoticesRoute : Obligations.SetupWindowClosesAndNoticesRoute := by
  refine ⟨fun s e rest ht => ⟨fun ho => ?_, fun h ho hh hne => ?_, fun hw => ?_⟩, fun s since hr hd => ?_,
    fun s e rest ht => ⟨fun h => ?_, exec_noticeRoute_done ht⟩⟩
  · dsimp only [exec, execSetupClose]
    rewrite [Takes.decided (code := codeSetupClose) ht (by decide) (by decide), State.taken_setup, ho]
    exact congrArg _ (s.taken_refused e rest _)
  · dsimp only [exec, execSetupClose]
    rewrite [Takes.decided (code := codeSetupClose) ht (by decide) (by decide), State.taken_setup, ho, hh]
    refine congrArg _ ((if_neg hne).trans ?_)
    exact State.answer_taken s e rest .held false _ _ _ _ _ rfl
  · exact ⟨_, exec_setupClose_closes ht hw, State.closeWindow_setup _ _, State.closeWindow_outbox _ _,
      State.closeWindow_counters _ _, State.closeWindow_keeps _ _⟩
  · refine ⟨(s.reach (since + 5000)).closeWindow .deadline, ?_, State.offerAll_now _ _ _, State.closeWindow_setup _ _,
      State.closeWindow_outbox _ _, State.closeWindow_counters _ _, ?_⟩
    · dsimp only [exec, execSetupDeadlineExpiry]
      rewrite [powered_running hr, hd]
      rfl
    · exact Keeps.trans ((s.keeps_reach _).sub (by decide)) (((s.reach (since + 5000)).closeWindow_keeps _).sub (by decide))
  · dsimp only [exec, execNoticeRoute]
    rewrite [Takes.decided (code := codeNoticeRoute) ht (by decide) (by decide), if_pos h]
    exact congrArg _ (s.taken_refused e rest _)

end Sys2Proof.Machine
end

section
/-! PROOFS. Request frames and unit access: O44, O45. -/
namespace Sys2Proof.Machine

/-! ### Request frames (R156, R157) -/

theorem State.hearFrame_ignored {s : State} {f : BusFrame} (h : s.port.busOff = true ∨ f.extended = false ∨ f.remote = true
    ∨ identBlock f.ident ≠ s.block ∨ (s.comb.state ≠ .parked ∧ identKind f.ident ≠ 0x01)) : s.hearFrame f = s := by
  unfold State.hearFrame
  by_cases hb : (s.port.busOff || !s.addressed f) = true
  · rw [if_pos hb]
  simp only [Bool.or_eq_true, Bool.not_eq_true', State.addressed, Bool.and_eq_false_iff, Bool.not_eq_false', beq_eq_false_iff_ne,
    not_or, ne_eq, not_not] at hb
  obtain ⟨hbus, ⟨hext, hrem⟩, hblock⟩ := hb
  obtain h | h | h | h | ⟨hp, hk⟩ := h
  · exact absurd h hbus
  · exact absurd h hext
  · exact absurd h hrem
  · exact absurd hblock h
  · rewrite [if_neg (by simp [hbus, State.addressed, hext, hrem, hblock]), if_neg hp]
    exact if_neg hk

/-- A request of the part's block outside PARKED. -/
theorem State.hearFrame_request {s : State} {f : BusFrame} (hb : s.port.busOff = false) (hx : f.extended = true)
    (hr : f.remote = false) (hid : identBlock f.ident = s.block) (hp : s.comb.state ≠ .parked)
    (hk : identKind f.ident = 0x01) : s.hearFrame f = s.acceptRequest f := by
  rewrite [State.hearFrame, hb, State.addressed_of hx hr hid, if_neg (by decide), if_neg hp]
  exact if_pos hk

theorem State.slotOfTag_none {s : State} {tag : Byte} (h : ∀ k, s.tag k = 0xFF ∨ s.tag k ≠ tag) : s.slotOfTag tag = none := by
  refine List.find?_eq_none.mpr fun k _ => ?_
  rewrite [Bool.and_eq_true, not_and]
  intro he ht
  obtain hk | hk := h k
  · rewrite [State.slotEmpty, hk] at he
    exact absurd he (by decide)
  · exact hk (beq_iff_eq.mp ht)

/-- A frame that is no LAMP-SET is offered to the intake. -/
theorem State.acceptRequest_offered {s : State} {f : BusFrame} {k : Slot} {e : IntakeEntry}
    (hs : s.slotOfTag (identTag f.ident) = some k) (he : e = ⟨k, f.bytes.take (min f.lengthCode 8)⟩)
    (hc : e.data.length < 8 ∨ e.code ≠ 0x10) : s.acceptRequest f = s.offerIntake e := by
  have hd : e = ⟨k, frameData f⟩ := he
  rewrite [State.acceptRequest, hs]
  dsimp only
  rewrite [hd] at hc ⊢
  exact if_neg fun h => hc.elim (fun hl => Nat.not_lt.mpr h.1 hl) fun hn => hn h.2

section
variable {s : State} {f : BusFrame}

theorem exec_requestFrame_ignored (hr : s.comb.heldInReset = false) (ht : TimersFollow s) (h : s.hearFrame f = s) :
    exec (.requestFrame f) s = .next s := event_still (f := fun s => s.hearFrame f) hr h ht rfl

theorem exec_requestFrame (hr : s.comb.heldInReset = false) (ht : TimersFollow s) {t : State} (h : s.hearFrame f = t)
    (hs : TimersSame s t) : exec (.requestFrame f) s = .next t :=
  event_still (f := fun s => s.hearFrame f) hr h (ht.of_same hs) (by rw [State.combSummary, State.combFlags, hs.comb]; rfl)

end

/-- A place in the queue and in the slot's quota. -/
theorem State.offerIntake_joins {s : State} {e : IntakeEntry} (hl : s.port.intake.length < 16)
    (hq : (s.port.intake.filter fun x => x.slot == e.slot).length < s.quota e.slot) :
    s.offerIntake e = { s with port := { s.port with intake := s.port.intake ++ [e] } } :=
  if_neg fun h => h.elim (Nat.not_le.mpr hl) (Nat.not_le.mpr hq)

theorem State.offerIntake_refuses {s : State} {e : IntakeEntry}
    (h : 16 ≤ s.port.intake.length ∨ s.quota e.slot ≤ (s.port.intake.filter fun x => x.slot == e.slot).length) :
    s.offerIntake e = s.refuseBusy e := if_pos h

theorem State.refuseBusy_answered {s : State} {e : IntakeEntry} (hd : s.port.deferred = []) (hl : s.port.report.length < 24) :
    s.refuseBusy e = { s with
      port := { s.port with report := s.port.report ++ [responseFrame s e .busy false 0 0 0 0] }
      slots := s.slots.set e.slot { s.slots.get e.slot with missed := false }
      counters := { s.counters with requestsBusy := bumped s.counters.requestsBusy } } := by
  have hroom : ((s.count .requestsBusy).port.deferred.isEmpty && decide (0 < (s.count .requestsBusy).freeFrames)) = true := by
    rewrite [Bool.and_eq_true, decide_eq_true_eq]
    exact ⟨List.isEmpty_iff.mpr hd, Nat.sub_pos_of_lt hl⟩
  exact (if_pos hroom).trans (State.queueResponse_eq (s.count .requestsBusy) e.slot e.code e.sequence .busy false [] 0 0 0 0 rfl)

theorem State.refuseBusy_missed {s : State} {e : IntakeEntry} (hl : 24 ≤ s.port.report.length) :
    s.refuseBusy e = { s with
      slots := s.slots.set e.slot { s.slots.get e.slot with missed := true }
      counters := { s.counters with requestsBusy := bumped s.counters.requestsBusy } } := by
  have hroom : ¬ ((s.count .requestsBusy).port.deferred.isEmpty && decide (0 < (s.count .requestsBusy).freeFrames)) = true := by
    rewrite [Bool.and_eq_true, decide_eq_true_eq]
    exact fun h => absurd h.2 (Nat.not_lt.mpr (Nat.le_of_eq (Nat.sub_eq_zero_of_le hl)))
  exact if_neg hroom

/-- A missed flag is nothing that a timer of chapter 1 reads. -/
theorem timersSame_missed (s : State) (k : Slot) (b : Bool) (port : Port) (counters : Counters) :
    TimersSame s { s with slots := s.slots.set k { s.slots.get k with missed := b }, port, counters } :=
  ⟨rfl, rfl, rfl, requestSets_of_inlets (t := s.setMissed k b) (State.setMissed_inlets s k b), rfl, rfl⟩

/-- Settles O44: the branches of `hearFrame` and `offerIntake`. -/
theorem requestFrameJoinsIntake : Obligations.RequestFrameJoinsIntake := by
  refine fun s f hr ht => ⟨fun h => exec_requestFrame_ignored hr ht (State.hearFrame_ignored h),
    fun hb hx hm hid hp hk => ⟨fun hn => ?_, fun k e hs he hc => ?_⟩⟩
  · refine exec_requestFrame hr ht ((State.hearFrame_request hb hx hm hid hp hk).trans ?_) ⟨rfl, rfl, rfl, rfl, rfl, rfl⟩
    rewrite [State.acceptRequest, State.slotOfTag_none hn]
    rfl
  · have ho := (State.hearFrame_request hb hx hm hid hp hk).trans (State.acceptRequest_offered hs he hc)
    have hslot : e.slot = k := by rw [he]
    subst hslot
    refine ⟨fun hl hq => ?_, fun h => ⟨fun hd hl => ?_, fun hl => ?_⟩⟩
    · exact exec_requestFrame hr ht (ho.trans (State.offerIntake_joins hl hq)) ⟨rfl, rfl, rfl, rfl, rfl, rfl⟩
    · exact exec_requestFrame hr ht (ho.trans ((State.offerIntake_refuses h).trans (State.refuseBusy_answered hd hl)))
        (timersSame_missed _ _ _ _ _)
    · exact exec_requestFrame hr ht (ho.trans ((State.offerIntake_refuses h).trans (State.refuseBusy_missed hl)))
        (timersSame_missed _ _ _ _ _)

/-! ### Unit access (R163, R38) -/

/-- The operand bytes of an entry that carries them, one by one. -/
theorem IntakeEntry.operands_succ {e : IntakeEntry} {i : Nat} (h : i < e.data.length) (n : Nat) :
    e.operands i (n + 1) = byteAt e.data i :: e.operands (i + 1) n := by
  rewrite [IntakeEntry.operands, List.drop_eq_getElem_cons h, List.take_succ_cons, byteAt, List.getD_eq_getElem e.data 0 h]
  rfl

theorem IntakeEntry.operands_zero (e : IntakeEntry) (i : Nat) : e.operands i 0 = [] := List.take_zero

theorem IntakeEntry.operands_four {e : IntakeEntry} {i : Nat} (h : i + 4 ≤ e.data.length) :
    e.operands i 4 = [byteAt e.data i, byteAt e.data (i + 1), byteAt e.data (i + 2), byteAt e.data (i + 3)] := by
  rw [IntakeEntry.operands_succ (by omega), IntakeEntry.operands_succ (by omega), IntakeEntry.operands_succ (by omega),
    IntakeEntry.operands_succ (by omega), IntakeEntry.operands_zero]

section
variable {s : State} {e : IntakeEntry} {rest : List IntakeEntry} {c : Instr} {kind : AccessKind}

/-- What both commands of a unit access do at their taking. -/
theorem exec_unitAccess (h : Takes s 0x50 e rest 1 ∧ c = .unitParamRead ∧ kind = .get
      ∨ Takes s 0x51 e rest 1 ∧ c = .unitParamWrite ∧ kind = .set
          (((byteAt e.data 4 ++ byteAt e.data 5) ++ byteAt e.data 6) ++ byteAt e.data 7)) :
    ∃ f, exec c s = event f s ∧ f s = (s.taken rest).requestAccess e kind ∧ s.comb.heldInReset = false := by
  obtain ⟨ht, rfl, rfl⟩ | ⟨ht, rfl, rfl⟩ := h
  · exact ⟨fun s => s.taking (isRequest codeUnitParamRead) fun e s => s.requestAccess e .get, rfl,
      ht.taking (by decide) (by decide) _, ht.running⟩
  · refine ⟨fun s => s.taking (isRequest codeUnitParamWrite) fun e s => s.requestAccess e (.set (word32Of (e.operands 4 4))),
      rfl, (ht.taking (by decide) (by decide) _).trans ?_, ht.running⟩
    rewrite [IntakeEntry.operands_four (i := 4) ht.whole, word32Of_four]
    rfl

theorem State.requestAccess_range (h : e.operand 2 < 1 ∨ 6 < e.operand 2) :
    s.requestAccess e kind = s.answer e .refusedRange := by
  refine if_pos ?_
  simp only [validPosition, Bool.not_eq_true', Bool.and_eq_false_iff, decide_eq_false_iff_not]
  omega

/-- The position is in its range: the next check. -/
theorem State.requestAccess_placed (h1 : 1 ≤ e.operand 2) (h6 : e.operand 2 ≤ 6) : s.requestAccess e kind =
    if !s.hasRight e.slot .unitAccess then s.answer e .refusedRights
    else if !s.accessibleAt (e.operand 2) then s.answer e .refusedState
    else if Config.accessPerSlot ≤ s.accessOutstanding e.slot then (s.count .requestsBusy).answer e .busy
    else State.lineWork { s with line := { s.line with access := s.line.access
      ++ [{ slot := e.slot, sequence := e.sequence, position := e.operand 2, parameter := byteAt e.data 3, kind }] } } := by
  refine if_neg ?_
  simp only [validPosition, Bool.not_eq_true', Bool.and_eq_false_iff, decide_eq_false_iff_not]
  omega

theorem State.accessibleAt_false {p : Nat} (h : ∀ u, s.unitAt p = some u → u.state ≠ .serving ∧ u.state ≠ .refused) :
    s.accessibleAt p = false := by
  unfold State.accessibleAt
  cases hu : s.unitAt p with
  | none => rfl
  | some u =>
    obtain ⟨h1, h2⟩ := h u hu
    simp [h1, h2]

theorem State.accessibleAt_true {p : Nat} {u : UnitRecord} (hu : s.unitAt p = some u)
    (h : u.state = .serving ∨ u.state = .refused) : s.accessibleAt p = true := by
  simp only [State.accessibleAt, hu]
  obtain h | h := h <;> rw [h] <;> rfl

end

/-- Settles O45: the checks in their order. -/
theorem unitAccessJoinsQueue : Obligations.UnitAccessJoinsQueue := by
  intro s e rest c kind h
  obtain ⟨f, hc, hf, hr⟩ := exec_unitAccess h
  rewrite [hc]
  refine ⟨fun ht => ⟨fun hp => ?_, fun h1 h6 => ⟨fun hn => ?_, fun hy => ⟨fun hu => ?_, fun u hu hst hb => ?_⟩⟩⟩,
    fun u h1 h6 hy hu hst hb => ?_⟩
  · exact event_answered hr ht (hf.trans ((State.requestAccess_range hp).trans (s.taken_refused e rest _)))
  · refine event_answered hr ht (hf.trans ((State.requestAccess_placed h1 h6).trans ?_))
    rewrite [State.taken_hasRight, hn]
    exact s.taken_refused e rest _
  · refine event_answered hr ht (hf.trans ((State.requestAccess_placed h1 h6).trans ?_))
    have hacc : (s.taken rest).accessibleAt (e.operand 2) = false := State.accessibleAt_false hu
    rewrite [State.taken_hasRight, hy, hacc]
    exact s.taken_refused e rest _
  · have hacc : (s.taken rest).accessibleAt (e.operand 2) = true := State.accessibleAt_true hu hst
    have hbusy := State.taken_refused (s.count .requestsBusy) e rest .busy
    refine event_still hr (hf.trans ((State.requestAccess_placed h1 h6).trans ?_)) ((ht.answered e rest
      [responseFrame s e .busy false 0 0 0 0]).of_same ⟨rfl, rfl, rfl, rfl, rfl, rfl⟩) rfl
    rewrite [State.taken_hasRight, hy, hacc, if_neg (by decide), if_neg (by decide)]
    exact (if_pos hb).trans hbusy
  · have hacc : (s.taken rest).accessibleAt (e.operand 2) = true := State.accessibleAt_true hu hst
    have he : f s = _ := hf.trans (State.requestAccess_placed h1 h6)
    rewrite [State.taken_hasRight, hy, hacc, if_neg (by decide), if_neg (by decide)] at he
    exact event_quiet hr (he.trans (if_neg (Nat.not_le.mpr hb)))
      (by rw [State.combSummary, State.combFlags, State.lineWork_comb]; rfl)

end Sys2Proof.Machine
end

section
/-! PROOFS. SETTING-WRITE: O46. -/
namespace Sys2Proof.Machine

/-! ### The decision of a write (R166, R168) -/

theorem ownWord_iff {k : Slot} {n : Setting} : ownWord k n = true ↔ n = .refreshWindow k ∨ n = .noticeRouting k := by
  cases n <;> simp [ownWord]

section
variable {s : State} {e : IntakeEntry} {n : Setting} {w : Word32}

theorem State.decideWrite_rights (h : settingClass n = .fixed ∨ ¬ MayWrite s e.slot n) :
    s.decideWrite e n w = s.answer e .refusedRights := by
  unfold State.decideWrite
  by_cases hf : settingClass n = .fixed
  · rw [if_pos hf]
  · have hm : (s.hasRight e.slot .settings || ownWord e.slot n) = false := by
      rewrite [Bool.eq_false_iff, ne_eq, Bool.or_eq_true, ownWord_iff]
      exact h.resolve_left hf
    rewrite [if_neg hf, hm]
    rfl

/-- The sender may write the word: the window's checks come next. -/
theorem State.decideWrite_may (hf : settingClass n ≠ .fixed) (hm : MayWrite s e.slot n) : s.decideWrite e n w =
    match s.setupRefusal e.slot n with
    | some (status, data) => s.answer e status data
    | none =>
      match s.checkWord e.slot n w with
      | .error status => s.answer e status
      | .ok stored => ((s.writeWord n stored).takeHolder n e.slot).answer e .done (bytesOfWord32 stored) (stored != w) := by
  have hm' : (s.hasRight e.slot .settings || ownWord e.slot n) = true := by
    rewrite [Bool.or_eq_true, ownWord_iff]
    exact hm
  unfold State.decideWrite
  rewrite [if_neg hf, hm']
  rfl

theorem State.decideWrite_window (hf : settingClass n ≠ .fixed) (hm : MayWrite s e.slot n) {st : Status} {d : List Byte}
    (hr : s.setupRefusal e.slot n = some (st, d)) : s.decideWrite e n w = s.answer e st d := by
  rw [State.decideWrite_may hf hm, hr]

theorem State.decideWrite_refused (hf : settingClass n ≠ .fixed) (hm : MayWrite s e.slot n)
    (hr : s.setupRefusal e.slot n = none) {st : Status} (hc : s.checkWord e.slot n w = .error st) :
    s.decideWrite e n w = s.answer e st := by
  rewrite [State.decideWrite_may hf hm, hr]
  dsimp only
  rw [hc]

theorem State.decideWrite_stored (hf : settingClass n ≠ .fixed) (hm : MayWrite s e.slot n)
    (hr : s.setupRefusal e.slot n = none) {v : Word32} (hc : s.checkWord e.slot n w = .ok v) : s.decideWrite e n w
      = ((s.writeWord n v).takeHolder n e.slot).answer e .done (bytesOfWord32 v) (v != w) := by
  rewrite [State.decideWrite_may hf hm, hr]
  dsimp only
  rw [hc]

/-! ### The setup window's checks (R166) -/

theorem State.setupRefusal_runtime {k : Slot} (h : settingClass n ≠ .setup) : s.setupRefusal k n = none := if_pos h

theorem State.setupRefusal_closed {k : Slot} (h : settingClass n = .setup) (ho : s.setup.open_ = false) :
    s.setupRefusal k n = some (.setupClosed, []) := by
  rewrite [State.setupRefusal, if_neg (not_not.mpr h), ho]
  rfl

theorem State.setupRefusal_held {k h : Slot} (hc : settingClass n = .setup) (ho : s.setup.open_ = true)
    (hh : s.setup.holder = some h) (hne : h ≠ k) : s.setupRefusal k n = some (.held, [byteOf (slotNumber h)]) := by
  rewrite [State.setupRefusal, if_neg (not_not.mpr hc), ho, hh]
  exact if_neg hne

theorem State.setupRefusal_lets {k : Slot} (h : WindowLets s k) : s.setupRefusal k n = none := by
  obtain ⟨ho, hh⟩ := h
  rewrite [State.setupRefusal, ho]
  obtain hh | hh := hh <;> rw [hh] <;> simp

/-! ### The word's check (R168) -/

theorem State.checkWord_fields {k : Slot} (h : w &&& ~~~(settingFieldBits n) ≠ 0) :
    s.checkWord k n w = .error .refusedRange := if_pos h

/-- A word that is neither a slot's identity nor a quota is stored clamped. -/
theorem State.checkWord_ok {k : Slot} (h : w &&& ~~~(settingFieldBits n) = 0) (hs : ∀ j, n ≠ .slotWord j)
    (hq : ∀ j, n ≠ .intakeQuota j) : s.checkWord k n w = .ok (clampedWord n w) := by
  unfold State.checkWord
  rewrite [if_neg (not_not.mpr h)]
  split
  · exact absurd rfl (hs _)
  · exact absurd rfl (hq _)
  · rfl

theorem fields_ranged {lo hi : Nat} (h : settingRange n = some (lo, hi)) : w &&& ~~~(settingFieldBits n) = 0 := by
  rw [settingFieldBits_ranged (by rw [h]; exact fun h => by cases h)]
  exact BitVec.and_zero

theorem clampedWord_number {lo hi : Nat} (h : settingRange n = some (lo, hi)) (hr : ∀ k, n ≠ .refreshWindow k) :
    clampedWord n w = BitVec.ofNat 32 (max lo (min hi w.toNat)) := by
  unfold clampedWord
  split
  · exact absurd rfl (hr _)
  · next lo' hi' _ e =>
    obtain ⟨rfl, rfl⟩ : lo' = lo ∧ hi' = hi := by simpa [h] using e.symm
    rfl
  · next e => simp [h] at e

theorem State.checkWord_quota {k j : Slot} : s.checkWord k (.intakeQuota j) w =
    if max 1 (min 16 w.toNat) < (s.port.intake.filter fun e => e.slot == j).length then .error .refusedState
    else .ok (BitVec.ofNat 32 (max 1 (min 16 w.toNat))) := by
  have hv : (clampedWord (.intakeQuota j) w).toNat = max 1 (min 16 w.toNat) := by
    rewrite [clampedWord_number (lo := 1) (hi := 16) rfl (fun _ h => by cases h), BitVec.toNat_ofNat]
    omega
  have hc : clampedWord (.intakeQuota j) w = BitVec.ofNat 32 (max 1 (min 16 w.toNat)) :=
    clampedWord_number rfl fun _ h => by cases h
  unfold State.checkWord
  rewrite [if_neg (not_not.mpr (fields_ranged (n := .intakeQuota j) (lo := 1) (hi := 16) rfl))]
  dsimp only
  rw [hv, hc]

end

/-! ### The word stored -/

theorem State.writeWord_plain (s : State) {n : Setting} (hs : ∀ k, n ≠ .slotWord k) (he : n ≠ .senseEnables) (v : Word32) :
    s.writeWord n v = s.storeWord n v := by
  unfold State.writeWord
  split
  · exact absurd rfl (hs _)
  · exact absurd rfl he
  · rfl

theorem responseFrame_settings {s t : State} {e : IntakeEntry} (hb : t.block = s.block) (ht : t.tag e.slot = s.tag e.slot)
    (hm : t.missed e.slot = s.missed e.slot) (st : Status) (cl : Bool) (d0 d1 d2 d3 : Byte) :
    responseFrame t e st cl d0 d1 d2 d3 = responseFrame s e st cl d0 d1 d2 d3 := by
  unfold responseFrame frameTo
  rw [hb, ht, hm]

/-- The DONE of a word that changes neither the block nor a tag (R166). -/
theorem State.taken_wordDone (s : State) (e : IntakeEntry) (rest : List IntakeEntry) {n : Setting} (hs : ∀ k, n ≠ .slotWord k)
    (hb : n ≠ .identifierBlock) (w v : Word32) :
    ((s.taken rest).storeWord n v).answer e .done (bytesOfWord32 v) (v != w) = settingDone s e rest n w v := by
  have h := State.answer_taken (s.storeWord n v) e rest .done (v != w) (bytesOfWord32 v) _ _ _ _ rfl
  have hblock : (s.storeWord n v).block = s.block :=
    congrArg (fun x : Word32 => x.extractLsb' 0 13) (Settings.get_set_ne s.settings v (n := n) (m := .identifierBlock) hb.symm)
  have htag : (s.storeWord n v).tag e.slot = s.tag e.slot :=
    congrArg wordTag (Settings.get_set_ne s.settings v (n := n) (m := .slotWord e.slot) (hs e.slot).symm)
  rewrite [responseFrame_settings hblock htag rfl] at h
  have hne : (v != w) = decide (v ≠ w) := by rw [decide_not]; rfl
  unfold settingDone
  rewrite [← hne]
  exact h

/-! ### SETTING-WRITE as an event -/

section
variable {s : State} {e : IntakeEntry} {rest : List IntakeEntry} {w : Word32} {n : Setting}

theorem IntakeEntry.operands_word {e : IntakeEntry} (h : 8 ≤ e.data.length)
    (hw : w = ((byteAt e.data 3 ++ byteAt e.data 4) ++ byteAt e.data 5) ++ byteAt e.data 6) : word32Of (e.operands 3 4) = w := by
  rw [IntakeEntry.operands_four (by omega), word32Of_four, hw]

/-- A SETTING-WRITE of a listed number is decided in the state of its taking. -/
theorem exec_settingWrite (ht : Takes s 0x61 e rest 1)
    (hw : w = ((byteAt e.data 3 ++ byteAt e.data 4) ++ byteAt e.data 5) ++ byteAt e.data 6)
    (hn : settingOfNumber (e.operand 2) = some n) :
    ∃ f, exec .settingWrite s = event f s ∧ f s = (s.taken rest).decideWrite e n w := by
  refine ⟨fun s => s.taking (isRequest codeSettingWrite) fun e s =>
    match settingOfNumber (e.operand 2) with
    | none => s.answer e .refusedRange
    | some n => s.decideWrite e n (word32Of (e.operands 3 4)), rfl, (ht.taking (by decide) (by decide) _).trans ?_⟩
  rewrite [hn, IntakeEntry.operands_word ht.whole hw]
  rfl

theorem exec_settingWrite_unlisted (ht : Takes s 0x61 e rest 1) (hf : TimersFollow s)
    (hn : settingOfNumber (e.operand 2) = none) : exec .settingWrite s = .next (refusedWith s e rest .refusedRange) := by
  refine event_answered (f := fun s => s.taking (isRequest codeSettingWrite) fun e s =>
    match settingOfNumber (e.operand 2) with
    | none => s.answer e .refusedRange
    | some n => s.decideWrite e n (word32Of (e.operands 3 4))) ht.running hf ((ht.taking (by decide) (by decide) _).trans ?_)
  rewrite [hn]
  exact s.taken_refused e rest _

/-- What the decision leaves, where it moves neither a timer nor a flag. -/
theorem exec_settingWrite_leaves (ht : Takes s 0x61 e rest 1) (hf : TimersFollow s)
    (hw : w = ((byteAt e.data 3 ++ byteAt e.data 4) ++ byteAt e.data 5) ++ byteAt e.data 6)
    (hn : settingOfNumber (e.operand 2) = some n) {t : State} (hd : (s.taken rest).decideWrite e n w = t)
    (hs : ∀ fs, TimersSame (answered s e rest fs) t) : exec .settingWrite s = .next t := by
  obtain ⟨f, he, hfs⟩ := exec_settingWrite ht hw hn
  rewrite [he]
  refine event_still ht.running (hfs.trans hd) ((hf.answered e rest []).of_same (hs [])) ?_
  rewrite [State.combSummary, State.combFlags, (hs []).comb]
  rfl

theorem timersSame_answered (s : State) (e : IntakeEntry) (rest : List IntakeEntry) (fs gs : List Frame) (settings : Settings)
    (setup : SetupWindow) : TimersSame (answered s e rest gs) { answered s e rest fs with settings, setup } :=
  ⟨rfl, rfl, rfl, rfl, rfl, rfl⟩

theorem exec_settingWrite_answers (ht : Takes s 0x61 e rest 1) (hf : TimersFollow s)
    (hw : w = ((byteAt e.data 3 ++ byteAt e.data 4) ++ byteAt e.data 5) ++ byteAt e.data 6)
    (hn : settingOfNumber (e.operand 2) = some n) {st : Status} {d : List Byte} {d0 d1 d2 d3 : Byte}
    (hb : fitBytes 4 d = [d0, d1, d2, d3]) (hd : (s.taken rest).decideWrite e n w = (s.taken rest).answer e st d) :
    exec .settingWrite s = .next (answered s e rest [responseFrame s e st false d0 d1 d2 d3]) :=
  exec_settingWrite_leaves ht hf hw hn (hd.trans (State.answer_taken s e rest st false d _ _ _ _ hb))
    fun _ => ⟨rfl, rfl, rfl, rfl, rfl, rfl⟩

/-- A single number that is no slot's word, in the setup window or out of it, is stored. -/
theorem State.taken_stored (hc : settingClass n ≠ .fixed) (hm : MayWrite s e.slot n) (hr : s.setupRefusal e.slot n = none)
    {v : Word32} (hv : (s.taken rest).checkWord e.slot n w = .ok v) (hs : ∀ k, n ≠ .slotWord k) (he : n ≠ .senseEnables)
    (hb : n ≠ .identifierBlock) : (s.taken rest).decideWrite e n w = { settingDone s e rest n w v with
      setup := ((s.taken rest).takeHolder n e.slot).setup } := by
  rewrite [State.decideWrite_stored (s := s.taken rest) hc hm hr hv, State.writeWord_plain _ hs he]
  have hd := s.taken_wordDone e rest hs hb w v
  unfold State.takeHolder
  split
  · exact congrArg (fun t : State => { t with setup := { s.setup with holder := some (s.setup.holder.getD e.slot) } }) hd
  · exact hd

theorem State.takeHolder_runtime {s : State} {k : Slot} (h : settingClass n = .runtime) : s.takeHolder n k = s :=
  if_neg (by rw [h]; decide)

theorem State.takeHolder_setup {s : State} {k : Slot} (h : settingClass n = .setup) (hw : WindowLets s k) :
    (s.takeHolder n k).setup = { s.setup with holder := some k } := by
  rewrite [State.takeHolder, if_pos h]
  obtain ⟨-, hh | hh⟩ := hw <;> rw [hh] <;> rfl

/-- A RUNTIME number that is no set is stored as its check gives it (R168). -/
theorem exec_settingWrite_runtime (ht : Takes s 0x61 e rest 1) (hf : TimersFollow s)
    (hw : w = ((byteAt e.data 3 ++ byteAt e.data 4) ++ byteAt e.data 5) ++ byteAt e.data 6)
    (hn : settingOfNumber (e.operand 2) = some n) (hc : settingClass n = .runtime) (he : n ≠ .senseEnables)
    (hm : MayWrite s e.slot n) {v : Word32} (hv : (s.taken rest).checkWord e.slot n w = .ok v) :
    exec .settingWrite s = .next (settingDone s e rest n w v) := by
  have hne : settingClass n ≠ .setup := by rw [hc]; decide
  have hd := State.taken_stored (s := s) (rest := rest) (by rw [hc]; decide) hm (State.setupRefusal_runtime hne) hv
    (fun k h => by rw [h] at hc; cases hc) he (fun h => by rw [h] at hc; cases hc)
  rewrite [State.takeHolder_runtime hc] at hd
  exact exec_settingWrite_leaves ht hf hw hn hd fun _ => timersSame_answered _ _ _ _ _ _ _

/-- The agreement counts of the lines whose sensing is off are nothing that a timer of chapter 1 reads (R100). -/
theorem State.clearAgreement_attached (s : State) (p : Line → Bool) : (s.clearAgreement p).attached = s.attached := by
  have h : ∀ l, ((s.clearAgreement p).lamps.get l).verdict = (s.lamps.get l).verdict := by
    intro l
    simp only [State.clearAgreement, PerLine.get_map]
    split <;> rfl
  simp only [State.attached, h]
  rfl

theorem TimersFollow.clearAgreement (h : TimersFollow s) (p : Line → Bool) : TimersFollow (s.clearAgreement p) := by
  have ha := s.clearAgreement_attached p
  refine ⟨?_, fun hw => ⟨ha.trans (h.waiting hw).1, (h.waiting hw).2⟩, h.park⟩
  have hd : (s.clearAgreement p).attachDiffers = s.attachDiffers := by
    simp only [State.attachDiffers, ha]
    rfl
  rewrite [hd]
  exact h.attach

/-- A SETUP number in the open window is stored, and its sender becomes the holder (R165). -/
theorem exec_settingWrite_setup (ht : Takes s 0x61 e rest 1) (hf : TimersFollow s)
    (hw : w = ((byteAt e.data 3 ++ byteAt e.data 4) ++ byteAt e.data 5) ++ byteAt e.data 6)
    (hn : settingOfNumber (e.operand 2) = some n) (hc : settingClass n = .setup) (hs : ∀ k, n ≠ .slotWord k)
    (hb : n ≠ .identifierBlock) (hm : MayWrite s e.slot n) (hl : WindowLets s e.slot) {v : Word32}
    (hv : (s.taken rest).checkWord e.slot n w = .ok v) : exec .settingWrite s
      = .next { settingDone s e rest n w v with setup := { s.setup with holder := some e.slot } } := by
  have hd := State.taken_stored (s := s) (rest := rest) (by rw [hc]; decide) hm (State.setupRefusal_lets hl) hv
    hs (fun h => by rw [h] at hc; cases hc) hb
  rewrite [State.takeHolder_setup (s := s.taken rest) hc hl] at hd
  exact exec_settingWrite_leaves ht hf hw hn hd fun _ => timersSame_answered _ _ _ _ _ _ _

/-- The block is read when the DONE is queued, so it carries the new one (log entry 18). -/
theorem exec_settingWrite_block (ht : Takes s 0x61 e rest 1) (hf : TimersFollow s)
    (hw : w = ((byteAt e.data 3 ++ byteAt e.data 4) ++ byteAt e.data 5) ++ byteAt e.data 6)
    (hn : settingOfNumber (e.operand 2) = some .identifierBlock) (hm : MayWrite s e.slot .identifierBlock)
    (hl : WindowLets s e.slot) (hz : w &&& 0xFFFFE000 = 0) : exec .settingWrite s = .next { answered s e rest
        [{ responseFrame s e .done false (w.extractLsb' 24 8) (w.extractLsb' 16 8) (w.extractLsb' 8 8) (w.extractLsb' 0 8) with
          ident := identOf (w.extractLsb' 0 13) 0x02 (s.tag e.slot) }] with
      settings := s.settings.set .identifierBlock w, setup := { s.setup with holder := some e.slot } } := by
  have hv : (s.taken rest).checkWord e.slot .identifierBlock w = .ok w :=
    State.checkWord_ok hz (fun _ h => by cases h) fun _ h => by cases h
  have hd := State.decideWrite_stored (s := s.taken rest) (e := e) (by decide) hm (State.setupRefusal_lets hl) hv
  have ha := State.answer_taken { s with
    settings := s.settings.set .identifierBlock w, setup := { s.setup with holder := some (s.setup.holder.getD e.slot) } }
    e rest .done false (bytesOfWord32 w) _ _ _ _ rfl
  have hh : s.setup.holder.getD e.slot = e.slot := by
    obtain ⟨-, hh | hh⟩ := hl <;> rw [hh] <;> rfl
  rewrite [bne_self_eq_false] at hd
  rewrite [hh] at ha
  refine exec_settingWrite_leaves ht hf hw hn (hd.trans ?_) fun _ => timersSame_answered _ _ _ _ _ _ _
  refine Eq.trans ?_ ha
  have hstate : ((s.taken rest).writeWord .identifierBlock w).takeHolder .identifierBlock e.slot
      = State.taken { s with settings := s.settings.set .identifierBlock w
                             setup := { s.setup with holder := some (s.setup.holder.getD e.slot) } } rest := rfl
  rewrite [hstate, hh]
  rfl

/-- The set of enabled lines: a line whose sensing goes off starts its agreement count anew (R100). -/
theorem exec_settingWrite_enables (ht : Takes s 0x61 e rest 1) (hf : TimersFollow s)
    (hw : w = ((byteAt e.data 3 ++ byteAt e.data 4) ++ byteAt e.data 5) ++ byteAt e.data 6)
    (hn : settingOfNumber (e.operand 2) = some .senseEnables) (hm : MayWrite s e.slot .senseEnables)
    (hz : w &&& 0xFFFFFF00 = 0) : exec .settingWrite s
      = .next ((settingDone s e rest .senseEnables w w).clearAgreement fun l => !w.getLsbD (lineNumber l)) := by
  have hv : (s.taken rest).checkWord e.slot .senseEnables w = .ok w :=
    State.checkWord_ok hz (fun _ h => by cases h) fun _ h => by cases h
  have hd := State.decideWrite_stored (s := s.taken rest) (e := e) (by decide) hm (State.setupRefusal_runtime (by decide)) hv
  have ha := congrArg (fun t : State => t.clearAgreement fun l => !w.getLsbD (lineNumber l))
    (s.taken_wordDone e rest (n := .senseEnables) (fun _ h => by cases h) (by decide) w w)
  obtain ⟨f, he, hfs⟩ := exec_settingWrite ht hw hn
  rewrite [he]
  refine event_still ht.running (hfs.trans (hd.trans ?_))
    (((hf.answered e rest []).of_same (timersSame_answered s e rest _ [] _ s.setup)).clearAgreement _) rfl
  exact Eq.trans rfl ha

end

/-- Settles O46: the checks in their order, then the word by its kind. -/
theorem settingWriteDecided : Obligations.SettingWriteDecided := by
  refine fun s e rest w ht hf hw => ⟨exec_settingWrite_unlisted ht hf, fun n hn => ⟨fun h => ?_, fun hc hm =>
    ⟨fun hs ho => ?_, fun h hs ho hh hne => ?_, fun lo hi hs hr hk => ?_, fun k hk => ?_, fun k hk => ?_, fun k hk => ?_,
      fun hk => ?_, fun hk hl => ?_, fun hk hl => ?_⟩⟩⟩
  · exact exec_settingWrite_answers ht hf hw hn (d := []) rfl (State.decideWrite_rights (s := s.taken rest) h)
  · exact exec_settingWrite_answers ht hf hw hn (d := []) rfl
      (State.decideWrite_window (s := s.taken rest) hc hm (State.setupRefusal_closed (s := s.taken rest) hs ho))
  · exact exec_settingWrite_answers ht hf hw hn rfl
      (State.decideWrite_window (s := s.taken rest) hc hm (State.setupRefusal_held (s := s.taken rest) hs ho hh hne))
  · have hv := State.checkWord_ok (s := s.taken rest) (k := e.slot) (fields_ranged (w := w) hr)
      (fun j h => by rw [h] at hs; cases hs) fun j h => (hk j).2 h
    rewrite [clampedWord_number hr fun k => (hk k).1] at hv
    exact exec_settingWrite_runtime ht hf hw hn hs (fun h => by rw [h] at hr; cases hr) hm hv
  · subst hk
    exact exec_settingWrite_runtime ht hf hw hn rfl (fun h => by cases h) hm
      (State.checkWord_ok (fields_ranged rfl) (fun _ h => by cases h) fun _ h => by cases h)
  · subst hk
    have hq := State.checkWord_quota (s := s.taken rest) (k := e.slot) (j := k) (w := w)
    refine ⟨fun hlt => ?_, fun hle => ?_⟩
    · exact exec_settingWrite_answers ht hf hw hn (d := []) rfl (State.decideWrite_refused (s := s.taken rest) hc hm
        (State.setupRefusal_runtime (fun h => by cases h)) (hq.trans (if_pos hlt)))
    · exact exec_settingWrite_runtime ht hf hw hn rfl (fun h => by cases h) hm (hq.trans (if_neg (Nat.not_lt.mpr hle)))
  · subst hk
    have hbits : ~~~(settingFieldBits (.noticeRouting k)) = 0xFFFFFF80 := show ~~~(0x0000007F : Word32) = 0xFFFFFF80 by decide
    rewrite [← hbits]
    refine ⟨fun hz => ?_, fun hz => ?_⟩
    · exact exec_settingWrite_answers ht hf hw hn (d := []) rfl (State.decideWrite_refused (s := s.taken rest) hc hm
        (State.setupRefusal_runtime (fun h => by cases h)) (State.checkWord_fields hz))
    · exact exec_settingWrite_runtime ht hf hw hn rfl (fun h => by cases h) hm
        (State.checkWord_ok hz (fun _ h => by cases h) fun _ h => by cases h)
  · subst hk
    refine ⟨fun hz => ?_, fun hz => ⟨_, exec_settingWrite_enables ht hf hw hn hm hz, rfl, fun l => ?_⟩⟩
    · exact exec_settingWrite_answers ht hf hw hn (d := []) rfl (State.decideWrite_refused (s := s.taken rest) hc hm
        (State.setupRefusal_runtime (fun h => by cases h)) (State.checkWord_fields hz))
    · simp only [State.clearAgreement, PerLine.get_map]
      by_cases hb : w.getLsbD (lineNumber l) = true
      · rw [if_pos hb, if_neg (by rw [hb]; decide)]
        rfl
      · rw [if_neg hb, if_pos (by rw [Bool.eq_false_iff.mpr hb]; decide)]
        rfl
  · have hr : settingRange n = some (1, 7) := by obtain rfl | rfl := hk <;> rfl
    have hs : settingClass n = .setup := by obtain rfl | rfl := hk <;> rfl
    have hne {m : Setting} (h : settingRange m ≠ some (1, 7)) : n ≠ m := fun e => h (e ▸ hr)
    have hv := State.checkWord_ok (s := s.taken rest) (k := e.slot) (fields_ranged (w := w) hr)
      (fun _ => hne (fun h => by cases h)) fun _ => hne (fun h => by cases h)
    rewrite [clampedWord_number hr fun _ => hne (fun h => by cases h)] at hv
    exact exec_settingWrite_setup ht hf hw hn hs (fun _ => hne (fun h => by cases h)) (hne (fun h => by cases h)) hm hl hv
  · subst hk
    refine ⟨fun hz => ?_, fun hz => ⟨_, exec_settingWrite_block ht hf hw hn hm hl hz, rfl⟩⟩
    exact exec_settingWrite_answers ht hf hw hn (d := []) rfl (State.decideWrite_refused (s := s.taken rest) hc hm
      (State.setupRefusal_lets hl) (State.checkWord_fields hz))

end Sys2Proof.Machine
end

section
/-! PROOFS. A slot's identity word and SETTING-FIELD-WRITE: O47, O48. -/
namespace Sys2Proof.Machine

/-! ### A slot's word stored (R158, R160, R95) -/

/-- A slot's word with its effects, and the holder of the window. -/
def State.slotWordStored (s : State) (k : Slot) (w : Word32) (sender : Slot) : State :=
  (s.writeWord (.slotWord k) w).takeHolder (.slotWord k) sender

section
variable (s : State) (k : Slot) (w : Word32) (sender : Slot)

/-- The word's effect on the slot: emptied or not, then its request set reduced. -/
theorem State.slotWordStored_eq : s.slotWordStored k w sender = { (if wordTag w = emptyTag then (s.storeWord (.slotWord k) w).emptySlot k
      else s.storeWord (.slotWord k) w).reduceSet k w with setup := { s.setup with holder := some (s.setup.holder.getD sender) } } := by
  have hc : settingClass (.slotWord k) = .setup := rfl
  unfold State.slotWordStored State.takeHolder State.writeWord
  rewrite [if_pos hc]
  dsimp only
  split <;> rfl

theorem State.slotWordStored_settings : (s.slotWordStored k w sender).settings = s.settings.set (.slotWord k) w := by
  rewrite [State.slotWordStored_eq]
  split <;> rfl

theorem State.slotWordStored_setup : (s.slotWordStored k w sender).setup
    = { s.setup with holder := some (s.setup.holder.getD sender) } := by
  rw [State.slotWordStored_eq]

theorem State.slotWordStored_slots : (s.slotWordStored k w sender).slots
    = s.slots.set k { s.slots.get k with requestSet := (s.slots.get k).requestSet &&& allowedLines w } := by
  rewrite [State.slotWordStored_eq]
  split <;> rfl

theorem State.slotWordStored_intake : (s.slotWordStored k w sender).port.intake
    = if wordTag w = emptyTag then s.port.intake.filter fun x => decide (x.slot ≠ k) else s.port.intake := by
  rewrite [State.slotWordStored_eq]
  split <;> rfl

theorem State.slotWordStored_units : (s.slotWordStored k w sender).units
    = if wordTag w = emptyTag then (s.dropSubscriptions k).units else s.units := by
  rewrite [State.slotWordStored_eq]
  split <;> rfl

theorem State.slotWordStored_report : (s.slotWordStored k w sender).port.report = s.port.report := by
  rewrite [State.slotWordStored_eq]
  split <;> rfl

theorem State.slotWordStored_keeps :
    Keeps [.now, .comb, .sense, .line, .walker, .cache, .claims, .pending] s (s.slotWordStored k w sender) := by
  have emptied (t : State) : Keeps [.now, .comb, .sense, .line, .walker, .cache, .claims, .pending] t (t.emptySlot k) :=
    keeps_cons (p := .now) rfl (keeps_cons (p := .comb) rfl (keeps_cons (p := .sense) rfl (keeps_cons (p := .line) rfl
      (keeps_cons (p := .walker) rfl (keeps_cons (p := .cache) rfl (keeps_cons (p := .claims) rfl (keeps_cons (p := .pending) rfl
      (keeps_nil _ _))))))))
  have reduced (t : State) (setup : SetupWindow) :
      Keeps [.now, .comb, .sense, .line, .walker, .cache, .claims, .pending] t { t.reduceSet k w with setup := setup } :=
    keeps_cons (p := .now) rfl (keeps_cons (p := .comb) rfl (keeps_cons (p := .sense) rfl (keeps_cons (p := .line) rfl
      (keeps_cons (p := .walker) rfl (keeps_cons (p := .cache) rfl (keeps_cons (p := .claims) rfl (keeps_cons (p := .pending) rfl
      (keeps_nil _ _))))))))
  have stored : Keeps [.now, .comb, .sense, .line, .walker, .cache, .claims, .pending] s (s.storeWord (.slotWord k) w) :=
    keeps_cons (p := .now) rfl (keeps_cons (p := .comb) rfl (keeps_cons (p := .sense) rfl (keeps_cons (p := .line) rfl
      (keeps_cons (p := .walker) rfl (keeps_cons (p := .cache) rfl (keeps_cons (p := .claims) rfl (keeps_cons (p := .pending) rfl
      (keeps_nil _ _))))))))
  rewrite [State.slotWordStored_eq]
  split
  · exact (stored.trans (emptied _)).trans (reduced _ _)
  · exact stored.trans (reduced _ _)

theorem State.slotWordStored_missed (j : Slot) : (s.slotWordStored k w sender).missed j = s.missed j := by
  rewrite [State.missed, State.slotWordStored_slots]
  by_cases h : j = k
  · subst h
    simp [State.missed]
  · simp [State.missed, h]

theorem State.slotWordStored_tag (j : Slot) :
    (s.slotWordStored k w sender).tag j = if k = j then wordTag w else s.tag j := by
  rewrite [State.tag, State.slotWordStored_settings]
  split
  · next h =>
    subst h
    exact congrArg wordTag (Settings.get_set_self s.settings (.slotWord k) w)
  · next h =>
    exact congrArg wordTag (Settings.get_set_ne s.settings w (n := .slotWord k) (m := .slotWord j) fun e => h (Setting.slotWord.inj e).symm)

theorem State.slotWordStored_block : (s.slotWordStored k w sender).block = s.block := by
  rewrite [State.block, State.slotWordStored_settings]
  rfl

/-- No subscription of an emptied slot is left (R138). -/
theorem State.dropSubscriptions_none {u : UnitRecord} (hu : u ∈ (s.dropSubscriptions k).units) {f : FunctionEntry}
    (hf : f ∈ u.functions) : f.subs.get k = none := by
  obtain ⟨v, -, rfl⟩ := List.mem_map.mp hu
  obtain ⟨g, -, rfl⟩ := List.mem_map.mp hf
  simp

/-- The lines that a slot's word leaves it (R95, R158, R159). -/
theorem allowedLines_eq : allowedLines w
    = if w.extractLsb' 0 8 = 0xFF then 0x00 else if w.getLsbD 16 then 0xFF else if w.getLsbD 17 then 0x04 else 0x00 := rfl

end

/-! ### The check of a slot's word (R158, R160) -/

theorem State.tagTaken_iff (s : State) (k : Slot) (tag : Byte) : s.tagTaken k tag = true ↔ ∃ j, j ≠ k ∧ s.tag j = tag := by
  simp only [State.tagTaken, List.any_eq_true, Bool.and_eq_true, bne_iff_ne, beq_iff_eq]
  exact ⟨fun ⟨j, _, h⟩ => ⟨j, h⟩, fun ⟨j, h⟩ => ⟨j, by cases j <;> decide, h⟩⟩

theorem State.referenced_iff (s : State) (k sender : Slot) (ho : s.setup.open_ = true) : s.referenced k sender = true
    ↔ k = sender ∨ s.setup.holder = some k ∨ (∃ c ∈ s.claims, c.holder = k) ∨ 0 < s.accessOutstanding k := by
  simp only [State.referenced, ho, Bool.or_eq_true, Bool.true_and, beq_iff_eq, decide_eq_true_eq, List.any_eq_true]
  exact or_comm.trans (or_congr_right or_comm)

section
variable {s : State} {k sender : Slot} {w : Word32}

theorem slotWord_fields (k : Slot) : ~~~(settingFieldBits (.slotWord k)) = 0xFF80FC00 :=
  show ~~~(0x007F03FF : Word32) = 0xFF80FC00 by decide

theorem State.checkWord_slot (hz : w &&& 0xFF80FC00 = 0) : s.checkWord sender (.slotWord k) w =
    if wordTag w = emptyTag then if s.referenced k sender then .error .refusedRange else .ok w
    else if s.tagTaken k (wordTag w) then .error .refusedRange else .ok w := by
  unfold State.checkWord
  rw [if_neg (not_not.mpr (by rw [slotWord_fields]; exact hz))]

theorem State.checkWord_slot_refused (ho : s.setup.open_ = true)
    (h : w &&& 0xFF80FC00 ≠ 0 ∨ (w.extractLsb' 0 8 ≠ 0xFF ∧ ∃ j, j ≠ k ∧ s.tag j = w.extractLsb' 0 8)
      ∨ (w.extractLsb' 0 8 = 0xFF ∧ (k = sender ∨ s.setup.holder = some k ∨ (∃ c ∈ s.claims, c.holder = k)
        ∨ 0 < s.accessOutstanding k))) : s.checkWord sender (.slotWord k) w = .error .refusedRange := by
  by_cases hz : w &&& 0xFF80FC00 = 0
  · rewrite [State.checkWord_slot hz]
    obtain h | ⟨ht, h⟩ | ⟨ht, h⟩ := h
    · exact absurd hz h
    · exact (if_neg ht).trans (if_pos ((s.tagTaken_iff k _).mpr h))
    · exact (if_pos ht).trans (if_pos ((s.referenced_iff k sender ho).mpr h))
  · exact State.checkWord_fields (by rw [slotWord_fields]; exact hz)

theorem State.checkWord_slot_ok (ho : s.setup.open_ = true) (hz : w &&& 0xFF80FC00 = 0)
    (ht : w.extractLsb' 0 8 ≠ 0xFF → ∀ j, j ≠ k → s.tag j ≠ w.extractLsb' 0 8)
    (hr : w.extractLsb' 0 8 = 0xFF → k ≠ sender ∧ s.setup.holder ≠ some k ∧ (∀ c ∈ s.claims, c.holder ≠ k)
      ∧ s.accessOutstanding k = 0) : s.checkWord sender (.slotWord k) w = .ok w := by
  rewrite [State.checkWord_slot hz]
  by_cases he : w.extractLsb' 0 8 = 0xFF
  · obtain ⟨h1, h2, h3, h4⟩ := hr he
    refine (if_pos he).trans (if_neg ?_)
    rewrite [s.referenced_iff k sender ho]
    rintro (h | h | ⟨c, hc, h⟩ | h)
    · exact h1 h
    · exact h2 h
    · exact h3 c hc h
    · omega
  · refine (if_neg he).trans (if_neg ?_)
    rewrite [s.tagTaken_iff k]
    exact fun ⟨j, hj, h⟩ => ht he j hj h

end

/-- Settles O47: the checks, then each effect of the stored word. -/
theorem slotWordWritten : Obligations.SlotWordWritten := by
  intro s e rest k w ht hw hn hset hl
  have hm : MayWrite (s.taken rest) e.slot (.slotWord k) := .inl hset
  have hwin : (s.taken rest).setupRefusal e.slot (.slotWord k) = none := State.setupRefusal_lets (s := s.taken rest) hl
  refine ⟨fun hf h => ?_, fun hz htag href => ?_⟩
  · exact exec_settingWrite_answers ht hf hw hn (d := []) rfl (State.decideWrite_refused (fun h => by cases h) hm hwin
      (State.checkWord_slot_refused (s := s.taken rest) hl.1 h))
  · have hd := State.decideWrite_stored (fun h => by cases h) hm hwin
      (State.checkWord_slot_ok (s := s.taken rest) (sender := e.slot) hl.1 hz htag href)
    obtain ⟨f, he, hfs⟩ := exec_settingWrite ht hw hn
    have hsw : SwitchesFollow s → SwitchesFollow ((s.taken rest).decideWrite e (.slotWord k) w) := fun h =>
      SwitchesFollow.decideWrite (s := s.taken rest) (h.of_same ⟨fun _ => ⟨rfl, rfl, rfl⟩, rfl, rfl⟩) e _ w
    rewrite [bne_self_eq_false] at hd
    rewrite [hd] at hsw hfs
    have hA : ((s.taken rest).writeWord (.slotWord k) w).takeHolder (.slotWord k) e.slot
      = (s.taken rest).slotWordStored k w e.slot := rfl
    rewrite [hA] at hsw hfs
    have hset' := (s.taken rest).slotWordStored_settings k w e.slot
    have hsetup := (s.taken rest).slotWordStored_setup k w e.slot
    have hslots := (s.taken rest).slotWordStored_slots k w e.slot
    have hintake := (s.taken rest).slotWordStored_intake k w e.slot
    have hunits := (s.taken rest).slotWordStored_units k w e.slot
    have hreport := (s.taken rest).slotWordStored_report k w e.slot
    have hkeeps := (s.taken rest).slotWordStored_keeps k w e.slot
    have hmissed := (s.taken rest).slotWordStored_missed k w e.slot e.slot
    have htag' := (s.taken rest).slotWordStored_tag k w e.slot e.slot
    have hblock := (s.taken rest).slotWordStored_block k w e.slot
    generalize (s.taken rest).slotWordStored k w e.slot = a at *
    have hsets := requestSets_of_inlets (a.answer_inlets e .done (bytesOfWord32 w) false)
    have hcomb : a.comb = { s.comb with
        attachSince := a.comb.attachSince, parkSince := a.comb.parkSince, entryWaiting := a.comb.entryWaiting } :=
      hkeeps .comb (by decide)
    refine ⟨((a.answer e .done (bytesOfWord32 w)).retimeAttach.retimePark), ?_, hset', ?_, ?_, fun h => ?_, hintake, fun h => ?_,
      fun h => ?_, ⟨_, congrArg (· ++ [_]) hreport, ?_, ?_⟩, ?_⟩
    · rewrite [he]
      refine event_quiet ht.running hfs ?_
      rewrite [State.combSummary, State.combFlags, State.answer_comb, hcomb]
      rfl
    · refine hsetup.trans ?_
      obtain ⟨-, hh | hh⟩ := hl <;> simp [hh]
    · have hk := congrArg (fun x : PerSlot Byte => x.get k) hsets
      simp only [requestSets_get] at hk
      refine hk.trans ?_
      rewrite [hslots, ← allowedLines_eq]
      simp
    · exact (hsw h).of_same ⟨fun _ => ⟨rfl, rfl, rfl⟩, rfl, rfl⟩
    · rewrite [if_pos (show wordTag w = emptyTag from h)] at hunits
      intro u hu f hf
      exact State.dropSubscriptions_none (s.taken rest) k (hunits ▸ hu) hf
    · rewrite [if_neg (show wordTag w ≠ emptyTag from h)] at hunits
      exact hunits
    · rewrite [hblock, htag']
      rfl
    · have hcode : e.code = 0x61 := ht.carries
      dsimp only [responseBytes]
      rewrite [hmissed, response_flags, hcode, show (s.taken rest).missed e.slot = s.missed e.slot from rfl]
      cases s.missed e.slot <;> rfl
    · refine (Keeps.trans (t := s.taken rest) ?_ (hkeeps.trans ?_)).retimed
      · exact keeps_cons (p := .now) rfl (keeps_cons (p := .comb) rfl (keeps_cons (p := .sense) rfl (keeps_cons (p := .line) rfl
          (keeps_cons (p := .walker) rfl (keeps_cons (p := .cache) rfl (keeps_cons (p := .claims) rfl
          (keeps_cons (p := .pending) rfl (keeps_nil _ _))))))))
      · exact keeps_cons (p := .now) rfl (keeps_cons (p := .comb) rfl (keeps_cons (p := .sense) rfl (keeps_cons (p := .line) rfl
          (keeps_cons (p := .walker) rfl (keeps_cons (p := .cache) rfl (keeps_cons (p := .claims) rfl
          (keeps_cons (p := .pending) rfl (keeps_nil _ _))))))))

/-! ### SETTING-FIELD-WRITE (R167) -/

theorem lowMask_bit {size : Nat} (hs : size ≤ 24) (i : Nat) : (lowMask size).getLsbD i = decide (i < size) := by
  have hp : 2 ^ size ≤ 2 ^ 24 := Nat.pow_le_pow_right (by decide) hs
  have h1 : 1 ≤ 2 ^ size := Nat.one_le_two_pow
  have hn : (lowMask size).toNat = 2 ^ size - 1 := by
    rewrite [lowMask, BitVec.toNat_sub, BitVec.toNat_shiftLeft, Nat.shiftLeft_eq]
    have hone : BitVec.toNat (1 : Word32) = 1 := rfl
    have hlit : BitVec.toNat 1#32 = 1 := rfl
    rewrite [hone, hlit]
    omega
  rw [BitVec.getLsbD, hn, Nat.testBit_two_pow_sub_one]

/-- The bits of a word with a field replaced (R167). -/
theorem replaceField_bit {w : Word32} {start size value b : Nat} (hs : size ≤ 24) (hb : b < 32) :
    (replaceField w start size value).getLsbD b
      = if start ≤ b ∧ b < start + size then value.testBit (b - start) else w.getLsbD b := by
  have hm : b - start < 32 := by omega
  simp only [replaceField, BitVec.getLsbD_or, BitVec.getLsbD_and, BitVec.getLsbD_not, BitVec.getLsbD_shiftLeft, lowMask_bit hs,
    hb, BitVec.getLsbD_ofNat, hm, decide_true, Bool.true_and]
  by_cases h : start ≤ b
  · by_cases hlt : b < start + size
    · have h1 : b - start < size := by omega
      simp [h, hlt, h1, Nat.not_lt.mpr h]
    · have h1 : ¬ b - start < size := by omega
      simp [hlt, h1]
  · simp [h, Nat.lt_of_not_le h]

theorem replaceField_eq {w v : Word32} {start size value : Nat} (hs : size ≤ 24)
    (h : ∀ b, b < 32 → v.getLsbD b = if start ≤ b ∧ b < start + size then value.testBit (b - start) else w.getLsbD b) :
    replaceField w start size value = v :=
  BitVec.eq_of_getLsbD_eq fun b hb => (replaceField_bit hs hb).trans (h b hb).symm

theorem IntakeEntry.value_three {e : IntakeEntry} (h : 8 ≤ e.data.length) :
    natOfBytes (e.operands 5 3) = 65536 * e.operand 5 + 256 * e.operand 6 + e.operand 7 := by
  rewrite [IntakeEntry.operands_succ (by omega), IntakeEntry.operands_succ (by omega), IntakeEntry.operands_succ (by omega),
    IntakeEntry.operands_zero]
  change 256 * (256 * (256 * 0 + e.operand 5) + e.operand 6) + e.operand 7 = _
  generalize e.operand 5 = a, e.operand 6 = b, e.operand 7 = c
  omega

/-- The effect of SETTING-FIELD-WRITE. -/
def State.fieldWrite (s : State) : State :=
  s.taking (isRequest codeSettingFieldWrite) fun e s =>
    let start := e.operand 3
    let size := e.operand 4
    let value := natOfBytes (e.operands 5 3)
    if !fieldOperandsOk start size value then s.answer e .refusedRange
    else
      match settingOfNumber (e.operand 2) with
      | none => s.answer e .refusedRange
      | some n => s.decideWrite e n (replaceField (s.settings.get n) start size value)

theorem exec_settingFieldWrite (s : State) : exec .settingFieldWrite s = event State.fieldWrite s := rfl

section
variable {s : State} {e : IntakeEntry} {rest : List IntakeEntry} {w : Word32} {n : Setting}

theorem fieldOperandsOk_iff {start size value : Nat} : fieldOperandsOk start size value = true
    ↔ 1 ≤ size ∧ size ≤ 24 ∧ start + size ≤ 32 ∧ value < 2 ^ size := by
  simp only [fieldOperandsOk, Bool.and_eq_true, decide_eq_true_eq, and_assoc]

theorem Takes.fieldWrite_refused (ht : Takes s 0x62 e rest 1)
    (h : ¬ fieldOperandsOk (e.operand 3) (e.operand 4) (natOfBytes (e.operands 5 3)) = true ∨ settingOfNumber (e.operand 2) = none) :
    s.fieldWrite = refusedWith s e rest .refusedRange := by
  refine (ht.taking (by decide) (by decide) _).trans (Eq.trans ?_ (s.taken_refused e rest .refusedRange))
  dsimp only
  by_cases hk : fieldOperandsOk (e.operand 3) (e.operand 4) (natOfBytes (e.operands 5 3)) = true
  · rewrite [hk, h.resolve_left (not_not.mpr hk)]
    rfl
  · rewrite [Bool.eq_false_iff.mpr hk]
    rfl

theorem Takes.fieldWrite (ht : Takes s 0x62 e rest 1)
    (hk : fieldOperandsOk (e.operand 3) (e.operand 4) (natOfBytes (e.operands 5 3)) = true)
    (hn : settingOfNumber (e.operand 2) = some n)
    (hw : replaceField (s.settings.get n) (e.operand 3) (e.operand 4) (natOfBytes (e.operands 5 3)) = w) :
    s.fieldWrite = (s.taken rest).decideWrite e n w := by
  refine (ht.taking (by decide) (by decide) _).trans ?_
  dsimp only
  rewrite [hk, hn, ← hw]
  rfl

/-- A decision leaves one answer, and nothing of the entry but its slot went into it. -/
theorem State.decideWrite_answers (s : State) (k : Slot) (n : Setting) (w : Word32) : ∃ (a : State) (st : Status) (d : List Byte)
    (cl : Bool), a.comb = s.comb ∧ a.port.report = s.port.report ∧ ∀ e, e.slot = k → s.decideWrite e n w = a.answer e st d cl := by
  by_cases hm : settingClass n = .fixed ∨ ¬ MayWrite s k n
  · exact ⟨s, .refusedRights, [], false, rfl, rfl, fun e he => State.decideWrite_rights (he ▸ hm)⟩
  simp only [not_or, not_not] at hm
  obtain ⟨hf, hm⟩ := hm
  cases hr : s.setupRefusal k n with
  | some r =>
    exact ⟨s, r.1, r.2, false, rfl, rfl, fun e he => by subst he; exact State.decideWrite_window hf hm hr⟩
  | none =>
    cases hc : s.checkWord k n w with
    | error st =>
      exact ⟨s, st, [], false, rfl, rfl, fun e he => by subst he; exact State.decideWrite_refused hf hm hr hc⟩
    | ok v =>
      refine ⟨(s.writeWord n v).takeHolder n k, .done, bytesOfWord32 v, v != w, ?_, ?_, fun e he => by
        subst he; exact State.decideWrite_stored hf hm hr hc⟩
      · have hcomb : (s.writeWord n v).comb = s.comb := by
          unfold State.writeWord
          dsimp only
          repeat' split
          all_goals rfl
        unfold State.takeHolder
        split <;> exact hcomb
      · rw [State.takeHolder_report, State.writeWord_report]

/-- Two entries of one slot and one sequence tag: their answers differ in the code. -/
theorem State.answer_recode (a : State) {e e' : IntakeEntry} (hs : e'.slot = e.slot) (hq : e'.sequence = e.sequence) (st : Status)
    (d : List Byte) (cl : Bool) : ∃ f : Frame, (a.answer e' st d cl).port.report = a.port.report ++ [f]
      ∧ (a.answer e st d cl).retimeAttach.retimePark = { (a.answer e' st d cl).retimeAttach.retimePark with
          port := { (a.answer e' st d cl).retimeAttach.retimePark.port with
            report := a.port.report ++ [{ f with data := e.code :: f.data.tail }] } } := by
  refine ⟨⟨identOf a.block kindResponse (a.tag e'.slot), responseBytes e'.code e'.sequence st (a.missed e'.slot) cl d⟩, rfl, ?_⟩
  unfold State.answer
  rewrite [hs, hq]
  rfl

theorem event_answers {f : State → State} (hr : s.comb.heldInReset = false) {a : State} {st : Status} {d : List Byte} {cl : Bool}
    (hf : f s = a.answer e st d cl) (ha : a.comb = s.comb) :
    event f s = .next ((a.answer e st d cl).retimeAttach.retimePark) := by
  refine event_quiet hr hf ?_
  rewrite [State.combSummary, State.combFlags, State.answer_comb, ha]
  rfl

/-- The head of the intake exchanged for a whole entry of another request. -/
theorem Takes.recoded (ht : Takes s 0x62 e rest 1) {e' : IntakeEntry} (h8 : 8 ≤ e'.data.length) (hc : e'.code = 0x61) :
    Takes { s with port := { s.port with intake := e' :: rest } } 0x61 e' rest 1 where
  running := ht.running
  awake := ht.awake
  noWait := ht.noWait
  noDeferred := ht.noDeferred
  head := rfl
  room := ht.room
  whole := h8
  carries := hc

end

theorem bytes_of_word (w : Word32) :
    w = ((w.extractLsb' 24 8 ++ w.extractLsb' 16 8) ++ w.extractLsb' 8 8) ++ w.extractLsb' 0 8 := by
  refine BitVec.eq_of_toNat_eq ?_
  have hd (m n k : Nat) (h : m = n * k) : w.toNat / n / k = w.toNat / m := by rw [h, Nat.div_div_eq_div_mul]
  have h0 := Nat.div_add_mod w.toNat 256
  have h1 := Nat.div_add_mod (w.toNat / 256) 256
  have h2 := Nat.div_add_mod (w.toNat / 65536) 256
  have h3 : w.toNat / 16777216 % 256 = w.toNat / 16777216 := Nat.mod_eq_of_lt (Nat.div_lt_of_lt_mul w.isLt)
  rewrite [hd 65536 256 256 rfl] at h1
  rewrite [hd 16777216 65536 256 rfl] at h2
  rewrite [toNat_append_byte, toNat_append_byte, toNat_append_byte, BitVec.extractLsb'_toNat, BitVec.extractLsb'_toNat,
    BitVec.extractLsb'_toNat, BitVec.extractLsb'_toNat, Nat.shiftRight_eq_div_pow, Nat.shiftRight_eq_div_pow,
    Nat.shiftRight_eq_div_pow, Nat.shiftRight_zero]
  change _ = 256 * (256 * (256 * (w.toNat / 16777216 % 256) + w.toNat / 65536 % 256) + w.toNat / 256 % 256) + w.toNat % 256
  rw [h3, h2, h1, h0]

/-- Settles O48: both requests come to one decision, and their answers differ in the code. -/
theorem fieldWriteReplacesBits : Obligations.FieldWriteReplacesBits := by
  intro s e rest value ht hv
  have hv' : natOfBytes (e.operands 5 3) = value := (IntakeEntry.value_three ht.whole).trans hv.symm
  refine ⟨fun hf h => ?_, fun n w h1 h24 h32 hlt hn hb => ?_⟩
  · rewrite [exec_settingFieldWrite]
    refine event_answered ht.running hf (ht.fieldWrite_refused ?_)
    rewrite [fieldOperandsOk_iff, hv']
    by_cases hn : settingOfNumber (e.operand 2) = none
    · exact .inr hn
    · refine .inl fun ⟨k1, k2, k3, k4⟩ => ?_
      rcases h with h | h | h | h | h
      · omega
      · omega
      · omega
      · omega
      · exact hn h
  · have hok : fieldOperandsOk (e.operand 3) (e.operand 4) (natOfBytes (e.operands 5 3)) = true :=
      fieldOperandsOk_iff.mpr ⟨h1, h24, h32, hv' ▸ hlt⟩
    have hfw := ht.fieldWrite hok hn ((congrArg _ hv').trans (replaceField_eq h24 hb))
    refine ⟨?_, fun lo hi hf hc hr hk hm => ?_⟩
    · obtain ⟨a, st, d, cl, ha, hrep, hans⟩ := (s.taken rest).decideWrite_answers e.slot n w
      let e' : IntakeEntry := ⟨e.slot, [0x61, byteAt e.data 1, byteAt e.data 2, w.extractLsb' 24 8, w.extractLsb' 16 8,
        w.extractLsb' 8 8, w.extractLsb' 0 8, 0]⟩
      have ht' : Takes { s with port := { s.port with intake := e' :: rest } } 0x61 e' rest 1 := ht.recoded (Nat.le_refl 8) rfl
      obtain ⟨f, he, hfs⟩ := exec_settingWrite ht' (bytes_of_word w) hn
      obtain ⟨g, hg, hrec⟩ := a.answer_recode (e := e) (e' := e') rfl rfl st d cl
      refine ⟨_, g, he.trans (event_answers ht'.running (hfs.trans (hans e' rfl)) ha), hg.trans (congrArg (· ++ [g]) hrep), ?_⟩
      rewrite [exec_settingFieldWrite, event_answers ht.running (hfw.trans (hans e rfl)) ha, hrec, hrep,
        show e.code = 0x62 from ht.carries]
      rfl
    · have hv := State.checkWord_ok (s := s.taken rest) (k := e.slot) (fields_ranged (w := w) hr)
        (fun j h => by rw [h] at hc; cases hc) fun j h => (hk j).2 h
      rewrite [clampedWord_number hr fun k => (hk k).1] at hv
      have hne : settingClass n ≠ .setup := by rw [hc]; decide
      have hd := State.taken_stored (s := s) (rest := rest) (by rw [hc]; decide) hm (State.setupRefusal_runtime hne) hv
        (fun k h => by rw [h] at hc; cases hc) (fun h => by rw [h] at hr; cases hr) (fun h => by rw [h] at hc; cases hc)
      rewrite [State.takeHolder_runtime hc] at hd
      rewrite [exec_settingFieldWrite]
      exact event_still ht.running (hfw.trans hd)
        ((hf.answered e rest []).of_same (timersSame_answered s e rest _ [] _ s.setup)) rfl

end Sys2Proof.Machine
end

section
/-! PROOFS. The switches, refresh windows and flash phases: O32, O33. -/
namespace Sys2Proof.Machine

/-! ### A switch that follows the law (R97) -/

theorem LampLine.follow_stays {x : LampLine} {l : Line} {want : Bool} {now : Nat} {b : Bool} (h : want = x.on) :
    x.follow l want now b = x := if_pos h

theorem LampLine.follow_off {x : LampLine} {l : Line} {now : Nat} {b : Bool} (h : x.on = true) :
    x.follow l false now b = x.switchOff now := by
  rw [LampLine.follow, if_neg (by rw [h]; decide)]
  rfl

theorem LampLine.follow_goesOn {x : LampLine} {l : Line} {now : Nat} {b : Bool} (h : x.on = false) :
    x.follow l true now b = x.switchOn l now b := by
  rw [LampLine.follow, if_neg (by rw [h]; decide)]
  rfl

@[simp] theorem LampLine.follow_runSince (x : LampLine) (l : Line) (want : Bool) (now : Nat) (b : Bool) :
    (x.follow l want now b).runSince = x.runSince := by
  unfold LampLine.follow; repeat' split
  all_goals rfl
@[simp] theorem LampLine.follow_restartSince (x : LampLine) (l : Line) (want : Bool) (now : Nat) (b : Bool) :
    (x.follow l want now b).restartSince = x.restartSince := by
  unfold LampLine.follow; repeat' split
  all_goals rfl

theorem State.resolveSwitches_get (s : State) (b : Bool) (l : Line) : (s.resolveSwitches b).lamps.get l
    = (s.lamps.get l).follow l (switchLaw (s.requested l) (s.lamps.get l).trip s.flash l) s.now b := by
  simp [State.resolveSwitches]

/-- A line whose record obeys the law stands. -/
theorem State.resolveSwitches_stays {s : State} {l : Line} (b : Bool)
    (h : (s.lamps.get l).on = switchLaw (s.requested l) (s.lamps.get l).trip s.flash l) :
    (s.resolveSwitches b).lamps.get l = s.lamps.get l := by
  rw [State.resolveSwitches_get, LampLine.follow_stays h.symm]

/-- The Flash Generator does not switch a steady line (R97). -/
theorem switchLaw_steady {l : Line} (h : isTurn l = false) (r : Bool) (t : TripState) (f g : Flash) :
    switchLaw r t f l = switchLaw r t g l := by
  simp [switchLaw, h]

theorem SwitchesFollow.retimed {s : State} (h : SwitchesFollow s) : SwitchesFollow s.retimeAttach.retimePark :=
  h.of_same ⟨fun _ => ⟨rfl, rfl, rfl⟩, rfl, rfl⟩

/-! ### What an event of the lamps leaves alone -/

theorem keeps_beside_lamps {s t : State} (hcomb : t.comb = s.comb) (hsense : t.sense = s.sense) (hline : t.line = s.line)
    (hwalker : t.walker = s.walker) (hunits : t.units = s.units) (hcache : t.cache = s.cache) (hclaims : t.claims = s.claims)
    (hsettings : t.settings = s.settings) (hsetup : t.setup = s.setup) (hport : t.port = s.port)
    (hcounters : t.counters = s.counters) (hpending : t.pending = s.pending) :
    Keeps [.comb, .sense, .line, .walker, .units, .cache, .claims, .settings, .setup, .portIn, .portOut, .counters, .pending]
      s t := by
  have hin : Part.portIn.same s t := by
    rewrite [Part.same, hport]
    exact ⟨rfl, rfl, rfl, rfl⟩
  exact keeps_cons (comb_same hcomb) (keeps_cons hsense (keeps_cons hline (keeps_cons hwalker (keeps_cons hunits
    (keeps_cons hcache (keeps_cons hclaims (keeps_cons hsettings (keeps_cons hsetup (keeps_cons hin
    (keeps_cons (portOut_same hport) (keeps_cons hcounters (keeps_cons hpending (keeps_nil _ _)))))))))))))

theorem keeps_slots {s t : State} (h : t.slots = s.slots) : Keeps [.slots, .missed] s t :=
  keeps_cons (fun k => by rw [h]) (keeps_cons (missed_same h) (keeps_nil _ _))

theorem keeps_lamps_alone {s t : State} (hcomb : t.comb = s.comb) (hsense : t.sense = s.sense) (hline : t.line = s.line)
    (hwalker : t.walker = s.walker) (hunits : t.units = s.units) (hcache : t.cache = s.cache) (hclaims : t.claims = s.claims)
    (hslots : t.slots = s.slots) (hsettings : t.settings = s.settings) (hsetup : t.setup = s.setup) (hport : t.port = s.port)
    (hcounters : t.counters = s.counters) (hpending : t.pending = s.pending) :
    Keeps [.comb, .sense, .line, .walker, .units, .cache, .claims, .slots, .missed, .settings, .setup, .portIn, .portOut,
      .counters, .pending] s t :=
  ((keeps_beside_lamps hcomb hsense hline hwalker hunits hcache hclaims hsettings hsetup hport hcounters hpending).append
    (keeps_slots hslots)).sub (by decide)

/-! ### Refresh windows (R96) -/

theorem State.changeSlot_lamp (s : State) (k : Slot) (x : SlotState) (l : Line) : (s.changeSlot k x).lamps.get l
    = ((s.lamps.get l).requestChanged (s.requested l) (inLineSet (requestedBy (s.slots.set k x)) l) s.now).follow l
        (switchLaw (inLineSet (requestedBy (s.slots.set k x)) l)
          ((s.lamps.get l).requestChanged (s.requested l) (inLineSet (requestedBy (s.slots.set k x)) l) s.now).trip
          (s.changeSlot k x).flash l) s.now (s.flash == .stopped && (s.changeSlot k x).flash != .stopped) := by
  rewrite [State.changeSlot, State.changeRequests, State.resolveSwitches_get]
  simp only [PerLine.get_map]
  rfl

theorem LampLine.requestChanged_same {x : LampLine} {b a : Bool} (h : b = a) (now : Nat) : x.requestChanged b a now = x := if_pos h

/-- A steady line that is requested as before stands. -/
theorem State.changeSlot_steady {s : State} (h : SwitchesFollow s) {k : Slot} {x : SlotState} {l : Line}
    (hl : isTurn l = false) (hr : (s.changeSlot k x).requested l = s.requested l) :
    (s.changeSlot k x).lamps.get l = s.lamps.get l := by
  have hr' : inLineSet (requestedBy (s.slots.set k x)) l = s.requested l := hr
  rw [State.changeSlot_lamp, hr', LampLine.requestChanged_same rfl, switchLaw_steady hl _ _ _ s.flash,
    LampLine.follow_stays (h l).1.symm]

/-- The record a slot has after its refresh window (R96). -/
theorem exec_refreshWindow {s : State} {k : Slot} (hr : s.comb.heldInReset = false) (hw : s.refreshWindow k ≠ 0)
    (hx : (s.slots.get k).refreshExpired = false) : exec (.refreshWindowExpiry k) s = .next
      (((s.reach ((s.slots.get k).refreshSince + s.refreshWindow k)).changeSlot k { s.slots.get k with
        requestSet := (s.slots.get k).requestSet &&& 0x83, refreshExpired := true }).retimeAttach.retimePark) := by
  dsimp only [exec, execRefreshWindowExpiry]
  exact event_quiet hr (if_neg (by simp [hw, hx])) rfl

theorem State.changeSlot_slots (s : State) (k : Slot) (x : SlotState) : (s.changeSlot k x).slots = s.slots.set k x := rfl

theorem State.changeSlot_keeps (s : State) (k : Slot) (x : SlotState) : Keeps [.comb, .sense, .line, .walker, .units, .cache,
    .claims, .settings, .setup, .portIn, .portOut, .counters, .pending] s (s.changeSlot k x) :=
  keeps_beside_lamps rfl rfl rfl rfl rfl rfl rfl rfl rfl rfl rfl rfl

theorem exec_refreshWindow_idle {s : State} {k : Slot} (hr : s.comb.heldInReset = false) (ht : TimersFollow s)
    (h : s.refreshWindow k = 0 ∨ (s.slots.get k).refreshExpired = true) : exec (.refreshWindowExpiry k) s = .next s := by
  dsimp only [exec, execRefreshWindowExpiry]
  refine event_still (f := fun s => _) hr (if_pos ?_) ht rfl
  simpa using h

/-- Settles O32: the request set cut down, and what the change of the sets does to the lines. -/
theorem refreshExpiryKeepsTailAndMarker : Obligations.RefreshExpiryKeepsTailAndMarker := by
  refine fun s k hr => ⟨fun hw hx hs => ?_, fun ht h => ?_⟩
  · have he := exec_refreshWindow hr hw hx
    have hnow : (s.reach ((s.slots.get k).refreshSince + s.refreshWindow k)).now
      = max s.now ((s.slots.get k).refreshSince + s.refreshWindow k) := rfl
    have hreach := keeps_beside_lamps (s := s) (t := s.reach ((s.slots.get k).refreshSince + s.refreshWindow k))
      rfl rfl rfl rfl rfl rfl rfl rfl rfl rfl rfl rfl
    have hs' : SwitchesFollow (s.reach ((s.slots.get k).refreshSince + s.refreshWindow k)) :=
      hs.of_same ⟨fun _ => ⟨rfl, rfl, rfl⟩, rfl, rfl⟩
    have hlamps : (s.reach ((s.slots.get k).refreshSince + s.refreshWindow k)).lamps = s.lamps := rfl
    have hrequested l : (s.reach ((s.slots.get k).refreshSince + s.refreshWindow k)).requested l = s.requested l := rfl
    have hold : (s.reach ((s.slots.get k).refreshSince + s.refreshWindow k)).slots = s.slots := rfl
    generalize s.reach ((s.slots.get k).refreshSince + s.refreshWindow k) = r at *
    generalize hx : ({ s.slots.get k with requestSet := (s.slots.get k).requestSet &&& 0x83, refreshExpired := true }
      : SlotState) = x at *
    have hsteady := fun l => State.changeSlot_steady (k := k) (x := x) (l := l) hs'
    have hlaw := (hs'.changeSlot k x).retimed
    have hslots := (r.changeSlot_slots k x).trans (congrArg (·.set k x) hold)
    have hkeeps := hreach.trans (r.changeSlot_keeps k x)
    rewrite [← r.changeSlot_now k x] at hnow
    generalize r.changeSlot k x = t at *
    refine ⟨_, he, hlaw, hnow, ?_, fun j hj => ?_, fun l _ hl => ?_, fun l hl ht =>
      (hsteady l ht (Eq.trans hl (hrequested l).symm)).trans (congrArg (·.get l) hlamps), Keeps.retimed hkeeps⟩
    · exact (congrArg (fun x : PerSlot SlotState => x.get k) hslots).trans (PerSlot.get_set_self _ _ _)
    · exact (congrArg (fun x : PerSlot SlotState => x.get j) hslots).trans (PerSlot.get_set_ne _ _ hj)
    obtain ⟨hon, hnormal⟩ := hlaw l
    rewrite [hl] at hon
    exact ⟨hon, hnormal hl⟩
  · exact exec_refreshWindow_idle hr ht h

/-! ### Flash phases (R99, R115) -/

/-- The end of an on-phase: the turn lines without a measurement are marked, and every switch follows. -/
def State.phaseOff (s : State) (since : Nat) : State :=
  let t := (s.reach (since + s.setting .flashOn)).endOnPhase
  State.resolveSwitches { t with flash := .off t.now } false

def State.phaseOn (s : State) (since : Nat) : State :=
  let t := s.reach (since + s.setting .flashOff)
  State.resolveSwitches { t with flash := .on t.now } true

section
variable {s : State} {since : Nat}

theorem exec_flashPhaseEnd_on (hr : s.comb.heldInReset = false) (hf : s.flash = .on since) :
    exec .flashPhaseEnd s = .next ((s.phaseOff since).retimeAttach.retimePark) := by
  dsimp only [exec, execFlashPhaseEnd]
  refine event_quiet hr ?_ (by rfl)
  rewrite [hf]
  rfl

theorem exec_flashPhaseEnd_off (hr : s.comb.heldInReset = false) (hf : s.flash = .off since) :
    exec .flashPhaseEnd s = .next ((s.phaseOn since).retimeAttach.retimePark) := by
  dsimp only [exec, execFlashPhaseEnd]
  refine event_quiet hr ?_ (by rfl)
  rewrite [hf]
  rfl

theorem LampLine.endOnPhase_steady {x : LampLine} {l : Line} (h : isTurn l = false) : x.endOnPhase l = x := by
  unfold LampLine.endOnPhase
  split
  · rewrite [h]
    rfl
  · rfl

theorem LampLine.endOnPhase_turn (x : LampLine) {l : Line} (h : isTurn l = true) : x.endOnPhase l
    = { x with verdict := { x.verdict with held := x.verdict.held || (match x.timing with
        | .fullPhase _ => true
        | _ => false) } } := by
  obtain ⟨on, trip, attempts, run, restart, off, agree, timing, verdict⟩ := x
  cases timing <;> simp [LampLine.endOnPhase, h]

theorem LampLine.endOnPhase_law (x : LampLine) (l : Line) : (x.endOnPhase l).on = x.on ∧ (x.endOnPhase l).trip = x.trip
    ∧ (x.endOnPhase l).attempts = x.attempts := by
  unfold LampLine.endOnPhase
  repeat' split
  all_goals exact ⟨rfl, rfl, rfl⟩

theorem State.phaseOff_get (l : Line) : (s.phaseOff since).lamps.get l = ((s.lamps.get l).endOnPhase l).follow l
    (switchLaw (s.requested l) (s.lamps.get l).trip (.off (s.phaseOff since).now) l) (s.phaseOff since).now false := by
  have h := State.resolveSwitches_get { (s.reach (since + s.setting .flashOn)).endOnPhase with
    flash := .off (s.reach (since + s.setting .flashOn)).now } false l
  have hl : (s.reach (since + s.setting .flashOn)).endOnPhase.lamps.get l = (s.lamps.get l).endOnPhase l := by
    simp [State.endOnPhase]
  rewrite [hl, ((s.lamps.get l).endOnPhase_law l).2.1] at h
  exact h

theorem State.phaseOn_get (l : Line) : (s.phaseOn since).lamps.get l = (s.lamps.get l).follow l
    (switchLaw (s.requested l) (s.lamps.get l).trip (.on (s.phaseOn since).now) l) (s.phaseOn since).now true :=
  State.resolveSwitches_get _ true l

theorem SwitchesFollow.phaseOff (h : SwitchesFollow s) : SwitchesFollow (s.phaseOff since) := by
  refine switchesFollow_resolve (fun l hl => ?_) false
  have hx := (s.lamps.get l).endOnPhase_law l
  have hlamp : (s.reach (since + s.setting .flashOn)).endOnPhase.lamps.get l = (s.lamps.get l).endOnPhase l := by
    simp [State.endOnPhase]
  dsimp only
  rewrite [hlamp, hx.2.1, hx.2.2]
  exact (h l).2 hl

theorem SwitchesFollow.phaseOn (h : SwitchesFollow s) : SwitchesFollow (s.phaseOn since) :=
  switchesFollow_resolve (s := { s.reach (since + s.setting .flashOff) with
    flash := .on (s.reach (since + s.setting .flashOff)).now }) (fun l hl => (h l).2 hl) true

/-- A turn line is OFF in the off-phase. -/
theorem switchLaw_offPhase {l : Line} (h : isTurn l = true) (r : Bool) (t : TripState) (n : Nat) :
    switchLaw r t (.off n) l = false := by
  simp [switchLaw, h, Flash.isOn]

/-- A turn line at the end of an on-phase. -/
theorem State.phaseOff_turn {l : Line} (hl : isTurn l = true) : ((s.phaseOff since).lamps.get l).on = false
    ∧ ((s.lamps.get l).on = true → ((s.phaseOff since).lamps.get l).offSince = (s.phaseOff since).now
      ∧ ((s.phaseOff since).lamps.get l).timing = .idle)
    ∧ ((s.phaseOff since).lamps.get l).verdict = { (s.lamps.get l).verdict with
        held := (s.lamps.get l).verdict.held || (match (s.lamps.get l).timing with
          | .fullPhase _ => true
          | _ => false) } := by
  rewrite [State.phaseOff_get, switchLaw_offPhase hl]
  refine ⟨LampLine.follow_on _ _ _ _ _, fun hon => ?_, ?_⟩
  · rewrite [LampLine.follow_off ((((s.lamps.get l).endOnPhase_law l).1).trans hon)]
    exact ⟨rfl, rfl⟩
  · exact (LampLine.follow_verdict _ _ _ _ _).trans (congrArg LampLine.verdict (LampLine.endOnPhase_turn _ hl))

theorem State.phaseOff_steady (h : SwitchesFollow s) {l : Line} (hl : isTurn l = false) :
    (s.phaseOff since).lamps.get l = s.lamps.get l := by
  rw [State.phaseOff_get, LampLine.endOnPhase_steady hl, switchLaw_steady hl _ _ _ s.flash, LampLine.follow_stays (h l).1.symm]

end

/-- Settles O33: the two phase ends, line by line. -/
theorem flashPhaseEndSwitchesTurnLines : Obligations.FlashPhaseEndSwitchesTurnLines := by
  refine fun s hr => ⟨fun since hf hs => ?_, fun since hf hs => ?_, fun hf ht => ?_⟩
  · exact ⟨_, exec_flashPhaseEnd_on hr hf, hs.phaseOff.retimed, rfl, rfl,
      fun l hl => State.phaseOff_turn hl, fun l hl => State.phaseOff_steady hs hl,
      Keeps.retimed (keeps_lamps_alone rfl rfl rfl rfl rfl rfl rfl rfl rfl rfl rfl rfl rfl)⟩
  · refine ⟨_, exec_flashPhaseEnd_off hr hf, hs.phaseOn.retimed, rfl, rfl,
      fun l hl hq hn => ?_, fun l hl => ?_,
      Keeps.retimed (keeps_lamps_alone rfl rfl rfl rfl rfl rfl rfl rfl rfl rfl rfl rfl rfl)⟩
    · have hon : (s.lamps.get l).on = false := by
        rw [(hs l).1, hf, switchLaw_offPhase hl]
      have hlaw : switchLaw (s.requested l) (s.lamps.get l).trip (.on (s.phaseOn since).now) l = true := by
        rewrite [hq, hn]
        simp [switchLaw, Flash.isOn]
      refine State.phaseOn_get l |>.trans ?_
      rewrite [hlaw, LampLine.follow_goesOn hon, LampLine.switchOn, hl]
      rfl
    · refine State.phaseOn_get l |>.trans (LampLine.follow_stays ?_)
      rewrite [(hs l).1]
      obtain hl | hl | hl := hl
      · exact switchLaw_steady hl _ _ _ _
      · simp [switchLaw, hl]
      · simp [switchLaw, beq_false_of_ne hl]
  · dsimp only [exec, execFlashPhaseEnd]
    refine event_still hr ?_ ht rfl
    rw [hf]

end Sys2Proof.Machine
end

section
/-! PROOFS. Verdict changes, trips, restarts and LINE-RESET: O34, O35. -/
namespace Sys2Proof.Machine

/-! ### A line's verdict record replaced (R122, R124) -/

theorem Verdict.isPassive_eq (v : Verdict) : v.isPassive = decide (v = .undeclared ∨ v = .high) := by cases v <;> rfl

theorem State.refreshPassive_comb (s : State) : s.refreshPassive.comb = { s.comb with passiveLoad := s.showsPassive } := by
  simp only [State.refreshPassive, State.showsPassive, Verdict.isPassive_eq]

theorem State.showsPassive_lamps {s t : State} (h : t.lamps = s.lamps) : t.showsPassive = s.showsPassive := by
  simp only [State.showsPassive, h]

theorem State.verdictChanged_comb (s : State) (l : Line) :
    (s.verdictChanged l).comb = { s.comb with passiveLoad := s.showsPassive } := by
  have hl : ((s.count .verdictChanges).noticeVerdict l).lamps = s.lamps := State.offerAll_lamps _ _ _
  have hc : ((s.count .verdictChanges).noticeVerdict l).comb = s.comb := State.offerAll_comb _ _ _
  rw [State.verdictChanged, State.refreshPassive_comb, hc, State.showsPassive_lamps hl]

theorem State.verdictChanged_outbox (s : State) (l : Line) :
    (s.verdictChanged l).outbox = s.outbox.verdictNotice s l (s.lamps.get l).verdict := by
  have hp (t : State) : t.refreshPassive.outbox = t.outbox := rfl
  have hc : (s.count .verdictChanges).outbox = s.outbox := rfl
  rewrite [State.verdictChanged, hp, State.noticeVerdict_outbox, hc]
  exact Outbox.offerAll_settings rfl _ _ _

theorem State.verdictChanged_tallies (s : State) (l : Line) : (s.verdictChanged l).tallies = (s.count .verdictChanges).tallies := by
  have h : ((s.count .verdictChanges).noticeVerdict l).tallies = (s.count .verdictChanges).tallies := State.offerAll_tallies _ _ _
  rewrite [State.verdictChanged]
  generalize (s.count .verdictChanges).noticeVerdict l = t at h ⊢
  exact h

/-- A line's verdict record replaced, with the effects of a change of the verdict (R124). -/
def State.withVerdict (s : State) (l : Line) (v : VerdictRecord) : State :=
  let t := s.modifyLine l fun x => { x with verdict := v }
  if v.verdict = (s.lamps.get l).verdict.verdict then t else t.verdictChanged l

theorem State.classified_eq (s : State) (l : Line) (m u : Nat) :
    s.classified l m u = s.withVerdict l ((s.lamps.get l).verdict.debounce (s.figures l m u)) := rfl

theorem State.shortVerdict_eq (s : State) (l : Line) (m : Option (Nat × Nat)) :
    s.shortVerdict l m = s.withVerdict l ((s.lamps.get l).verdict.short m) := by
  unfold State.shortVerdict State.withVerdict
  dsimp only
  by_cases h : (s.lamps.get l).verdict.verdict = .short
  · exact (if_pos h).trans (if_pos (show Verdict.short = _ from h.symm)).symm
  · exact (if_neg h).trans (if_neg (show ¬ Verdict.short = _ from fun e => h e.symm)).symm

section
variable (s : State) (l : Line) (v : VerdictRecord)

theorem State.withVerdict_lamps :
    (s.withVerdict l v).lamps = s.lamps.set l { s.lamps.get l with verdict := v } := by
  unfold State.withVerdict
  dsimp only
  split
  · rfl
  · exact State.verdictChanged_lamps _ _

theorem State.withVerdict_comb : (s.withVerdict l v).comb = { s.comb with passiveLoad :=
    if v.verdict = (s.lamps.get l).verdict.verdict then s.comb.passiveLoad else (s.withVerdict l v).showsPassive } := by
  by_cases h : v.verdict = (s.lamps.get l).verdict.verdict
  · rewrite [if_pos h, State.withVerdict, if_pos h]
    rfl
  · have ht : s.withVerdict l v = (s.modifyLine l fun x => { x with verdict := v }).verdictChanged l := if_neg h
    rewrite [if_neg h, ht, State.verdictChanged_comb, State.showsPassive_lamps (State.verdictChanged_lamps _ l)]
    rfl

theorem State.withVerdict_outbox : (s.withVerdict l v).outbox =
    if v.verdict = (s.lamps.get l).verdict.verdict then s.outbox else s.outbox.verdictNotice s l v := by
  by_cases h : v.verdict = (s.lamps.get l).verdict.verdict
  · rewrite [if_pos h, State.withVerdict, if_pos h]
    rfl
  · rewrite [if_neg h, State.withVerdict, if_neg h, State.verdictChanged_outbox]
    have hv : ((s.modifyLine l fun x => { x with verdict := v }).lamps.get l).verdict = v := by simp [State.modifyLine]
    rewrite [hv]
    exact Outbox.offerAll_settings rfl _ _ _

theorem State.withVerdict_tallies : (s.withVerdict l v).tallies =
    if v.verdict = (s.lamps.get l).verdict.verdict then s.tallies else (s.count .verdictChanges).tallies := by
  by_cases h : v.verdict = (s.lamps.get l).verdict.verdict
  · rewrite [if_pos h, State.withVerdict, if_pos h]
    rfl
  · rewrite [if_neg h, State.withVerdict, if_neg h, State.verdictChanged_tallies]
    rfl

theorem State.withVerdict_changes : (s.withVerdict l v).counters.verdictChanges =
    if v.verdict = (s.lamps.get l).verdict.verdict then s.counters.verdictChanges else bumped s.counters.verdictChanges := by
  have h := congrArg Counters.verdictChanges (s.withVerdict_tallies l v)
  refine h.trans ?_
  split <;> rfl

/-- What an event of the Lamp Monitor leaves of the rest of the part. -/
theorem keeps_monitored {s t : State} (hnow : t.now = s.now) (hsense : t.sense = s.sense) (hline : t.line = s.line)
    (hwalker : t.walker = s.walker) (hunits : t.units = s.units) (hcache : t.cache = s.cache) (hflash : t.flash = s.flash)
    (hclaims : t.claims = s.claims) (hsettings : t.settings = s.settings) (hsetup : t.setup = s.setup)
    (hpending : t.pending = s.pending) (hin : t.inlets = s.inlets) :
    Keeps [.now, .sense, .line, .walker, .units, .cache, .flash, .claims, .slots, .settings, .setup, .portIn, .pending] s t :=
  keeps_cons hnow (keeps_cons hsense (keeps_cons hline (keeps_cons hwalker (keeps_cons hunits (keeps_cons hcache
    (keeps_cons hflash (keeps_cons hclaims (keeps_cons (slots_same hin) (keeps_cons hsettings (keeps_cons hsetup
    (keeps_cons (portIn_same hin) (keeps_cons hpending (keeps_nil _ _)))))))))))))

end

/-! ### A trip (R103, R108, R122) -/

/-- A line's record when it trips: OFF, TRIPPED while the count is below the setting, else LATCHED, and SHORT. -/
def LampLine.shorted (x : LampLine) (attemptsSetting now : Nat) (measured : Option (Nat × Nat)) : LampLine :=
  { x with
    on := false, offSince := now, timing := .idle, runSince := none
    trip := if x.attempts < attemptsSetting then .tripped else .latched
    restartSince := if x.attempts < attemptsSetting then some now else none
    verdict := x.verdict.short measured }

theorem LampLine.trip_eq (x : LampLine) (n now : Nat) : x.trip_ n now = { x with
    runSince := none, trip := if x.attempts < n then .tripped else .latched
    restartSince := if x.attempts < n then some now else none } := by
  unfold LampLine.trip_
  split <;> rfl

theorem switchLaw_tripped {r : Bool} {t : TripState} {f : Flash} {l : Line} (h : t ≠ .normal) : switchLaw r t f l = false := by
  simp [switchLaw, beq_false_of_ne h]

section
variable {s : State} {l : Line}

/-- The line tripped, before its verdict. -/
def State.tripped (s : State) (l : Line) : State :=
  (s.modifyLine l fun x => x.trip_ (s.setting .tripAttempts) s.now).resolveSwitches false

theorem State.tripped_self (hon : (s.lamps.get l).on = true) : (s.tripped l).lamps.get l = { s.lamps.get l with
    on := false, offSince := s.now, timing := .idle, runSince := none
    trip := if (s.lamps.get l).attempts < s.setting .tripAttempts then .tripped else .latched
    restartSince := if (s.lamps.get l).attempts < s.setting .tripAttempts then some s.now else none } := by
  have hx : (s.modifyLine l fun x => x.trip_ (s.setting .tripAttempts) s.now).lamps.get l
      = (s.lamps.get l).trip_ (s.setting .tripAttempts) s.now := by simp [State.modifyLine]
  rewrite [State.tripped, State.resolveSwitches_get, hx, LampLine.trip_eq, switchLaw_tripped, LampLine.follow_off]
  · rfl
  · exact hon
  · dsimp only
    split <;> decide

theorem State.modified_ne (h : SwitchesFollow s) {j : Line} (hj : j ≠ l) (f : LampLine → LampLine) (b : Bool) :
    ((s.modifyLine l f).resolveSwitches b).lamps.get j = s.lamps.get j := by
  have hx : (s.modifyLine l f).lamps.get j = s.lamps.get j := by simp [State.modifyLine, hj]
  rw [State.resolveSwitches_stays b (l := j) (by rw [hx]; exact (h j).1), hx]

theorem State.tripped_verdict (hon : (s.lamps.get l).on = true) :
    ((s.tripped l).lamps.get l).verdict = (s.lamps.get l).verdict := by
  rw [State.tripped_self hon]

theorem ite_short {α : Type} (v : VerdictRecord) (m : Option (Nat × Nat)) (a b : α) :
    (if (v.short m).verdict = v.verdict then a else b) = if v.verdict = .short then a else b := if_congr eq_comm rfl rfl

/-- The tripped line with its verdict SHORT. -/
def State.tripJudged (s : State) (l : Line) (m : Option (Nat × Nat)) : State :=
  (s.tripped l).withVerdict l ((s.lamps.get l).verdict.short m)

theorem State.tripLine_eq (hon : (s.lamps.get l).on = true) (m : Option (Nat × Nat)) :
    s.tripLine l m = ((s.tripJudged l m).count .trips).noticeTrip l := by
  have h := State.shortVerdict_eq (s.tripped l) l m
  rewrite [State.tripped_verdict hon] at h
  exact congrArg (fun t : State => (t.count .trips).noticeTrip l) h

theorem State.tripLine_lamps (hon : (s.lamps.get l).on = true) (m : Option (Nat × Nat)) : (s.tripLine l m).lamps
    = (s.tripped l).lamps.set l ((s.lamps.get l).shorted (s.setting .tripAttempts) s.now m) := by
  rewrite [State.tripLine_eq hon]
  refine (State.noticeTrip_lamps _ _).trans ((State.withVerdict_lamps _ _ _).trans ?_)
  rewrite [State.tripped_self hon]
  rfl

theorem State.tripLine_self (hon : (s.lamps.get l).on = true) (m : Option (Nat × Nat)) :
    (s.tripLine l m).lamps.get l = (s.lamps.get l).shorted (s.setting .tripAttempts) s.now m := by
  rw [State.tripLine_lamps hon, PerLine.get_set_self]

theorem State.tripLine_ne (h : SwitchesFollow s) (hon : (s.lamps.get l).on = true) {j : Line} (hj : j ≠ l)
    (m : Option (Nat × Nat)) : (s.tripLine l m).lamps.get j = s.lamps.get j := by
  rewrite [State.tripLine_lamps hon, PerLine.get_set_ne _ _ hj]
  exact State.modified_ne h hj _ false

theorem State.countedTrip_trips (s : State) (l : Line) :
    ((s.count .trips).noticeTrip l).counters.trips = bumped s.counters.trips := by
  have hread (t : State) : t.tallies.trips = t.counters.trips := rfl
  have h := congrArg Counters.trips ((s.count .trips).noticeTrip_tallies l)
  rewrite [hread, hread] at h
  exact h

theorem State.countedTrip_changes (s : State) (l : Line) :
    ((s.count .trips).noticeTrip l).counters.verdictChanges = s.counters.verdictChanges := by
  have hread (t : State) : t.tallies.verdictChanges = t.counters.verdictChanges := rfl
  have h := congrArg Counters.verdictChanges ((s.count .trips).noticeTrip_tallies l)
  rewrite [hread, hread] at h
  exact h

theorem State.tripLine_trips (hon : (s.lamps.get l).on = true) (m : Option (Nat × Nat)) :
    (s.tripLine l m).counters.trips = bumped s.counters.trips := by
  have h : (s.tripJudged l m).counters.trips = s.counters.trips := by
    refine (congrArg Counters.trips (State.withVerdict_tallies _ _ _)).trans ?_
    split <;> rfl
  exact (congrArg (fun t : State => t.counters.trips) (State.tripLine_eq hon m)).trans
    ((State.countedTrip_trips _ l).trans (congrArg bumped h))

theorem State.tripLine_changes (hon : (s.lamps.get l).on = true) (m : Option (Nat × Nat)) :
    (s.tripLine l m).counters.verdictChanges = if (s.lamps.get l).verdict.verdict = .short then s.counters.verdictChanges
      else bumped s.counters.verdictChanges := by
  have h := (s.tripped l).withVerdict_changes l ((s.lamps.get l).verdict.short m)
  rewrite [State.tripped_verdict hon, ite_short] at h
  exact (congrArg (fun t : State => t.counters.verdictChanges) (State.tripLine_eq hon m)).trans
    ((State.countedTrip_changes _ l).trans h)

theorem State.tripLine_comb (hon : (s.lamps.get l).on = true) (m : Option (Nat × Nat)) : (s.tripLine l m).comb =
    { s.comb with passiveLoad := if (s.lamps.get l).verdict.verdict = .short then s.comb.passiveLoad
        else (s.tripLine l m).showsPassive } := by
  have h := (s.tripped l).withVerdict_comb l ((s.lamps.get l).verdict.short m)
  rewrite [State.tripped_verdict hon, ite_short] at h
  have hp : (s.tripLine l m).showsPassive = (s.tripJudged l m).showsPassive :=
    State.showsPassive_lamps (by rw [State.tripLine_eq hon]; exact State.noticeTrip_lamps _ _)
  rewrite [hp, State.tripLine_eq hon]
  exact (State.noticeTrip_comb _ _).trans h

theorem State.tripLine_outbox (hon : (s.lamps.get l).on = true) (m : Option (Nat × Nat)) : (s.tripLine l m).outbox
    = (if (s.lamps.get l).verdict.verdict = .short then s.outbox
        else s.outbox.verdictNotice s l ((s.tripLine l m).lamps.get l).verdict).tripNotice s l ((s.tripLine l m).lamps.get l) := by
  have h := (s.tripped l).withVerdict_outbox l ((s.lamps.get l).verdict.short m)
  have hself : ((s.tripJudged l m).lamps.get l) = (s.tripLine l m).lamps.get l := by
    rewrite [State.tripLine_eq hon]
    rw [State.noticeTrip_lamps, State.count_lamps]
  have hset : (s.tripJudged l m).settings = s.settings := by
    unfold State.tripJudged State.withVerdict
    dsimp only
    split
    · rfl
    · exact State.verdictChanged_settings _ _
  rewrite [State.tripped_verdict hon, ite_short] at h
  have hv : (s.lamps.get l).verdict.short m = ((s.tripLine l m).lamps.get l).verdict := by
    rewrite [State.tripLine_self hon]
    rfl
  have ht := State.noticeTrip_outbox ((s.tripJudged l m).count .trips) l
  rewrite [← State.tripLine_eq hon] at ht
  refine ht.trans ((Outbox.offerAll_settings (s := s) hset _ _ _).trans ?_)
  rewrite [← hself]
  refine congrArg (fun o : Outbox => o.tripNotice s l ((s.tripJudged l m).lamps.get l)) (Eq.trans (a := ((s.tripJudged l m).count .trips).outbox) h ?_)
  rewrite [hself, ← hv]
  exact if_congr Iff.rfl rfl (Outbox.offerAll_settings rfl _ _ _)

theorem State.tripLine_keeps (s : State) (l : Line) (m : Option (Nat × Nat)) :
    Keeps [.now, .sense, .line, .walker, .units, .cache, .flash, .claims, .slots, .settings, .setup, .portIn, .pending] s
      (s.tripLine l m) :=
  keeps_monitored (s.tripLine_now l m) (s.tripLine_sense l m) (s.tripLine_line l m) (s.tripLine_walker l m)
    (s.tripLine_units l m) (s.tripLine_cache l m) (s.tripLine_flash l m) (s.tripLine_claims l m) (s.tripLine_settings l m)
    (s.tripLine_setup l m) (s.tripLine_pending l m) (s.tripLine_inlets l m)

end

/-! ### The event of a trip (R1, R124) -/

/-- An event that writes PASSIVE-LOAD alone of the combination: its notice follows a change of the flag. -/
theorem event_verified {f : State → State} {s u : State} {b : Bool} (hr : s.comb.heldInReset = false) (hf : f s = u)
    (hc : u.comb = { s.comb with passiveLoad := b }) : event f s = .next ((u.retimeAttach.retimePark).verified s) := by
  rewrite [event_running hr, hf, State.announce_eq_ite]
  have hiff : u.retimeAttach.retimePark.combSummary = s.combSummary
      ↔ u.retimeAttach.retimePark.comb.passiveLoad = s.comb.passiveLoad := by
    rewrite [State.combSummary_eq_iff]
    simp only [State.retimed_comb, hc, true_and]
  exact congrArg _ (if_congr hiff rfl rfl)

theorem passiveIs_retimed {s u : State} {b : Bool} (hc : u.comb = { s.comb with passiveLoad := b }) :
    PassiveIs s (u.retimeAttach.retimePark) b := by
  have h := u.retimed_comb
  rewrite [hc] at h
  exact h

/-- The record of a line that trips outside a measurement. -/
theorem LampLine.shorted_none (x : LampLine) (n now : Nat) : x.shorted n now none = { x with
    on := false, offSince := now, timing := .idle, runSince := none
    trip := if x.attempts < n then .tripped else .latched
    restartSince := if x.attempts < n then some now else none
    verdict := { x.verdict with
      verdict := .short, candidate := none, repeats := 0, difference := 0, estimate := 0, attributed := 0 } } := rfl

theorem exec_switchFault {s : State} {l : Line} (hr : s.comb.heldInReset = false) (hon : (s.lamps.get l).on = true)
    (hn : (s.lamps.get l).trip = .normal) : exec (.switchFaultIndication l) s
      = .next (((s.tripLine l none).retimeAttach.retimePark).verified s) := by
  dsimp only [exec, execSwitchFaultIndication]
  exact event_verified hr (if_pos ⟨hon, hn⟩) (State.tripLine_comb hon none)

/-! ### Restarts (R104) -/

/-- A line that the law switches after its record was changed otherwise. -/
theorem Switched.of_same {x x' y : LampLine} {l : Line} {now : Nat} {b : Bool} (h : Switched x' y l now b) (hon : x'.on = x.on)
    (ht : x'.timing = x.timing) (ha : x'.agree = x.agree) (ho : x'.offSince = x.offSince) : Switched x y l now b := by
  obtain ⟨h1, h2, h3, h4, h5⟩ := h
  rewrite [hon, ht, ha, ho] at h1
  rewrite [hon] at h2 h3
  rewrite [hon, ho] at h4
  rewrite [hon, ha] at h5
  exact ⟨h1, h2, h3, h4, h5⟩

section
variable {s : State} {l : Line}

/-- A line made NORMAL while it is requested: what the law makes of it. -/
theorem State.normalised (hq : s.requested l = true) {f : LampLine → LampLine} (hn : (f (s.lamps.get l)).trip = .normal) :
    ((s.modifyLine l f).resolveSwitches false).lamps.get l
      = (f (s.lamps.get l)).follow l (!isTurn l || s.flash.isOn) s.now false := by
  have hx : (s.modifyLine l f).lamps.get l = f (s.lamps.get l) := by simp [State.modifyLine]
  have hq' : (s.modifyLine l f).requested l = true := hq
  have hlaw : switchLaw true .normal s.flash l = (!isTurn l || s.flash.isOn) := rfl
  rewrite [State.resolveSwitches_get, hx, hn, hq']
  exact congrArg (fun w => LampLine.follow _ l w s.now false) hlaw

/-- The state a restart leaves. -/
def State.restartLine (s : State) (l : Line) (since : Nat) : State :=
  let t := s.reach (since + s.setting .restartDelay)
  (t.modifyLine l fun x => x.restarted t.now).resolveSwitches false

theorem exec_restartDelay {since : Nat} (hr : s.comb.heldInReset = false) (ht : (s.lamps.get l).trip = .tripped)
    (hs : (s.lamps.get l).restartSince = some since) :
    exec (.restartDelayExpiry l) s = .next ((s.restartLine l since).retimeAttach.retimePark) := by
  dsimp only [exec, execRestartDelayExpiry]
  refine event_quiet hr ?_ rfl
  rewrite [ht, hs]
  rfl

theorem State.restartLine_self {since : Nat} (hq : s.requested l = true) : (s.restartLine l since).lamps.get l
    = ((s.lamps.get l).restarted (s.restartLine l since).now).follow l (!isTurn l || s.flash.isOn)
        (s.restartLine l since).now false :=
  State.normalised (s := s.reach (since + s.setting .restartDelay)) hq rfl

end

/-- Settles O34: a fault trips the line, and the restart delay makes it NORMAL. -/
theorem faultsTripAndLinesRestart : Obligations.FaultsTripAndLinesRestart := by
  refine ⟨fun s l hr => ⟨fun hon hn hs => ?_, fun ht h => ?_⟩, fun s l since hr hs ht hsince => ?_⟩
  · have he := exec_switchFault hr hon hn
    have hself := (State.tripLine_self hon none).trans (LampLine.shorted_none _ _ _)
    have hne := fun j (hj : j ≠ l) => State.tripLine_ne hs hon hj none
    have htrips := State.tripLine_trips hon none
    have hchanges := State.tripLine_changes hon none
    have hout := State.tripLine_outbox hon none
    have hcomb := State.tripLine_comb hon none
    have hkeeps := s.tripLine_keeps l none
    generalize s.tripLine l none = t at *
    exact ⟨_, he, hself, hne, htrips, hchanges, hout, passiveIs_retimed hcomb, hkeeps.retimed⟩
  · dsimp only [exec, execSwitchFaultIndication]
    refine event_still hr (if_neg fun hc => ?_) ht rfl
    exact h.elim (fun h => by rw [h] at hc; exact absurd hc.1 (by decide)) fun h => h hc.2
  · have hq := hs.requested_of_trip (by rw [ht]; decide)
    have hself := State.restartLine_self (since := since) hq
    have hlaw : SwitchesFollow (s.restartLine l since) :=
      SwitchesFollow.modified (s := s.reach (since + s.setting .restartDelay)) (hs.of_same ⟨fun _ => ⟨rfl, rfl, rfl⟩, rfl, rfl⟩)
        hq _ false
    obtain ⟨hon, hsw⟩ := ((s.lamps.get l).restarted (s.restartLine l since).now).follow_switched l (!isTurn l || s.flash.isOn)
      (s.restartLine l since).now false
    rewrite [← hself] at hon hsw
    have hfield {α : Type} (g : LampLine → α) (hg : ∀ x w n, g (LampLine.follow x l w n false) = g x) :
        g ((s.restartLine l since).lamps.get l) = g ((s.lamps.get l).restarted (s.restartLine l since).now) := by
      rw [hself, hg]
    have hkeeps := (keeps_lamps_alone (s := s) (t := s.restartLine l since) rfl rfl rfl rfl rfl rfl rfl rfl rfl rfl rfl rfl
      rfl).append (keeps_cons (p := .flash) rfl (keeps_nil _ _))
    exact ⟨_, exec_restartDelay hr ht hsince, hlaw.retimed, rfl, hfield LampLine.trip (fun _ _ _ => LampLine.follow_trip _ _ _ _ _),
      hfield LampLine.attempts (fun _ _ _ => LampLine.follow_attempts _ _ _ _ _),
      hfield LampLine.runSince (fun _ _ _ => LampLine.follow_runSince _ _ _ _ _),
      hfield LampLine.restartSince (fun _ _ _ => LampLine.follow_restartSince _ _ _ _ _), hon,
      hsw.of_same rfl rfl rfl rfl, hfield LampLine.verdict (fun _ _ _ => LampLine.follow_verdict _ _ _ _ _),
      fun j hj => State.modified_ne (s := s.reach (since + s.setting .restartDelay))
        (hs.of_same ⟨fun _ => ⟨rfl, rfl, rfl⟩, rfl, rfl⟩) hj _ false,
      Keeps.retimed (Keeps.sub hkeeps (by decide))⟩

/-! ### LINE-RESET (R107) -/

/-- The state of a line that no timer of chapter 1 reads may change: its verdict stands. -/
theorem TimersFollow.lamps {s : State} (h : TimersFollow s) {lamps : PerLine LampLine}
    (hv : ∀ l, (lamps.get l).verdict = (s.lamps.get l).verdict) : TimersFollow { s with lamps } := by
  have ha : ({ s with lamps } : State).attached = s.attached := by simp only [State.attached, hv]
  have hd : ({ s with lamps } : State).attachDiffers = s.attachDiffers := by
    simp only [State.attachDiffers, ha]
  exact ⟨h.attach.trans hd.symm, fun hw => ⟨ha.trans (h.waiting hw).1, (h.waiting hw).2⟩, h.park⟩

section
variable {s : State} {e : IntakeEntry} {rest : List IntakeEntry} {l : Line}

/-- The decision of a LINE-RESET of a line. -/
theorem exec_lineReset (ht : Takes s 0x11 e rest 1) (hl : lineOfNumber (e.operand 2) = some l) : ∃ f,
    exec .lineReset s = event f s ∧ f s = if !s.hasRight e.slot .lineReset then (s.taken rest).answer e .refusedRights
      else if (s.lamps.get l).trip ≠ .latched then (s.taken rest).answer e .refusedState
      else (((s.taken rest).modifyLine l fun x => x.unlatched s.now).resolveSwitches false).answer e .done := by
  refine ⟨fun s => s.taking (isRequest codeLineReset) fun e s =>
      match lineOfNumber (e.operand 2) with
      | none => s.answer e .refusedRange
      | some l =>
        if !s.hasRight e.slot .lineReset then s.answer e .refusedRights
        else if (s.lamps.get l).trip ≠ .latched then s.answer e .refusedState
        else ((s.modifyLine l fun x => x.unlatched s.now).resolveSwitches false).answer e .done, rfl,
    (ht.taking (by decide) (by decide) _).trans ?_⟩
  rewrite [hl]
  rfl

/-- The lamps after a LINE-RESET. -/
def State.unlatchLine (s : State) (l : Line) : PerLine LampLine :=
  ((s.modifyLine l fun x => x.unlatched s.now).resolveSwitches false).lamps

theorem State.unlatchLine_verdict (s : State) (l j : Line) : ((s.unlatchLine l).get j).verdict = (s.lamps.get j).verdict := by
  rewrite [State.unlatchLine, State.resolveSwitches_get, LampLine.follow_verdict]
  by_cases h : j = l
  · subst h
    simp [State.modifyLine, LampLine.unlatched]
  · simp [State.modifyLine, h]

theorem exec_lineReset_done (ht : Takes s 0x11 e rest 1) (hf : TimersFollow s) (hl : lineOfNumber (e.operand 2) = some l)
    (hr : s.hasRight e.slot .lineReset = true) (hx : (s.lamps.get l).trip = .latched) :
    exec .lineReset s = .next { doneWith s e rest 0 0 0 0 with lamps := s.unlatchLine l } := by
  obtain ⟨f, he, hfs⟩ := exec_lineReset ht hl
  rewrite [hr, if_neg (by decide), if_neg (not_not.mpr hx)] at hfs
  rewrite [he]
  refine event_still ht.running (hfs.trans ?_) ((hf.answered e rest [responseFrame s e .done false 0 0 0 0]).lamps
    (lamps := s.unlatchLine l) fun j => s.unlatchLine_verdict l j) rfl
  exact State.answer_taken { s with lamps := s.unlatchLine l } e rest .done false [] 0 0 0 0 rfl

end

/-- Settles O35: the checks in their order, then the line as R97 has it. -/
theorem lineResetClearsLatch : Obligations.LineResetClearsLatch := by
  refine fun s e rest ht hf hs => ⟨fun h7 => ?_, fun l hl => ?_⟩
  · dsimp only [exec, execLineReset]
    refine event_answered ht.running hf ((ht.taking (by decide) (by decide) _).trans ?_)
    dsimp only
    rewrite [lineOfNumber_none h7]
    exact s.taken_refused e rest _
  · have hnum : lineOfNumber (e.operand 2) = some l := by rw [hl, lineOfNumber_lineNumber]
    obtain ⟨f, he, hfs⟩ := exec_lineReset ht hnum
    refine ⟨fun hr => ?_, fun hr hx => ?_, fun hr hx => ?_⟩
    · rewrite [hr] at hfs
      rewrite [he]
      exact event_answered ht.running hf (hfs.trans (s.taken_refused e rest _))
    · rewrite [hr, if_neg (by decide), if_pos hx] at hfs
      rewrite [he]
      exact event_answered ht.running hf (hfs.trans (s.taken_refused e rest _))
    · have hq := hs.requested_of_trip (l := l) (by rw [hx]; decide)
      have hself : (s.unlatchLine l).get l = ((s.lamps.get l).unlatched s.now).follow l (!isTurn l || s.flash.isOn) s.now false :=
        State.normalised hq rfl
      obtain ⟨hon, hsw⟩ := ((s.lamps.get l).unlatched s.now).follow_switched l (!isTurn l || s.flash.isOn) s.now false
      rewrite [← hself] at hon hsw
      have hlaw : SwitchesFollow ((s.modifyLine l fun x => x.unlatched s.now).resolveSwitches false) := hs.modified hq _ false
      have hfield {α : Type} (g : LampLine → α) (hg : ∀ x w n, g (LampLine.follow x l w n false) = g x) :
          g ((s.unlatchLine l).get l) = g ((s.lamps.get l).unlatched s.now) := by
        rw [hself, hg]
      refine ⟨_, exec_lineReset_done ht hf hnum hr hx, rfl, hlaw.of_same ⟨fun _ => ⟨rfl, rfl, rfl⟩, rfl, ?_⟩,
        hfield LampLine.trip (fun _ _ _ => LampLine.follow_trip _ _ _ _ _),
        hfield LampLine.attempts (fun _ _ _ => LampLine.follow_attempts _ _ _ _ _),
        hfield LampLine.runSince (fun _ _ _ => LampLine.follow_runSince _ _ _ _ _), hon,
        hsw.of_same rfl rfl rfl rfl, s.unlatchLine_verdict l l, fun j hj => State.modified_ne hs hj _ false⟩
      exact requestSets_of_inlets (t := s.setMissed e.slot false) (State.setMissed_inlets s _ _)

end Sys2Proof.Machine
end

section
/-! PROOFS. Measurements: O36, O37. -/
namespace Sys2Proof.Machine

/-! ### A measurement instant (R113 to R115) -/

theorem meanCurrent_eq (c1 c2 c3 c4 : Conversion) :
    meanCurrent c1 c2 c3 c4 = meanOf 20000 c1.current c2.current c3.current c4.current := by
  simp only [meanCurrent, meanOf, List.map_cons, List.map_nil, List.sum_cons, List.sum_nil, Nat.add_zero, Nat.add_assoc]
  rfl

theorem meanSupply_eq (c1 c2 c3 c4 : Conversion) :
    meanSupply c1 c2 c3 c4 = meanOf 3600 c1.supply c2.supply c3.supply c4.supply := by
  simp only [meanSupply, meanOf, List.map_cons, List.map_nil, List.sum_cons, List.sum_nil, Nat.add_zero, Nat.add_assoc]
  rfl

theorem MeasuredAt.due {s : State} {l : Line} {due : Nat} (h : MeasuredAt s l due) : s.measurementDue l = some due := by
  unfold State.measurementDue
  obtain ⟨t, ht, hd⟩ | ⟨t, ht, hd⟩ | ⟨t, ht, hlt, hd⟩ := h.instant
  · rewrite [ht, hd]
    rfl
  · rewrite [ht, hd]
    rfl
  · rewrite [ht, hd]
    exact if_pos hlt

section
variable {s : State} {l : Line} {due m u : Nat} {c1 c2 c3 c4 : Conversion}

/-- The effect of a measurement instant. -/
theorem MeasuredAt.measures (h : MeasuredAt s l due) (hm : m = meanOf 20000 c1.current c2.current c3.current c4.current)
    (hu : u = meanOf 3600 c1.supply c2.supply c3.supply c4.supply) :
    ∃ f, exec (.measurementInstant l c1 c2 c3 c4) s = event f s ∧ f s = (s.reach due).measure l m u := by
  refine ⟨fun s => match (s.lamps.get l).on, s.measurementDue l with
    | true, some due => (s.reach due).measure l (meanCurrent c1 c2 c3 c4) (meanSupply c1 c2 c3 c4)
    | _, _ => s, rfl, ?_⟩
  dsimp only
  rw [h.on, h.due, meanCurrent_eq, meanSupply_eq, hm, hu]

theorem LampLine.ranClear_eq (x : LampLine) (now : Nat) : x.ranClear now = { x with attempts := attemptsAfter x now } := by
  obtain ⟨on, trip, attempts, run, restart, off, agree, timing, verdict⟩ := x
  cases run with
  | none => rfl
  | some t =>
    simp only [LampLine.ranClear, attemptsAfter, Config.runClear]
    by_cases h : t + 1000 ≤ now
    · refine (if_pos h).trans ?_
      simp only [if_pos h]
    · refine (if_neg h).trans ?_
      simp only [if_neg h]

theorem State.presented_self (s : State) (l : Line) (m : Nat) : (s.presented l m).lamps.get l = { s.lamps.get l with
    attempts := attemptsAfter (s.lamps.get l) s.now, timing := timingAfter l s.now
    verdict := { (s.lamps.get l).verdict with presence := presenceAt s m } } := by
  simp only [State.presented, State.setPresence, State.modifyLine, PerLine.get_set_self, LampLine.ranClear_eq]
  rfl

theorem State.presented_ne (s : State) {l j : Line} (h : j ≠ l) (m : Nat) :
    (s.presented l m).lamps.get j = s.lamps.get j := by
  simp [State.presented, State.setPresence, State.modifyLine, h]

/-! ### A measurement that trips its line (R103) -/

/-- What a measurement instant itself leaves of the rest of the part, whatever it writes of its line. -/
theorem keeps_lamps_only {s t : State} (hcomb : t.comb = s.comb) (hsense : t.sense = s.sense) (hline : t.line = s.line)
    (hwalker : t.walker = s.walker) (hunits : t.units = s.units) (hcache : t.cache = s.cache) (hclaims : t.claims = s.claims)
    (hslots : t.slots = s.slots) (hsettings : t.settings = s.settings) (hsetup : t.setup = s.setup) (hport : t.port = s.port)
    (hcounters : t.counters = s.counters) (hpending : t.pending = s.pending) (hflash : t.flash = s.flash) :
    Keeps [.comb, .sense, .line, .walker, .units, .cache, .flash, .claims, .slots, .missed, .settings, .setup, .portIn, .portOut,
      .counters, .pending] s t := by
  have h := (keeps_lamps_alone hcomb hsense hline hwalker hunits hcache hclaims hslots hsettings hsetup hport hcounters
    hpending).append (keeps_cons (p := .flash) hflash (keeps_nil _ _))
  exact h.sub (by decide)

theorem State.setPresence_self (s : State) (l : Line) (p : Presence) : (s.setPresence l p).lamps.get l
    = { s.lamps.get l with verdict := { (s.lamps.get l).verdict with presence := p } } := PerLine.get_set_self _ _ _

theorem State.setPresence_ne (s : State) {l j : Line} (h : j ≠ l) (p : Presence) :
    (s.setPresence l p).lamps.get j = s.lamps.get j := PerLine.get_set_ne _ _ h

theorem Outbox.verdictNotice_settings {s t : State} (h : t.settings = s.settings) (o : Outbox) (l : Line) (v : VerdictRecord) :
    o.verdictNotice t l v = o.verdictNotice s l v := Outbox.offerAll_settings h _ _ _

theorem Outbox.tripNotice_settings {s t : State} (h : t.settings = s.settings) (o : Outbox) (l : Line) (x : LampLine) :
    o.tripNotice t l x = o.tripNotice s l x := Outbox.offerAll_settings h _ _ _

/-- The state in which a line whose current is too high trips. -/
def State.overcurrent (s : State) (l : Line) (due : Nat) : State := (s.reach due).setPresence l .loaded

theorem MeasuredAt.trips (h : MeasuredAt s l due) (hm : m = meanOf 20000 c1.current c2.current c3.current c4.current)
    (hu : u = meanOf 3600 c1.supply c2.supply c3.supply c4.supply) (h18 : 18000 ≤ m) :
    exec (.measurementInstant l c1 c2 c3 c4) s
      = .next ((((s.overcurrent l due).tripLine l (some (m, u))).retimeAttach.retimePark).verified s) := by
  obtain ⟨f, he, hf⟩ := h.measures hm hu
  have hon : ((s.overcurrent l due).lamps.get l).on = true := by
    rewrite [State.overcurrent, State.setPresence_self]
    exact h.on
  have hmeasure : (s.reach due).measure l m u = (s.overcurrent l due).tripLine l (some (m, u)) := if_pos h18
  rewrite [he]
  exact event_verified h.running (hf.trans hmeasure) (State.tripLine_comb hon (some (m, u)))

theorem SwitchesFollow.overcurrent (h : SwitchesFollow s) (l : Line) (due : Nat) : SwitchesFollow (s.overcurrent l due) :=
  (SwitchesFollow.of_same (t := s.reach due) h ⟨fun _ => ⟨rfl, rfl, rfl⟩, rfl, rfl⟩).of_same (switchesSame_setPresence _ l .loaded)

/-! ### A measurement that is skipped (R116) -/

theorem State.skips_of {s : State} {u : Nat} (h : u < 1800 ∨ 3200 < u ∨ (s.comb.state ≠ .detached ∧ s.comb.state ≠ .serving)
    ∨ s.comb.unsettled = true) : s.skips u = true := by
  simp only [State.skips, Bool.or_eq_true, decide_eq_true_eq, beq_iff_eq]
  obtain h | h | ⟨hd, hs⟩ | h := h
  · exact .inl (.inl (.inl (.inl (.inl h))))
  · exact .inl (.inl (.inl (.inl (.inr h))))
  · cases hc : s.comb.state with
    | detached => exact absurd hc hd
    | settling => exact .inl (.inl (.inl (.inr rfl)))
    | building => exact .inl (.inl (.inr rfl))
    | serving => exact absurd hc hs
    | parked => exact .inl (.inr rfl)
  · exact .inr h

theorem State.skips_not {s : State} {u : Nat} (h1 : 1800 ≤ u) (h2 : u ≤ 3200)
    (hc : s.comb.state = .detached ∨ s.comb.state = .serving) (hu : s.comb.unsettled = false) : s.skips u = false := by
  have hl : ¬ u < Config.supplyLow := Nat.not_lt.mpr h1
  have hh : ¬ Config.supplyHigh < u := Nat.not_lt.mpr h2
  obtain hc | hc := hc <;> simp only [State.skips, hc, hu, hl, hh, decide_false] <;> rfl

/-- The state that a skipped measurement leaves. -/
def State.skipped (s : State) (l : Line) (m : Nat) : State :=
  (s.presented l m).modifyLine l fun x => { x with verdict := { x.verdict with held := true } }

theorem State.skipped_self (s : State) (l : Line) (m : Nat) : (s.skipped l m).lamps.get l = { s.lamps.get l with
    attempts := attemptsAfter (s.lamps.get l) s.now, timing := timingAfter l s.now
    verdict := { (s.lamps.get l).verdict with presence := presenceAt s m, held := true } } := by
  simp only [State.skipped, State.modifyLine, PerLine.get_set_self, State.presented_self]

theorem State.skipped_ne (s : State) {l j : Line} (h : j ≠ l) (m : Nat) : (s.skipped l m).lamps.get j = s.lamps.get j :=
  (PerLine.get_set_ne _ _ h).trans (s.presented_ne h m)

theorem MeasuredAt.skips (h : MeasuredAt s l due) (hm : m = meanOf 20000 c1.current c2.current c3.current c4.current)
    (hu : u = meanOf 3600 c1.supply c2.supply c3.supply c4.supply) (hlt : m < 18000)
    (hs : u < 1800 ∨ 3200 < u ∨ (s.comb.state ≠ .detached ∧ s.comb.state ≠ .serving) ∨ s.comb.unsettled = true) :
    exec (.measurementInstant l c1 c2 c3 c4) s = .next (((s.reach due).skipped l m).retimeAttach.retimePark) := by
  obtain ⟨f, he, hf⟩ := h.measures hm hu
  have hskip : ((s.reach due).presented l m).skips u = true := State.skips_of hs
  have hmeasure : (s.reach due).measure l m u = (s.reach due).skipped l m :=
    (if_neg (Nat.not_le.mpr hlt)).trans (if_pos hskip)
  rewrite [he]
  exact event_quiet h.running (hf.trans hmeasure) rfl

end

/-- Settles O36: the two ways a measurement stays unclassified. -/
theorem measurementTripsOrIsSkipped : Obligations.MeasurementTripsOrIsSkipped := by
  refine ⟨fun s l due m u c1 c2 c3 c4 h hs hm hu h18 => ?_, fun s l due m u c1 c2 c3 c4 h hm hu hlt hskip => ?_⟩
  · have he := h.trips hm hu h18
    have hx : (s.overcurrent l due).lamps.get l = _ := State.setPresence_self (s.reach due) l .loaded
    have hon : ((s.overcurrent l due).lamps.get l).on = true := by
      rewrite [hx]
      exact h.on
    have hv : ((s.overcurrent l due).lamps.get l).verdict.verdict = (s.lamps.get l).verdict.verdict := by rw [hx]; rfl
    have hself := State.tripLine_self hon (some (m, u))
    rewrite [hx] at hself
    have hne := fun j (hj : j ≠ l) => (State.tripLine_ne (hs.overcurrent l due) hon hj (some (m, u))).trans
      (State.setPresence_ne (s.reach due) hj .loaded)
    have htrips := State.tripLine_trips hon (some (m, u))
    have hchanges := State.tripLine_changes hon (some (m, u))
    have hout := State.tripLine_outbox hon (some (m, u))
    have hcomb := State.tripLine_comb hon (some (m, u))
    have hnow := State.tripLine_now (s.overcurrent l due) l (some (m, u))
    have hkeeps := (s.overcurrent l due).tripLine_keeps l (some (m, u))
    rewrite [hv] at hchanges hout hcomb
    rewrite [Outbox.tripNotice_settings (s := s) (t := s.overcurrent l due) rfl,
      Outbox.verdictNotice_settings (s := s) (t := s.overcurrent l due) rfl] at hout
    generalize (s.overcurrent l due).tripLine l (some (m, u)) = t at *
    refine ⟨_, he, hnow, ?_, hne, htrips, hchanges, hout, passiveIs_retimed hcomb, Keeps.retimed ?_⟩
    · refine hself.trans ?_
      rewrite [show (t.retimeAttach.retimePark).now = _ from hnow]
      rfl
    · have hreach := keeps_lamps_only (s := s) (t := s.overcurrent l due) rfl rfl rfl rfl rfl rfl rfl rfl rfl rfl rfl rfl rfl rfl
      exact Keeps.trans (t := s.overcurrent l due) (hreach.sub (by decide)) (hkeeps.sub (by decide))
  · have hkeeps := keeps_lamps_only (s := s) (t := (s.reach due).skipped l m) rfl rfl rfl rfl rfl rfl rfl rfl rfl rfl rfl rfl rfl
      rfl
    exact ⟨_, h.skips hm hu hlt hskip, rfl, (s.reach due).skipped_self l m, fun j hj => (s.reach due).skipped_ne hj m,
      Keeps.retimed hkeeps⟩

/-! ### A measurement that is classified (R117 to R123) -/

/-- The deficit or the residual that a class carries (R119). -/
def Verdict.differenceAt (cls : Verdict) (e m : Nat) : Nat :=
  match cls with
  | .low => e - m
  | .high => m - e
  | .undeclared => m
  | _ => 0

theorem classify_isClass {e m lower upper threshold : Nat} {cls : Verdict} (h : IsClass e m lower upper threshold cls)
    (he : e ≤ 15000) : classify e m lower upper threshold = (cls, cls.differenceAt e m) := by
  unfold classify
  cases cls with
  | pending => exact h.elim
  | short => exact h.elim
  | oversubscribed => exact absurd h (Nat.not_lt.mpr he)
  | none => rw [if_pos h.1, if_pos h.2]; rfl
  | undeclared => rw [if_pos h.1, if_neg (Nat.not_lt.mpr h.2)]; rfl
  | low =>
    obtain ⟨h0, -, ht, hm⟩ := h
    rw [if_neg h0.ne', if_neg (Nat.not_lt.mpr ht), if_pos hm]; rfl
  | ok =>
    obtain ⟨h0, -, ht, hl, hm⟩ := h
    rw [if_neg h0.ne', if_neg (Nat.not_lt.mpr ht), if_neg (Nat.not_lt.mpr hl), if_pos hm]; rfl
  | high =>
    obtain ⟨h0, -, ht, hl, hm⟩ := h
    rw [if_neg h0.ne', if_neg (Nat.not_lt.mpr ht), if_neg (Nat.not_lt.mpr hl), if_neg (Nat.not_le.mpr hm)]; rfl
  | _ => -- OPEN, whose name is a keyword of Lean
    obtain ⟨h0, -, hm⟩ := h
    rw [if_neg h0.ne', if_pos hm]; rfl

theorem IsClass.oversubscribed {e m lower upper threshold : Nat} {cls : Verdict} (h : IsClass e m lower upper threshold cls)
    (he : 15000 < e) : cls = .oversubscribed := by
  cases cls with
  | oversubscribed => rfl
  | pending | short => exact h.elim
  | _ =>
    simp only [IsClass] at h
    omega

/-- The estimate of lamps out that goes with a class (R120). -/
def State.estimateAt (s : State) (l : Line) (cls : Verdict) (e m : Nat) : Nat :=
  if cls = .low then min (s.sumLoads l Load.n) (max 1 ((2 * (e - m) * s.sumLoads l Load.n + e) / (2 * e))) else 0

theorem State.figures_eq {s : State} {l : Line} {m u e lower upper : Nat} {cls : Verdict}
    (he : e = s.sumLoads l Load.r * u / 2400 + s.sumLoads l Load.c)
    (hl : lower = if 15000 < e then 0 else e - e * s.settings.toleranceLow.toNat / 64 - s.settings.toleranceFloor.toNat)
    (hu : upper = if 15000 < e then 0 else e + e * s.settings.toleranceHigh.toNat / 64 + s.settings.toleranceFloor.toNat)
    (hc : IsClass e m lower upper s.settings.openThreshold.toNat cls) :
    s.figures l m u = { cls, e, m, u, lower, upper, difference := cls.differenceAt e m, estimate := s.estimateAt l cls e m
                        attributed := if cls = .low then s.attribution l else 0 } := by
  unfold State.figures
  rewrite [show expectedLoad (s.sumLoads l Load.r) (s.sumLoads l Load.c) u = e from he.symm]
  by_cases h : 15000 < e
  · rewrite [if_pos h] at hl hu
    cases hc.oversubscribed h
    subst hl hu
    exact if_pos h
  · rewrite [if_neg h] at hl hu
    refine (if_neg h).trans ?_
    rewrite [show lowerBound e (s.setting .toleranceLow) (s.setting .toleranceFloor) = lower from hl.symm,
      show upperBound e (s.setting .toleranceHigh) (s.setting .toleranceFloor) = upper from hu.symm,
      show s.setting .openThreshold = s.settings.openThreshold.toNat from rfl]
    dsimp only
    rewrite [classify_isClass hc (Nat.not_lt.mp h)]
    cases cls <;> rfl

/-- A position of the attributed set is that of a unit that it was built from (R121). -/
theorem foldl_positionBits {p : Nat} (hp : 1 ≤ p) (h6 : p ≤ 6) : ∀ (us : List UnitRecord) (set : Byte),
    (∀ w ∈ us, 1 ≤ w.position) →
    (us.foldl (fun set u => set ||| positionBit u.position) set).getLsbD (p - 1)
      = (set.getLsbD (p - 1) || us.any fun w => w.position == p)
  | [], set, _ => by simp
  | w :: us, set, hpos => by
    have h1 := hpos w List.mem_cons_self
    have hbit : (positionBit w.position).getLsbD (p - 1) = (w.position == p) := by
      have h := inPositionSet_positionBit w.position p
      rewrite [inPositionSet, decide_eq_true (by omega : p ≠ 0), Bool.true_and] at h
      rewrite [h, Bool.eq_iff_iff]
      simp only [decide_eq_true_eq, beq_iff_eq]
      omega
    rw [List.foldl_cons, foldl_positionBits hp h6 us _ fun v hv => hpos v (List.mem_cons_of_mem _ hv), BitVec.getLsbD_or, hbit,
      List.any_cons, Bool.or_assoc]

theorem State.attribution_bit {s : State} (l : Line) (hpos : ∀ w ∈ s.units, 1 ≤ w.position) {p : Nat} (hp : 1 ≤ p) (h6 : p ≤ 6) :
    (s.attribution l).getLsbD (p - 1) = s.units.any fun w => w.position == p && w.state == .serving && w.generation == .b
      && w.lampFaults.getLsbD (lineNumber l) := by
  have hmem : ∀ w ∈ s.servingUnits.filter (fun u => u.generation == .b && inLineSet u.lampFaults l), 1 ≤ w.position :=
    fun w hw => hpos w (List.mem_of_mem_filter (List.mem_of_mem_filter hw))
  rewrite [State.attribution, foldl_positionBits hp h6 _ _ hmem, State.servingUnits, List.filter_filter, List.any_filter]
  refine (Bool.or_eq_right_iff_imp.mpr fun h => ?_).trans ?_
  · simp at h
  congr 1
  funext w
  simp only [inLineSet, Bool.and_comm, Bool.and_left_comm, Bool.and_assoc]

section
variable (v : VerdictRecord) (f : Figures)

theorem VerdictRecord.debounce_figures : (v.debounce f).lastE = f.e ∧ (v.debounce f).lastM = f.m ∧ (v.debounce f).lastU = f.u
    ∧ (v.debounce f).lower = f.lower ∧ (v.debounce f).upper = f.upper ∧ (v.debounce f).held = false
    ∧ (v.debounce f).presence = v.presence ∧ (v.debounce f).candidate = some f.cls
    ∧ (v.debounce f).repeats = if v.candidate = some f.cls then min 2 (v.repeats + 1) else 1 := by
  unfold VerdictRecord.debounce
  generalize hn : (if v.candidate = some f.cls then Nat.min 2 (v.repeats + 1) else 1) = n
  dsimp only
  by_cases h : f.cls = v.verdict ∨ n = 2
  · rewrite [if_pos h]
    exact ⟨rfl, rfl, rfl, rfl, rfl, rfl, rfl, rfl, rfl⟩
  · rewrite [if_neg h]
    exact ⟨rfl, rfl, rfl, rfl, rfl, rfl, rfl, rfl, rfl⟩

theorem VerdictRecord.debounce_confirms (h : f.cls = v.verdict ∨ (v.debounce f).repeats = 2) :
    (v.debounce f).verdict = f.cls ∧ (v.debounce f).difference = f.difference ∧ (v.debounce f).estimate = f.estimate
      ∧ (v.debounce f).attributed = f.attributed := by
  obtain ⟨-, -, -, -, -, -, -, -, hrep⟩ := v.debounce_figures f
  rewrite [hrep] at h
  have hd : v.debounce f = _ := if_pos h
  rewrite [hd]
  exact ⟨rfl, rfl, rfl, rfl⟩

theorem VerdictRecord.debounce_waits (h : f.cls ≠ v.verdict ∧ (v.debounce f).repeats ≠ 2) :
    (v.debounce f).verdict = v.verdict := by
  obtain ⟨-, -, -, -, -, -, -, -, hrep⟩ := v.debounce_figures f
  rewrite [hrep] at h
  have hd : v.debounce f = _ := if_neg (not_or.mpr h)
  rw [hd]

end

section
variable {s : State} {l : Line} {due m u : Nat} {c1 c2 c3 c4 : Conversion}

theorem MeasuredAt.classifies (h : MeasuredAt s l due) (hm : m = meanOf 20000 c1.current c2.current c3.current c4.current)
    (hu : u = meanOf 3600 c1.supply c2.supply c3.supply c4.supply) (hlt : m < 18000) (h1 : 1800 ≤ u) (h2 : u ≤ 3200)
    (hc : s.comb.state = .detached ∨ s.comb.state = .serving) (hun : s.comb.unsettled = false) :
    exec (.measurementInstant l c1 c2 c3 c4) s
      = .next ((((((s.reach due).presented l m).classified l m u).retimeAttach).retimePark).verified s) := by
  obtain ⟨f, he, hf⟩ := h.measures hm hu
  have hskip : ((s.reach due).presented l m).skips u = false := State.skips_not h1 h2 hc hun
  have hmeasure : (s.reach due).measure l m u = ((s.reach due).presented l m).classified l m u :=
    (if_neg (Nat.not_le.mpr hlt)).trans (if_neg (Bool.eq_false_iff.mp hskip))
  rewrite [he]
  exact event_verified h.running (hf.trans hmeasure) (State.withVerdict_comb _ _ _)

/-- A classified measurement changes lamps, outbox, tallies and PASSIVE-LOAD alone. -/
theorem State.classified_keeps (s : State) (l : Line) (m u : Nat) :
    Keeps [.now, .sense, .line, .walker, .units, .cache, .flash, .claims, .slots, .settings, .setup, .portIn, .pending] s
      (s.classified l m u) :=
  keeps_monitored (s.classified_now l m u) (s.classified_sense l m u) (s.classified_line l m u) (s.classified_walker l m u)
    (s.classified_units l m u) (s.classified_cache l m u) (s.classified_flash l m u) (s.classified_claims l m u)
    (s.classified_settings l m u) (s.classified_setup l m u) (s.classified_pending l m u) (s.classified_inlets l m u)

end

/-- Settles O37: the class and its figures, then what the debounce makes of them. -/
theorem measurementClassified : Obligations.MeasurementClassified := by
  intro s l due m u e lower upper cls c1 c2 c3 c4 h hm hu hlt h1 h2 hstate hun he hlower hupper hcls
  have hexec := h.classifies hm hu hlt h1 h2 hstate hun
  have hself := (s.reach due).presented_self l m
  have hne := fun j (hj : j ≠ l) => (s.reach due).presented_ne hj m
  have hv : (((s.reach due).presented l m).lamps.get l).verdict
      = { (s.lamps.get l).verdict with presence := presenceAt s m } := by rw [hself]; rfl
  have hfig : ((s.reach due).presented l m).figures l m u = _ := State.figures_eq he hlower hupper hcls
  have heq := State.classified_eq ((s.reach due).presented l m) l m u
  generalize ((s.reach due).presented l m).figures l m u = f at heq hfig
  rewrite [hv] at heq
  have hfigures := VerdictRecord.debounce_figures { (s.lamps.get l).verdict with presence := presenceAt s m } f
  have hconfirms := VerdictRecord.debounce_confirms { (s.lamps.get l).verdict with presence := presenceAt s m } f
  have hwaits := VerdictRecord.debounce_waits { (s.lamps.get l).verdict with presence := presenceAt s m } f
  generalize VerdictRecord.debounce _ f = w at heq hfigures hconfirms hwaits
  subst hfig
  have hlamps := State.withVerdict_lamps ((s.reach due).presented l m) l w
  have hchanges := State.withVerdict_changes ((s.reach due).presented l m) l w
  have hout := State.withVerdict_outbox ((s.reach due).presented l m) l w
  have hcomb := State.withVerdict_comb ((s.reach due).presented l m) l w
  rewrite [← heq] at hlamps hchanges hout hcomb
  rewrite [hv] at hchanges hout hcomb
  rewrite [Outbox.verdictNotice_settings (s := s) (t := (s.reach due).presented l m) rfl] at hout
  have hkeeps := ((s.reach due).presented l m).classified_keeps l m u
  have hnow : (((s.reach due).presented l m).classified l m u).now = _ := ((s.reach due).presented l m).classified_now l m u
  have hkept := keeps_lamps_only (s := s) (t := (s.reach due).presented l m) rfl rfl rfl rfl rfl rfl rfl rfl rfl rfl rfl rfl rfl rfl
  have hline : (((s.reach due).presented l m).classified l m u).lamps.get l = { s.lamps.get l with
      attempts := attemptsAfter (s.lamps.get l) (max s.now due), timing := timingAfter l (max s.now due), verdict := w } := by
    rewrite [hlamps, hself, PerLine.get_set_self]
    rfl
  have hother : ∀ j, j ≠ l → (((s.reach due).presented l m).classified l m u).lamps.get j = s.lamps.get j := fun j hj => by
    rewrite [hlamps, PerLine.get_set_ne _ _ hj]
    exact hne j hj
  generalize ((s.reach due).presented l m).classified l m u = t at *
  obtain ⟨hE, hM, hU, hlo, hup, hheld, hpres, hcand, hrep⟩ := hfigures
  have hw : ((t.retimeAttach.retimePark).lamps.get l) = _ := hline
  have hnow' : (t.retimeAttach.retimePark).now = max s.now due := hnow
  refine ⟨_, hexec, hnow', ?_⟩
  rewrite [hw, hnow']
  refine ⟨hE, hM, hU, hlo, hup, hheld, hpres, hcand, hrep, fun hc => ?_, hwaits, hchanges, hout, passiveIs_retimed hcomb,
    h.on, rfl, rfl, hother, Keeps.retimed (Keeps.trans (hkept.sub (by decide)) (hkeeps.sub (by decide)))⟩
  obtain ⟨hverdict, hdifference, hestimate, hattributed⟩ := hconfirms hc
  refine ⟨hverdict, hdifference, hestimate, fun hpos p hp h6 => ?_⟩
  rewrite [hattributed]
  by_cases hlow : cls = .low
  · subst hlow
    exact State.attribution_bit (s := s) l hpos hp h6
  · have hbeq : (cls == Verdict.low) = false := beq_eq_false_iff_ne.mpr hlow
    rewrite [if_neg hlow, hbeq]
    simp

end Sys2Proof.Machine
end

section
/-! PROOFS. LAMP-SET: O31. -/
namespace Sys2Proof.Machine

/-! ### A slot's request set replaced, line by line (R93 to R98, R105, R106) -/

/-- What a switch hands on depends on the phase-begin only where a turn line goes ON. -/
theorem Switched.phase {x y : LampLine} {l : Line} {now : Nat} {b c : Bool} (h : Switched x y l now b)
    (hb : y.on = true → isTurn l = true → b = c) : Switched x y l now c :=
  ⟨h.stays, h.steadyOn, fun hx hy hl => by rw [← hb hy hl]; exact h.turnOn hx hy hl, h.senseEnds, h.off⟩

section
variable {s : State} {k : Slot} {x : SlotState} {l : Line}

theorem LampLine.requestChanged_switch (x : LampLine) (b a : Bool) (now : Nat) : (x.requestChanged b a now).on = x.on
    ∧ (x.requestChanged b a now).timing = x.timing ∧ (x.requestChanged b a now).agree = x.agree
    ∧ (x.requestChanged b a now).offSince = x.offSince ∧ (x.requestChanged b a now).verdict = x.verdict := by
  unfold LampLine.requestChanged
  repeat' split
  all_goals exact ⟨rfl, rfl, rfl, rfl, rfl⟩

theorem State.changeSlot_requested : (s.changeSlot k x).requested l = inLineSet (requestedBy (s.slots.set k x)) l := rfl

theorem State.changeSlot_flash : (s.changeSlot k x).flash
    = if (s.changeSlot k x).requested .turnL || (s.changeSlot k x).requested .turnR then
        (match s.flash with
          | .stopped => .on s.now
          | f => f)
      else .stopped := by
  have h : (s.changeSlot k x).flash = s.flash.afterRequests
      ((s.changeSlot k x).requested .turnL || (s.changeSlot k x).requested .turnR) s.now := rfl
  rewrite [h]
  cases s.flash <;> rfl

theorem State.changeSlot_trips : ((s.changeSlot k x).lamps.get l).trip
      = ((s.lamps.get l).requestChanged (s.requested l) ((s.changeSlot k x).requested l) s.now).trip
    ∧ ((s.changeSlot k x).lamps.get l).attempts
      = ((s.lamps.get l).requestChanged (s.requested l) ((s.changeSlot k x).requested l) s.now).attempts
    ∧ ((s.changeSlot k x).lamps.get l).runSince
      = ((s.lamps.get l).requestChanged (s.requested l) ((s.changeSlot k x).requested l) s.now).runSince
    ∧ ((s.changeSlot k x).lamps.get l).restartSince
      = ((s.lamps.get l).requestChanged (s.requested l) ((s.changeSlot k x).requested l) s.now).restartSince := by
  rewrite [State.changeSlot_lamp]
  exact ⟨LampLine.follow_trip _ _ _ _ _, LampLine.follow_attempts _ _ _ _ _, LampLine.follow_runSince _ _ _ _ _,
    LampLine.follow_restartSince _ _ _ _ _⟩

theorem State.changeSlot_verdict : ((s.changeSlot k x).lamps.get l).verdict = (s.lamps.get l).verdict := by
  rewrite [State.changeSlot_lamp, LampLine.follow_verdict]
  exact (LampLine.requestChanged_switch _ _ _ _).2.2.2.2

/-- A line that is requested as before keeps its trip record. -/
theorem State.changeSlot_unchanged (h : (s.changeSlot k x).requested l = s.requested l) :
    ((s.changeSlot k x).lamps.get l).trip = (s.lamps.get l).trip
    ∧ ((s.changeSlot k x).lamps.get l).attempts = (s.lamps.get l).attempts
    ∧ ((s.changeSlot k x).lamps.get l).runSince = (s.lamps.get l).runSince
    ∧ ((s.changeSlot k x).lamps.get l).restartSince = (s.lamps.get l).restartSince := by
  have ht := State.changeSlot_trips (s := s) (k := k) (x := x) (l := l)
  rewrite [LampLine.requestChanged_same h.symm] at ht
  exact ht

theorem State.changeSlot_starts (hb : s.requested l = false) (ha : (s.changeSlot k x).requested l = true) :
    ((s.changeSlot k x).lamps.get l).runSince = some s.now := by
  obtain ⟨-, -, hrun, -⟩ := State.changeSlot_trips (s := s) (k := k) (x := x) (l := l)
  rewrite [hrun, hb, ha]
  rfl

theorem State.changeSlot_ends (hb : s.requested l = true) (ha : (s.changeSlot k x).requested l = false) :
    ((s.changeSlot k x).lamps.get l).trip = .normal ∧ ((s.changeSlot k x).lamps.get l).attempts = 0
      ∧ ((s.changeSlot k x).lamps.get l).restartSince = none := by
  obtain ⟨htrip, hattempts, -, hrestart⟩ := State.changeSlot_trips (s := s) (k := k) (x := x) (l := l)
  rewrite [htrip, hattempts, hrestart, hb, ha]
  exact ⟨rfl, rfl, rfl⟩

/-- A turn line that goes ON is requested, so that the Flash Generator runs. -/
theorem State.changeSlot_switched (hs : SwitchesFollow s) :
    Switched (s.lamps.get l) ((s.changeSlot k x).lamps.get l) l s.now (s.flash == .stopped) := by
  have hlaw := (hs.changeSlot k x l).1
  refine Switched.phase (b := s.flash == .stopped && (s.changeSlot k x).flash != .stopped) ?_ fun hon hl => ?_
  · rewrite [State.changeSlot_lamp]
    obtain ⟨h1, h2, h3, h4, -⟩ := (s.lamps.get l).requestChanged_switch (s.requested l) (inLineSet (requestedBy (s.slots.set k x)) l) s.now
    exact (LampLine.follow_switched _ _ _ _ _).2.of_same h1 h2 h3 h4
  · rewrite [hon] at hlaw
    have hf : (s.changeSlot k x).flash ≠ .stopped := by
      intro h
      simp [switchLaw, h, hl, Flash.isOn] at hlaw
    rw [bne_iff_ne.mpr hf, Bool.and_true]

theorem State.changeSlot_union : (s.changeSlot k x).requested l
    = allSlots.any fun j => (if j = k then x.requestSet else (s.slots.get j).requestSet).getLsbD (lineNumber l) := by
  rewrite [State.changeSlot_requested]
  cases k <;> simp [requestedBy, inLineSet, allSlots, PerSlot.set, PerSlot.get, Bool.or_assoc]

end

/-! ### A response that may wait (R162) -/

section
variable {s : State} {r : Response}

theorem State.deferResponse_waits (ht : s.tag r.slot ≠ 0xFF) (h : s.port.deferred ≠ [] ∨ 24 ≤ s.port.report.length) :
    s.deferResponse r = s.waitResponse r := by
  have he : ¬ s.slotEmpty r.slot = true := by
    simp only [State.slotEmpty, beq_iff_eq]
    exact ht
  refine (if_neg he).trans (if_neg fun hroom => ?_)
  rewrite [Bool.and_eq_true, List.isEmpty_iff, decide_eq_true_eq] at hroom
  obtain h | h := h
  · exact h hroom.1
  · exact absurd hroom.2 (Nat.not_lt.mpr (Nat.le_of_eq (Nat.sub_eq_zero_of_le h)))

/-- With none of its slot waiting, a LAMP-SET response joins the tail. -/
theorem State.waitResponse_new (h : ∀ d ∈ s.port.deferred, d.code = codeLampSet → d.slot ≠ r.slot) :
    s.waitResponse r = { s with port := { s.port with deferred := s.port.deferred ++ [r] } } := by
  have hd : displaces r s.port.deferred = false := by
    rewrite [displaces, List.any_eq_false]
    intro d hd hc
    have hc := of_decide_eq_true hc
    exact h d hd hc.2.1 hc.2.2
  rewrite [State.waitResponse, hd, joinDeferred_new r _ h]
  rfl

/-- It takes the place of the one of its slot that waits. -/
theorem State.waitResponse_displaces {before after : List Response} {d : Response} (hr : r.code = codeLampSet)
    (hs : s.port.deferred = before ++ d :: after) (hd : d.code = codeLampSet) (hk : d.slot = r.slot)
    (hb : ∀ y ∈ before, y.code = codeLampSet → y.slot ≠ r.slot) :
    s.waitResponse r = { s with port := { s.port with deferred := before ++ r :: after } }.setMissed r.slot true := by
  have hdis : displaces r s.port.deferred = true := by
    rewrite [displaces, List.any_eq_true]
    exact ⟨d, by simp [hs], decide_eq_true ⟨hr, hd, hk⟩⟩
  rewrite [State.waitResponse, hdis, hs, joinDeferred_replaces r d before after hr hd hk hb]
  rfl

theorem State.setMissed_slots_ne (s : State) {j k : Slot} (h : j ≠ k) (b : Bool) :
    (s.setMissed k b).slots.get j = s.slots.get j := by
  simp [State.setMissed, h]

theorem State.deferResponse_slots_ne (s : State) {j : Slot} (h : j ≠ r.slot) :
    (s.deferResponse r).slots.get j = s.slots.get j := by
  unfold State.deferResponse State.waitResponse
  repeat' split
  · rfl
  · exact State.setMissed_slots_ne _ h _
  · exact State.setMissed_slots_ne _ h _
  · rfl

/-- What a response that may wait leaves alone. -/
theorem State.deferResponse_keeps (s : State) (r : Response) : Keeps [.now, .comb, .sense, .line, .walker, .units, .cache, .lamps,
    .flash, .claims, .slots, .settings, .setup, .portIn, .counters, .pending] s (s.deferResponse r) :=
  keeps_cons (s.deferResponse_now r) (keeps_cons (comb_same (s.deferResponse_comb r)) (keeps_cons (s.deferResponse_sense r)
    (keeps_cons (s.deferResponse_line r) (keeps_cons (s.deferResponse_walker r) (keeps_cons (s.deferResponse_units r)
    (keeps_cons (s.deferResponse_cache r) (keeps_cons (s.deferResponse_lamps r) (keeps_cons (s.deferResponse_flash r)
    (keeps_cons (s.deferResponse_claims r) (keeps_cons (slots_same (s.deferResponse_inlets r))
    (keeps_cons (s.deferResponse_settings r) (keeps_cons (s.deferResponse_setup r)
    (keeps_cons (portIn_same (s.deferResponse_inlets r)) (keeps_cons (s.deferResponse_counters r)
    (keeps_cons (s.deferResponse_pending r) (keeps_nil _ _))))))))))))))))

end

/-! ### The frame of a LAMP-SET (R94, R156) -/

theorem coveredLines_eq (s : State) (k : Slot) : coveredLines (s.settings.slotWord.get k)
    = if s.hasRight k .lamps then 0xFF else if s.hasRight k .stopLine then 0x04 else 0x00 := rfl

theorem State.slotOfTag_some {s : State} {tag : Byte} {k : Slot} (h : s.slotOfTag tag = some k) : s.tag k ≠ 0xFF := by
  have hk := List.find?_some h
  rewrite [Bool.and_eq_true, Bool.not_eq_true', State.slotEmpty, beq_eq_false_iff_ne] at hk
  exact hk.1

/-- The state in which the new request set stands. -/
def State.lampsAsked (s : State) (k : Slot) (granted : Byte) : State :=
  s.changeSlot k { s.slots.get k with requestSet := granted, refreshSince := s.now, refreshExpired := false }

/-- The answer to a LAMP-SET (R94). -/
def lampAnswer (k : Slot) (sequence granted ignored : Byte) : Response :=
  { slot := k, code := 0x10, sequence, status := .done, clamped := false, data := [granted, ignored] }

theorem State.lampSet_silent {s : State} {k : Slot} {sequence lines wanted : Byte} (h : wanted.getLsbD 0 = false) :
    s.lampSet k sequence lines wanted = s.lampsAsked k (lines &&& coveredLines (s.settings.slotWord.get k)) :=
  if_neg (Bool.eq_false_iff.mp h)

theorem State.lampSet_answered {s : State} {k : Slot} {sequence lines wanted : Byte} (h : wanted.getLsbD 0 = true) :
    s.lampSet k sequence lines wanted = (s.lampsAsked k (lines &&& coveredLines (s.settings.slotWord.get k))).deferResponse
      (lampAnswer k sequence (lines &&& coveredLines (s.settings.slotWord.get k))
        (lines &&& ~~~(lines &&& coveredLines (s.settings.slotWord.get k)))) := if_pos h

def lampFrame (ident : Ident) (sequence lines wanted : Byte) : BusFrame :=
  { extended := true, remote := false, ident, lengthCode := 8, bytes := [codeLampSet, sequence, lines, wanted, 0, 0, 0, 0] }

section
variable {s : State} {ident : Ident} {sequence lines wanted : Byte} {k : Slot}

theorem State.acceptRequest_lamp (hk : s.slotOfTag (identTag ident) = some k) :
    s.acceptRequest (lampFrame ident sequence lines wanted) = s.lampSet k sequence lines wanted := by
  have h : s.slotOfTag (identTag (lampFrame ident sequence lines wanted).ident) = some k := hk
  rewrite [State.acceptRequest, h]
  rfl

theorem State.lampSet_comb : (s.lampSet k sequence lines wanted).comb = s.comb := by
  cases h : wanted.getLsbD 0 with
  | false => rw [State.lampSet_silent h]; rfl
  | true => rw [State.lampSet_answered h, State.deferResponse_comb]; rfl

theorem exec_lampSet (hr : s.comb.heldInReset = false) (hb : s.port.busOff = false) (hp : s.comb.state ≠ .parked)
    (hkind : identKind ident = 0x01) (hid : identBlock ident = s.block) (hk : s.slotOfTag (identTag ident) = some k) :
    exec (.lampSet ident sequence lines wanted) s
      = .next ((s.lampSet k sequence lines wanted).retimeAttach.retimePark) := by
  have hf : s.hearFrame (lampFrame ident sequence lines wanted) = s.lampSet k sequence lines wanted :=
    (State.hearFrame_request (f := lampFrame ident sequence lines wanted) hb rfl rfl hid hp hkind).trans (State.acceptRequest_lamp hk)
  exact event_quiet (f := fun s => s.hearFrame (lampFrame ident sequence lines wanted)) hr hf
    (by rw [State.combSummary, State.combFlags, State.lampSet_comb]; rfl)

theorem State.lampSet_inlets : (s.lampSet k sequence lines wanted).inlets
    = (s.lampsAsked k (lines &&& coveredLines (s.settings.slotWord.get k))).inlets := by
  cases h : wanted.getLsbD 0 with
  | false => rw [State.lampSet_silent h]
  | true => rw [State.lampSet_answered h, State.deferResponse_inlets]

theorem State.lampSet_lamps : (s.lampSet k sequence lines wanted).lamps
    = (s.lampsAsked k (lines &&& coveredLines (s.settings.slotWord.get k))).lamps := by
  cases h : wanted.getLsbD 0 with
  | false => rw [State.lampSet_silent h]
  | true => rw [State.lampSet_answered h, State.deferResponse_lamps]

theorem State.lampSet_flash : (s.lampSet k sequence lines wanted).flash
    = (s.lampsAsked k (lines &&& coveredLines (s.settings.slotWord.get k))).flash := by
  cases h : wanted.getLsbD 0 with
  | false => rw [State.lampSet_silent h]
  | true => rw [State.lampSet_answered h, State.deferResponse_flash]

theorem State.lampSet_slots_ne {j : Slot} (hj : j ≠ k) : (s.lampSet k sequence lines wanted).slots.get j = s.slots.get j := by
  have hu : ∀ g, (s.lampsAsked k g).slots.get j = s.slots.get j := fun g => PerSlot.get_set_ne _ _ hj
  cases h : wanted.getLsbD 0 with
  | false => rw [State.lampSet_silent h, hu]
  | true => rw [State.lampSet_answered h, State.deferResponse_slots_ne _ hj, hu]

/-- What a LAMP-SET leaves of the rest of the part. -/
theorem State.lampSet_keeps : Keeps [.now, .comb, .sense, .line, .walker, .units, .cache, .claims, .settings, .setup, .portIn,
    .counters, .pending] s (s.lampSet k sequence lines wanted) := by
  have hu : ∀ g, Keeps [.comb, .sense, .line, .walker, .units, .cache, .claims, .settings, .setup, .portIn, .portOut, .counters,
      .pending] s (s.lampsAsked k g) := fun g => keeps_beside_lamps rfl rfl rfl rfl rfl rfl rfl rfl rfl rfl rfl rfl
  have hnow : ∀ g, Part.now.same s (s.lampsAsked k g) := fun g => rfl
  cases h : wanted.getLsbD 0 with
  | false =>
    rewrite [State.lampSet_silent h]
    exact keeps_cons (hnow _) ((hu _).sub (by decide))
  | true =>
    rewrite [State.lampSet_answered h]
    exact Keeps.trans (keeps_cons (hnow _) ((hu _).sub (by decide))) ((State.deferResponse_keeps _ _).sub (by decide))

end

/-! ### What the lines show of the new set -/

section
variable {s t : State} {k : Slot} {granted : Byte}

theorem lampsAsked_record (h : t.inlets = (s.lampsAsked k granted).inlets) : (t.slots.get k).requestSet = granted
    ∧ (t.slots.get k).refreshSince = s.now ∧ (t.slots.get k).refreshExpired = false := by
  have hk := slots_same h k
  have hx : (s.lampsAsked k granted).slots.get k
      = { s.slots.get k with requestSet := granted, refreshSince := s.now, refreshExpired := false } := PerSlot.get_set_self _ _ _
  rewrite [hx] at hk
  exact ⟨congrArg SlotState.requestSet hk, congrArg SlotState.refreshSince hk, congrArg SlotState.refreshExpired hk⟩

theorem lampsAsked_missed (s : State) (k : Slot) (granted : Byte) : (s.lampsAsked k granted).missed k = s.missed k := by
  have h : (s.lampsAsked k granted).slots.get k = { s.slots.get k with
    requestSet := granted, refreshSince := s.now, refreshExpired := false } := PerSlot.get_set_self _ _ _
  rewrite [State.missed, h]
  rfl

theorem lampsAsked_frame (code sequence : Byte) (st : Status) (c : Bool) (d0 d1 d2 d3 : Byte) :
    frameTo (s.lampsAsked k granted) k code sequence st c d0 d1 d2 d3 = frameTo s k code sequence st c d0 d1 d2 d3 := by
  unfold frameTo
  rewrite [lampsAsked_missed]
  rfl

end

/-- Settles O31: the request set and the lines by the rules about `changeSlot`, the answer by those about `deferResponse`. -/
theorem lampSetReplacesRequestSet : Obligations.LampSetReplacesRequestSet := by
  intro s ident sequence lines wanted k granted hr hb hp hkind hid hk hs hg
  rewrite [← coveredLines_eq] at hg
  have htag := State.slotOfTag_some hk
  have he := exec_lampSet (sequence := sequence) (lines := lines) (wanted := wanted) hr hb hp hkind hid hk
  have hin := State.lampSet_inlets (s := s) (k := k) (sequence := sequence) (lines := lines) (wanted := wanted)
  have hlamps := State.lampSet_lamps (s := s) (k := k) (sequence := sequence) (lines := lines) (wanted := wanted)
  have hflash := State.lampSet_flash (s := s) (k := k) (sequence := sequence) (lines := lines) (wanted := wanted)
  have hother := fun j (hj : j ≠ k) => State.lampSet_slots_ne (s := s) (sequence := sequence) (lines := lines) (wanted := wanted) hj
  have hkeeps := State.lampSet_keeps (s := s) (k := k) (sequence := sequence) (lines := lines) (wanted := wanted)
  have hsilent := State.lampSet_silent (s := s) (k := k) (sequence := sequence) (lines := lines) (wanted := wanted)
  have hanswered := State.lampSet_answered (s := s) (k := k) (sequence := sequence) (lines := lines) (wanted := wanted)
  rewrite [← hg] at hin hlamps hflash hsilent hanswered
  generalize s.lampSet k sequence lines wanted = t at *
  have hreq : ∀ l, (t.retimeAttach.retimePark).requested l = (s.lampsAsked k granted).requested l :=
    requested_of_requestSets (t := t.retimeAttach.retimePark) (requestSets_of_inlets hin)
  have hline : ∀ l, (t.retimeAttach.retimePark).lamps.get l = (s.lampsAsked k granted).lamps.get l := fun l => by
    rewrite [← hlamps]
    rfl
  obtain ⟨hset, hsince, hmark⟩ := lampsAsked_record hin
  refine ⟨_, he, ?_, hset, hsince, hmark, hother, fun l => ?_, fun l hl => ?_, fun l hb ha => ?_, fun l hb ha => ?_, fun l => ?_,
    fun l => ?_, ?_, fun hw => ?_, fun hw hd hl => ?_, fun hw hroom => ?_, Keeps.retimed hkeeps⟩
  · exact ((hs.changeSlot k _).of_same (.of_fields hlamps hflash hin)).retimed
  · rewrite [hreq]
    exact State.changeSlot_union
  · rewrite [hreq] at hl
    rewrite [hline]
    exact State.changeSlot_unchanged hl
  · rewrite [hreq] at ha
    rewrite [hline]
    exact State.changeSlot_starts hb ha
  · rewrite [hreq] at ha
    rewrite [hline]
    exact State.changeSlot_ends hb ha
  · rewrite [hline]
    exact State.changeSlot_verdict
  · rewrite [hline]
    exact State.changeSlot_switched hs
  · rewrite [hreq, hreq]
    exact hflash.trans State.changeSlot_flash
  · rewrite [hsilent hw]
    exact ⟨lampsAsked_missed s k granted, rfl⟩
  · have hfree := State.deferResponse_free (s := s.lampsAsked k granted)
      (r := lampAnswer k sequence granted (lines &&& ~~~granted)) htag hd hl
    rewrite [lampAnswer, lampsAsked_frame] at hfree
    rewrite [hanswered hw, lampAnswer, hfree]
    exact ⟨rfl, hd, missed_set_self _ _⟩
  · rewrite [hanswered hw, State.deferResponse_waits (s := s.lampsAsked k granted)
      (r := lampAnswer k sequence granted (lines &&& ~~~granted)) htag hroom]
    refine ⟨?_, fun hnew => ?_, fun before d after hsplit hc hd hbefore => ?_⟩
    · unfold State.waitResponse
      split <;> rfl
    · rewrite [State.waitResponse_new (s := s.lampsAsked k granted) (r := lampAnswer k sequence granted (lines &&& ~~~granted)) hnew]
      exact ⟨lampsAsked_missed s k granted, rfl⟩
    · rewrite [State.waitResponse_displaces (s := s.lampsAsked k granted) (r := lampAnswer k sequence granted (lines &&& ~~~granted))
        rfl hsplit hc hd hbefore]
      exact ⟨congrArg SlotState.missed (PerSlot.get_set_self _ _ _), rfl⟩

end Sys2Proof.Machine
end

section
/-! PROOFS. Staleness and subscriptions: O38, O39. -/
namespace Sys2Proof.Machine

/-! ### The staleness threshold (R135, R139) -/

theorem Quality.ages_iff (q : Quality) : q.ages = true ↔ q = .good ∨ q = .clamped ∨ q = .sensorFault := by
  cases q <;> decide

section
variable {s : State} {p i : Nat} {f : FunctionEntry} {v : ValueRecord} {c : PollClass}

/-- The state in which the value has become STALE and the notices of the change are offered. -/
def State.staled (s : State) (p i : Nat) (v : ValueRecord) (c : PollClass) : State :=
  ((s.reach (v.answeredAt + s.staleAfter c)).writeValue p i { v with quality := .stale }).testSubscriptions p i v.quality

/-- What the threshold of an entry in the poll ring does. -/
theorem exec_stalenessThreshold (hs : s.servingAt p = true) (hf : s.entryAt p i = some f) (hv : f.value = some v)
    (hc : f.poll = some c) :
    ∃ g, exec (.stalenessThreshold p i) s = event g s ∧ g s = if v.quality.ages then s.staled p i v c else s := by
  refine ⟨_, rfl, ?_⟩
  obtain ⟨index, code, cls, min, max, poll, value, subs⟩ := f
  obtain rfl : value = some v := hv
  obtain rfl : poll = some c := hc
  rewrite [if_pos hs, hf]
  rfl

theorem State.staled_comb : (s.staled p i v c).comb = s.comb := State.testSubscriptions_comb _ _ _ _

theorem State.staled_keeps : Keeps [.comb, .sense, .line, .walker, .cache, .lamps, .flash, .claims, .slots, .settings, .setup,
    .portIn, .pending] s (s.staled p i v c) :=
  keeps_cons (comb_same State.staled_comb) (keeps_cons (State.testSubscriptions_sense _ _ _ _)
    (keeps_cons (State.testSubscriptions_line _ _ _ _) (keeps_cons (State.testSubscriptions_walker _ _ _ _)
    (keeps_cons (State.testSubscriptions_cache _ _ _ _) (keeps_cons (State.testSubscriptions_lamps _ _ _ _)
    (keeps_cons (State.testSubscriptions_flash _ _ _ _) (keeps_cons (State.testSubscriptions_claims _ _ _ _)
    (keeps_cons (slots_same (State.testSubscriptions_inlets _ _ _ _)) (keeps_cons (State.testSubscriptions_settings _ _ _ _)
    (keeps_cons (State.testSubscriptions_setup _ _ _ _) (keeps_cons (portIn_same (State.testSubscriptions_inlets _ _ _ _))
    (keeps_cons (State.testSubscriptions_pending _ _ _ _) (keeps_nil _ _)))))))))))))

theorem State.staled_unitAt_ne {q : Nat} (hq : q ≠ p) : (s.staled p i v c).unitAt q = s.unitAt q := by
  rewrite [State.staled, State.testSubscriptions_unitAt_ne hq, State.writeValue, State.unitAt_modifyEntry_ne _ hq]
  rfl

end

/-- Settles O38: the threshold is the writing of a value record, and its notices those of any such writing. -/
theorem stalenessMarksValue : Obligations.StalenessMarksValue := by
  intro s p i f v c hr hs hf hv hc
  obtain ⟨g, he, hg⟩ := exec_stalenessThreshold hs hf hv hc
  refine ⟨fun hq => ?_, fun ht hq => ?_⟩
  · rewrite [if_pos (v.quality.ages_iff.mpr hq)] at hg
    obtain ⟨h, hent, hval, hframe, hnotices⟩ := State.changeNotices_of_written (s := s)
      (u := s.reach (v.answeredAt + s.staleAfter c)) rfl rfl hf v.quality { v with quality := .stale }
    have hnow : (s.staled p i v c).now = _ := State.testSubscriptions_now _ _ _ _
    have hcomb := State.staled_comb (s := s) (p := p) (i := i) (v := v) (c := c)
    have hother := fun q (hq : q ≠ p) => State.staled_unitAt_ne (s := s) (i := i) (v := v) (c := c) hq
    have hkeeps := State.staled_keeps (s := s) (p := p) (i := i) (v := v) (c := c)
    rewrite [← State.staled] at hent hnotices
    generalize s.staled p i v c = t at *
    rw [he, event_quiet hr hg (by rw [State.combSummary, State.combFlags, hcomb]; rfl)]
    exact ⟨_, h, rfl, hnow, hent, hval, hframe, ⟨hnotices.sent, hnotices.moved⟩, hother, Keeps.retimed hkeeps⟩
  · have hn : ¬ v.quality.ages = true := by
      rewrite [v.quality.ages_iff]
      obtain h | h := hq <;> simp [h]
    rewrite [if_neg hn] at hg
    rw [he, event_still hr hg ht rfl]

/-! ### Subscriptions (R137, R138) -/

section
variable {s : State} {e : IntakeEntry} {rest : List IntakeEntry}

theorem IntakeEntry.delta_eq (h : 8 ≤ e.data.length) : e.delta = 256 * e.operand 4 + e.operand 5 := by
  rewrite [IntakeEntry.delta, IntakeEntry.operands_succ (by omega), IntakeEntry.operands_succ (by omega), IntakeEntry.operands_zero]
  simp [natOfBytes, IntakeEntry.operand]

/-- A request for a SENSOR entry that is not there, or on a unit that is not SERVING. -/
theorem State.sensorAt_serving_none {p i : Nat} (h : s.servingAt p = false ∨ s.entryAt p i = none
    ∨ ∃ f, s.entryAt p i = some f ∧ f.cls ≠ .sensor) : s.sensorAt servingOnly p i = none := by
  obtain h | h := h
  · unfold State.sensorAt
    unfold State.servingAt at h
    cases hu : s.unitAt p with
    | none => rfl
    | some u =>
      rewrite [hu] at h
      exact if_neg (Bool.eq_false_iff.mp h)
  · exact State.sensorAt_none h

theorem State.sensorAt_serving {p i : Nat} {f : FunctionEntry} {v : ValueRecord} (hs : s.servingAt p = true)
    (hf : s.entryAt p i = some f) (hc : f.cls = .sensor) (hv : f.value = some v) :
    s.sensorAt servingOnly p i = some (f, v) := by
  unfold State.servingAt at hs
  cases hu : s.unitAt p with
  | none => simp [hu] at hs
  | some u =>
    rewrite [hu] at hs
    exact State.sensorAt_some hu hs hf hc hv

/-- A subscription written at the taking, and its answer. -/
theorem State.taken_setSubscription (p i : Nat) (k : Slot) (b : Option Subscription) (data : List Byte) :
    ((s.taken rest).setSubscription p i k b).answer e .done data
      = { doneWith s e rest (byteAt data 0) (byteAt data 1) (byteAt data 2) (byteAt data 3) with
          units := (s.setSubscription p i k b).units } :=
  State.taken_done { s with units := (s.setSubscription p i k b).units } e rest data

theorem State.setSubscription_entryAt {p i : Nat} {f : FunctionEntry} (hf : s.entryAt p i = some f) (k : Slot)
    (b : Option Subscription) : (s.setSubscription p i k b).entryAt p i = some { f with subs := f.subs.set k b } := by
  rewrite [State.setSubscription, State.entryAt_modifyEntry, hf]
  · rfl
  · exact fun _ => rfl

theorem State.setSubscription_unitAt_ne {p q : Nat} (h : q ≠ p) (i : Nat) (k : Slot) (b : Option Subscription) :
    (s.setSubscription p i k b).unitAt q = s.unitAt q := State.unitAt_modifyEntry_ne s h i _

theorem subscribeOperands (h1 : 1 ≤ e.operand 2) (h6 : e.operand 2 ≤ 6) (h31 : e.operand 3 ≤ 31) (hd : e.delta ≤ 32767) :
    ¬ (!validPosition (e.operand 2) || !validIndex (e.operand 3) || decide (Config.maxDelta < e.delta)) = true := by
  have hmax : Config.maxDelta = 32767 := rfl
  simp only [validPosition, validIndex, Bool.or_eq_true, Bool.not_eq_true', Bool.and_eq_false_iff, decide_eq_false_iff_not,
    decide_eq_true_eq]
  omega

theorem functionOperands (h1 : 1 ≤ e.operand 2) (h6 : e.operand 2 ≤ 6) (h31 : e.operand 3 ≤ 31) :
    ¬ (!validPosition (e.operand 2) || !validIndex (e.operand 3)) = true := by
  simp only [validPosition, validIndex, Bool.or_eq_true, Bool.not_eq_true', Bool.and_eq_false_iff, decide_eq_false_iff_not]
  omega

theorem functionOperands_outside (h : e.operand 2 < 1 ∨ 6 < e.operand 2 ∨ 31 < e.operand 3) :
    (!validPosition (e.operand 2) || !validIndex (e.operand 3)) = true := by
  simp only [validPosition, validIndex, Bool.or_eq_true, Bool.not_eq_true', Bool.and_eq_false_iff, decide_eq_false_iff_not]
  omega

theorem exec_senseSubscribe (ht : Takes s 0x31 e rest 1) : exec .senseSubscribe s
    = .next (if !validPosition (e.operand 2) || !validIndex (e.operand 3) || decide (Config.maxDelta < e.delta) then
        refusedWith s e rest .refusedRange
      else
        match s.sensorAt servingOnly (e.operand 2) (e.operand 3) with
        | none => refusedWith s e rest .refusedState
        | some (_, v) => { doneWith s e rest (hiSigned v.value) (loSigned v.value) (byteOf (qualityCode v.quality)) 0 with
            units := (s.setSubscription (e.operand 2) (e.operand 3) e.slot (some ⟨e.delta, v.value⟩)).units }) := by
  dsimp only [exec, execSenseSubscribe]
  rewrite [Takes.decided (code := codeSenseSubscribe) ht (by decide) (by decide)]
  refine congrArg _ (if_congr Iff.rfl (s.taken_refused e rest _) ?_)
  have hsame : (s.taken rest).sensorAt servingOnly (e.operand 2) (e.operand 3)
      = s.sensorAt servingOnly (e.operand 2) (e.operand 3) := rfl
  rewrite [hsame]
  cases s.sensorAt servingOnly (e.operand 2) (e.operand 3) with
  | none => exact s.taken_refused e rest _
  | some x => exact State.taken_setSubscription _ _ _ _ _

theorem exec_senseUnsubscribe (ht : Takes s 0x32 e rest 1) : exec .senseUnsubscribe s
    = .next (if !validPosition (e.operand 2) || !validIndex (e.operand 3) then refusedWith s e rest .refusedRange
      else
        match s.sensorAt servingOnly (e.operand 2) (e.operand 3) with
        | none => refusedWith s e rest .refusedState
        | some (f, _) => { doneWith s e rest (flagByte (f.subs.get e.slot).isSome) 0 0 0 with
            units := (s.setSubscription (e.operand 2) (e.operand 3) e.slot none).units }) := by
  dsimp only [exec, execSenseUnsubscribe]
  rewrite [Takes.decided (code := codeSenseUnsubscribe) ht (by decide) (by decide)]
  refine congrArg _ (if_congr Iff.rfl (s.taken_refused e rest _) ?_)
  have hsame : (s.taken rest).sensorAt servingOnly (e.operand 2) (e.operand 3)
      = s.sensorAt servingOnly (e.operand 2) (e.operand 3) := rfl
  rewrite [hsame]
  cases s.sensorAt servingOnly (e.operand 2) (e.operand 3) with
  | none => exact s.taken_refused e rest _
  | some x => exact State.taken_setSubscription _ _ _ _ _

end

/-- Settles O39: the checks in order, then the subscription of the sending slot. -/
theorem subscriptionsWritten : Obligations.SubscriptionsWritten := by
  refine ⟨fun s e rest ht => ?_, fun s e rest ht => ?_⟩
  · have he := exec_senseSubscribe ht
    have hd := IntakeEntry.delta_eq ht.whole
    refine ⟨fun h => ?_, fun h1 h6 h31 hmax => ⟨fun h => ?_, fun f v hs hf hc hv => ?_⟩⟩
    · have hmax : Config.maxDelta = 32767 := rfl
      rw [he, if_pos]
      simp only [validPosition, validIndex, hd, Bool.or_eq_true, Bool.not_eq_true', Bool.and_eq_false_iff,
        decide_eq_false_iff_not, decide_eq_true_eq]
      omega
    · rw [he, if_neg (subscribeOperands h1 h6 h31 (by omega)), State.sensorAt_serving_none h]
    · rewrite [he, if_neg (subscribeOperands h1 h6 h31 (by omega)), State.sensorAt_serving hs hf hc hv, hd]
      exact ⟨_, rfl, rfl, State.setSubscription_entryAt hf _ _, fun q hq => State.setSubscription_unitAt_ne hq _ _ _⟩
  · have he := exec_senseUnsubscribe ht
    refine ⟨fun h => ?_, fun h1 h6 h31 => ⟨fun h => ?_, fun f v hs hf hc hv => ?_⟩⟩
    · rw [he, if_pos (functionOperands_outside h)]
    · rw [he, if_neg (functionOperands h1 h6 h31), State.sensorAt_serving_none h]
    · rewrite [he, if_neg (functionOperands h1 h6 h31), State.sensorAt_serving hs hf hc hv]
      exact ⟨_, rfl, rfl, State.setSubscription_entryAt hf _ _, fun q hq => State.setSubscription_unitAt_ne hq _ _ _⟩

end Sys2Proof.Machine
end

section
/-! PROOFS. The commands of the claims: O40 to O43. -/
namespace Sys2Proof.Machine

/-! ### A command handed over, a claim ended (R36, R145, R150) -/

theorem State.claimOn_key {s : State} {p i : Nat} {c : Claim} (h : s.claimOn p i = some c) : c.position = p ∧ c.index = i := by
  have hc := List.find?_some h
  rwa [Bool.and_eq_true, beq_iff_eq, beq_iff_eq] at hc

@[simp] theorem State.putClaim_claims_length (s : State) (c : Claim) : (s.putClaim c).claims.length = s.claims.length :=
  List.length_map _

theorem UrgentEntry.serves_iff (e : UrgentEntry) (p i : Nat) : e.serves p i = decide (e.position = p ∧ e.index = i) := by
  simp [UrgentEntry.serves, beq_eq_decide]

section
variable (s : State) (c : Claim)

theorem State.superseded_eq : s.superseded c = if c.entry = some .waiting then
    (s.line.urgent.filter fun d => d.serves c.position c.index).flatMap fun d => d.responses .superseded false else [] := by
  have hserves : (fun d : UrgentEntry => d.serves c.position c.index)
      = fun x => decide (x.position = c.position ∧ x.index = c.index) := funext fun d => d.serves_iff _ _
  rewrite [State.superseded, hserves]
  refine if_congr Iff.rfl (congrArg (fun g => List.flatMap g _) (funext fun d => ?_)) rfl
  rewrite [UrgentEntry.responses]
  cases d.requester <;> rfl

theorem State.superseded_code : ∀ r ∈ s.superseded c, r.code ≠ codeLampSet := by
  intro r hr
  rewrite [State.superseded_eq] at hr
  split at hr
  · obtain ⟨d, -, hd⟩ := List.mem_flatMap.mp hr
    cases hq : d.requester with
    | none => simp [UrgentEntry.responses, hq] at hd
    | some q =>
      simp only [UrgentEntry.responses, hq, List.mem_singleton] at hd
      rewrite [hd]
      exact (by decide : codeActuate ≠ codeLampSet)
  · cases hr

/-- The claim and the queue first, then the answer to the requester whose command gives way. -/
theorem State.handCommand_eq (e : UrgentEntry) : s.handCommand c e
    = (State.putClaim { s with line := { s.line with urgent := s.withCommand c e } } { c with entry := some .waiting }).deferAll
        (s.superseded c) := by
  obtain ⟨position, index, holder, cls, state, lastRun, entry, stopMark⟩ := c
  rewrite [State.superseded_eq, State.withCommand, State.handCommand]
  cases entry with
  | none => rfl
  | some x =>
    cases x with
    | waiting => simp only [UrgentEntry.serves_iff, decide_eq_true_eq, if_true]
    | inFlight => rfl

theorem State.endClaim_eq : s.endClaim c = ({ s.removeClaim c.position c.index with line := if c.entry = some .waiting then
    { s.line with urgent := s.line.urgent.filter fun x => !decide (x.position = c.position ∧ x.index = c.index) }
    else s.line } : State).deferAll (s.superseded c) := by
  obtain ⟨position, index, holder, cls, state, lastRun, entry, stopMark⟩ := c
  rewrite [State.superseded_eq, State.endClaim]
  cases entry with
  | none => rfl
  | some x =>
    cases x with
    | waiting =>
      simp only [UrgentEntry.serves_iff, if_true]
      rfl
    | inFlight => rfl

theorem State.handCommand_line (e : UrgentEntry) :
    (s.handCommand c e).line = { s.line with urgent := s.withCommand c e } := by
  rewrite [State.handCommand_eq, State.deferAll_line]
  rfl

theorem State.handCommand_outbox (e : UrgentEntry) :
    (s.handCommand c e).outbox = s.outbox.respondAll s (s.superseded c) := by
  rewrite [State.handCommand_eq, State.deferAll_outbox _ _ (s.superseded_code c)]
  exact Outbox.respondAll_settings rfl _ _

theorem State.endClaim_outbox : (s.endClaim c).outbox = s.outbox.respondAll s (s.superseded c) := by
  rewrite [State.endClaim_eq, State.deferAll_outbox _ _ (s.superseded_code c)]
  exact Outbox.respondAll_settings rfl _ _

theorem State.endClaim_line : (s.endClaim c).line = if c.entry = some .waiting then
    { s.line with urgent := s.line.urgent.filter fun x => !decide (x.position = c.position ∧ x.index = c.index) }
    else s.line := by
  rw [State.endClaim_eq, State.deferAll_line]

theorem State.handCommand_claims (e : UrgentEntry) :
    (s.handCommand c e).claims = (s.putClaim { c with entry := some .waiting }).claims := by
  rewrite [State.handCommand_eq, State.deferAll_claims]
  rfl

theorem State.endClaim_claims : (s.endClaim c).claims = (s.removeClaim c.position c.index).claims := by
  rw [State.endClaim_eq, State.deferAll_claims]

variable {s c}

theorem State.handCommand_claimOn {p i : Nat} {d : Claim} (h : s.claimOn p i = some d) (hp : c.position = p) (hi : c.index = i)
    (e : UrgentEntry) : (s.handCommand c e).claimOn p i = some { c with entry := some .waiting } := by
  obtain ⟨hdp, hdi⟩ := State.claimOn_key h
  have hc := State.claimOn_putClaim_self (d := { c with entry := some .waiting }) h (hp.trans hdp.symm) (hi.trans hdi.symm)
  rewrite [State.claimOn, State.handCommand_claims]
  exact hc

theorem State.handCommand_claimOn_ne {p i : Nat} (h : p ≠ c.position ∨ i ≠ c.index) (e : UrgentEntry) :
    (s.handCommand c e).claimOn p i = s.claimOn p i := by
  have hc := State.claimOn_putClaim_ne s (d := { c with entry := some .waiting }) h
  rewrite [State.claimOn, State.handCommand_claims]
  exact hc

theorem State.endClaim_claimOn : (s.endClaim c).claimOn c.position c.index = none := by
  rewrite [State.claimOn, State.endClaim_claims]
  exact s.claimOn_removeClaim_self c.position c.index

theorem State.endClaim_claimOn_ne {p i : Nat} (h : p ≠ c.position ∨ i ≠ c.index) :
    (s.endClaim c).claimOn p i = s.claimOn p i := by
  rewrite [State.claimOn, State.endClaim_claims]
  exact State.claimOn_removeClaim_ne s h

/-- What a command handed over and a notice of its claim leave of the rest of the part. -/
def noticeFrame : List Part := [.now, .comb, .sense, .walker, .units, .cache, .lamps, .flash, .slots, .settings, .setup, .portIn,
  .pending]

def commandFrame : List Part := .counters :: noticeFrame

theorem keeps_noticeFrame {s t : State} (hnow : t.now = s.now) (hcomb : t.comb = s.comb) (hsense : t.sense = s.sense)
    (hwalker : t.walker = s.walker) (hunits : t.units = s.units) (hcache : t.cache = s.cache) (hlamps : t.lamps = s.lamps)
    (hflash : t.flash = s.flash) (hin : t.inlets = s.inlets) (hsettings : t.settings = s.settings) (hsetup : t.setup = s.setup)
    (hpending : t.pending = s.pending) : Keeps noticeFrame s t :=
  keeps_cons hnow (keeps_cons (comb_same hcomb) (keeps_cons hsense (keeps_cons hwalker (keeps_cons hunits (keeps_cons hcache
    (keeps_cons hlamps (keeps_cons hflash (keeps_cons (slots_same hin) (keeps_cons hsettings (keeps_cons hsetup
    (keeps_cons (portIn_same hin) (keeps_cons hpending (keeps_nil _ _)))))))))))))

theorem State.noticeClaimEnd_keeps (r : EndReason) : Keeps noticeFrame s (s.noticeClaimEnd c r) :=
  keeps_noticeFrame (s.noticeClaimEnd_now c r) (s.noticeClaimEnd_comb c r) (s.noticeClaimEnd_sense c r)
    (s.noticeClaimEnd_walker c r) (s.noticeClaimEnd_units c r) (s.noticeClaimEnd_cache c r) (s.noticeClaimEnd_lamps c r)
    (s.noticeClaimEnd_flash c r) (s.noticeClaimEnd_inlets c r) (s.noticeClaimEnd_settings c r) (s.noticeClaimEnd_setup c r)
    (s.noticeClaimEnd_pending c r)

theorem State.noticeClaimEnd_outbox (r : EndReason) : (s.noticeClaimEnd c r).outbox
    = s.outbox.offer s .claimEnd c.holder [byteOf c.position, byteOf c.index, byteOf (endReasonCode r)] :=
  State.offerNotice_outbox _ _ _ _ (Nat.le_of_ble_eq_true rfl)

theorem State.handCommand_keeps (e : UrgentEntry) : Keeps commandFrame s (s.handCommand c e) :=
  keeps_cons (s.handCommand_counters c e) (keeps_noticeFrame (s.handCommand_now c e) (s.handCommand_comb c e)
    (s.handCommand_sense c e) (s.handCommand_walker c e) (s.handCommand_units c e) (s.handCommand_cache c e)
    (s.handCommand_lamps c e) (s.handCommand_flash c e) (s.handCommand_inlets c e) (s.handCommand_settings c e)
    (s.handCommand_setup c e) (s.handCommand_pending c e))

theorem State.endClaim_keeps : Keeps commandFrame s (s.endClaim c) :=
  keeps_cons (s.endClaim_counters c) (keeps_noticeFrame (s.endClaim_now c) (s.endClaim_comb c) (s.endClaim_sense c)
    (s.endClaim_walker c) (s.endClaim_units c) (s.endClaim_cache c) (s.endClaim_lamps c) (s.endClaim_flash c)
    (s.endClaim_inlets c) (s.endClaim_settings c) (s.endClaim_setup c) (s.endClaim_pending c))

/-- A claim without a waiting entry: the command joins the tail, and nobody is answered (R145). -/
theorem State.handCommand_tail (h : c.entry ≠ some .waiting) (e : UrgentEntry) : s.handCommand c e
    = State.putClaim { s with line := { s.line with urgent := s.line.urgent ++ [e] } } { c with entry := some .waiting } := by
  rewrite [State.handCommand_eq, State.superseded, if_neg h, State.withCommand, if_neg h]
  rfl

end

/-! ### A new claim (R145) -/

section
variable {c : Claim}

theorem insertClaim_length (c : Claim) (l : List Claim) : (insertClaim c l).length = l.length + 1 := by
  induction l with
  | nil => rfl
  | cons d l ih =>
    unfold insertClaim
    split
    · rfl
    · rw [List.length_cons, ih, List.length_cons]

theorem find?_insertClaim_ne {f : Claim → Bool} (h : f c = false) (l : List Claim) : (insertClaim c l).find? f = l.find? f := by
  induction l with
  | nil => simp [insertClaim, h]
  | cons d l ih =>
    unfold insertClaim
    split
    · rw [List.find?_cons, h]
    · rw [List.find?_cons, List.find?_cons, ih]

theorem find?_insertClaim_self {f : Claim → Bool} (h : f c = true) {l : List Claim} (hl : l.find? f = none) :
    (insertClaim c l).find? f = some c := by
  induction l with
  | nil => simp [insertClaim, h]
  | cons d l ih =>
    have hd : f d = false := Bool.eq_false_iff.mpr (List.find?_eq_none.mp hl d List.mem_cons_self)
    unfold insertClaim
    split
    · rw [List.find?_cons, h]
    · rewrite [List.find?_cons, hd]
      exact ih (by rwa [List.find?_cons, hd] at hl)

/-- A claim made at its place of the table. -/
def State.claimed (s : State) (c : Claim) : State := { s with claims := insertClaim c s.claims }

theorem State.claimed_claimOn {s : State} (h : s.claimOn c.position c.index = none) :
    (s.claimed c).claimOn c.position c.index = some c := find?_insertClaim_self (by simp) h

theorem State.claimed_claimOn_ne {s : State} {p i : Nat} (h : p ≠ c.position ∨ i ≠ c.index) :
    (s.claimed c).claimOn p i = s.claimOn p i := by
  refine find?_insertClaim_ne ?_ _
  rewrite [Bool.and_eq_false_iff, beq_eq_false_iff_ne, beq_eq_false_iff_ne]
  exact h.imp Ne.symm Ne.symm

end

/-! ### ACTUATE (R142, R144, R145) -/

theorem IntakeEntry.actuateValue_eq {e : IntakeEntry} (h : 8 ≤ e.data.length) :
    e.actuateValue = (byteAt e.data 5 ++ byteAt e.data 6).toInt := by
  rw [IntakeEntry.actuateValue, IntakeEntry.operands_succ (by omega), IntakeEntry.operands_succ (by omega),
    IntakeEntry.operands_zero, signedOf, word16Of_two]

/-- The commands that a class admits, one by one (R142). -/
theorem FunctionClass.admits_iff {k : FunctionClass} {c : Command} : k.admits c = true
    ↔ (k, c) ∈ [(.momentary, .run), (.momentary, .stop), (.latched, .on), (.latched, .off), (.setpoint, .set)] := by
  cases k <;> cases c <;> decide

theorem FunctionClass.body_of_admits {k : FunctionClass} {c : Command} (h : k.admits c = true) : k ≠ .sensor := by
  rintro rfl
  cases c <;> cases h

/-- The claim as a command leaves it, its entry apart (R145, R147, R148). -/
def Claim.commanded (c : Claim) (cmd : Command) (now : Nat) : Claim :=
  { c with
    state := if cmd = .stop then .ending true else .held
    lastRun := if cmd = .run then some now else c.lastRun
    stopMark := c.stopMark || decide (cmd = .stop) }

/-- The entry of an ACTUATE in the Urgent Queue (R145). -/
def IntakeEntry.entryOf (e : IntakeEntry) (c : Claim) (cmd : Command) (value : Int) : UrgentEntry :=
  { position := c.position, index := c.index, command := cmd
    value := if cmd = .set then value else 0
    clamped := decide (cmd = .set ∧ value ≠ (byteAt e.data 5 ++ byteAt e.data 6).toInt)
    requester := if (byteAt e.data 7).getLsbD 0 then some ⟨e.slot, byteAt e.data 1⟩ else none }

theorem State.proceed_eq {s : State} {c : Claim} {f : FunctionEntry} {e : IntakeEntry} {value : Int} (h : 8 ≤ e.data.length)
    (hc : c.state = .held) (hv : value = max f.min (min f.max (byteAt e.data 5 ++ byteAt e.data 6).toInt)) (cmd : Command) :
    s.proceed c f cmd e = s.handCommand (c.commanded cmd s.now) (e.entryOf c cmd value) := by
  obtain ⟨position, index, holder, cls, state, lastRun, entry, stopMark⟩ := c
  obtain rfl : state = .held := hc
  have hx := IntakeEntry.actuateValue_eq h
  cases cmd with
  | stop => simp [State.proceed, State.stopClaim, Claim.commanded, IntakeEntry.entryOf, IntakeEntry.requester, IntakeEntry.sequence]
  | set =>
    simp [State.proceed, carriedValue, clampInt, Claim.commanded, IntakeEntry.entryOf, IntakeEntry.requester,
      IntakeEntry.sequence, hx, ← hv]
    rfl
  | run | on | off =>
    simp [State.proceed, carriedValue, Claim.commanded, IntakeEntry.entryOf, IntakeEntry.requester, IntakeEntry.sequence]

section
variable {s : State} {p i : Nat} {f : FunctionEntry}

theorem State.bodyFunctionAt_some (hs : s.servingAt p = true) (hf : s.entryAt p i = some f) (hc : f.cls ≠ .sensor) :
    s.bodyFunctionAt p i = some f := by
  simp [State.bodyFunctionAt, hs, hf, Option.filter, hc]

theorem State.bodyFunctionAt_none
    (h : s.servingAt p = false ∨ s.entryAt p i = none ∨ ∃ f, s.entryAt p i = some f ∧ f.cls = .sensor) :
    s.bodyFunctionAt p i = none := by
  unfold State.bodyFunctionAt
  obtain h | h | ⟨f, hf, hc⟩ := h
  · rewrite [h]
    rfl
  · rewrite [h]
    split <;> rfl
  · rewrite [hf, Option.filter, decide_eq_false (not_not.mpr hc)]
    split <;> rfl

end

/-- What ACTUATE does at its taking. -/
def State.actuated (s : State) (e : IntakeEntry) : State :=
  match commandOf (byteAt e.data 4) with
  | none => s.answer e .refusedRange
  | some cmd =>
    if !validPosition (e.operand 2) || !validIndex (e.operand 3) then s.answer e .refusedRange
    else if !s.hasRight e.slot .bodyClaim then s.answer e .refusedRights
    else
      match s.bodyFunctionAt (e.operand 2) (e.operand 3) with
      | none => s.answer e .refusedState
      | some f =>
        if f.cls.admits cmd then s.decideActuate e f cmd (e.operand 2) (e.operand 3) else s.answer e .refusedRange

section
variable {s : State} {e : IntakeEntry} {rest : List IntakeEntry} {c : Command} {f : FunctionEntry} {d : Claim} {p i : Nat}

theorem exec_actuate (ht : Takes s 0x40 e rest 1) :
    ∃ g, exec .actuate s = event g s ∧ g s = (s.taken rest).actuated e ∧ s.comb.heldInReset = false :=
  ⟨fun s => s.taking (isRequest codeActuate) fun e s => s.actuated e, rfl, ht.taking (by decide) (by decide) _,
    ht.running⟩

theorem State.actuated_range (h : e.operand 2 < 1 ∨ 6 < e.operand 2 ∨ 31 < e.operand 3 ∨ commandOf (byteAt e.data 4) = none) :
    s.actuated e = s.answer e .refusedRange := by
  unfold State.actuated
  cases hc : commandOf (byteAt e.data 4) with
  | none => rfl
  | some c => exact if_pos (functionOperands_outside (by simpa [hc] using h))

variable (h1 : 1 ≤ e.operand 2) (h6 : e.operand 2 ≤ 6) (h31 : e.operand 3 ≤ 31) (hc : commandOf (byteAt e.data 4) = some c)
include h1 h6 h31 hc

theorem State.actuated_refusedRights (h : s.hasRight e.slot .bodyClaim = false) :
    s.actuated e = s.answer e .refusedRights := by
  unfold State.actuated
  rewrite [hc]
  exact (if_neg (functionOperands h1 h6 h31)).trans (if_pos (by rw [h]; rfl))

variable (hr : s.hasRight e.slot .bodyClaim = true)
include hr

theorem State.actuated_refusedState (h : s.bodyFunctionAt (e.operand 2) (e.operand 3) = none) :
    s.actuated e = s.answer e .refusedState := by
  unfold State.actuated
  rewrite [hc, h]
  exact (if_neg (functionOperands h1 h6 h31)).trans (if_neg (by rw [hr]; exact Bool.false_ne_true))

theorem State.actuated_decided (h : s.bodyFunctionAt (e.operand 2) (e.operand 3) = some f) : s.actuated e
    = if f.cls.admits c then s.decideActuate e f c (e.operand 2) (e.operand 3) else s.answer e .refusedRange := by
  unfold State.actuated
  rewrite [hc, h]
  exact (if_neg (functionOperands h1 h6 h31)).trans (if_neg (by rw [hr]; exact Bool.false_ne_true))

end

section
variable {s : State} {e : IntakeEntry} {c : Command} {f : FunctionEntry} {d : Claim} {p i : Nat}

theorem State.decideActuate_full (h : s.claimOn p i = none) (hl : 8 ≤ s.claims.length) :
    s.decideActuate e f c p i = (s.count .requestsBusy).answer e .busy := by
  rewrite [State.decideActuate, h]
  exact if_neg (Nat.not_lt.mpr hl)

theorem State.decideActuate_claims (h : s.claimOn p i = none) (hl : s.claims.length < 8) : s.decideActuate e f c p i
    = ((s.claimed (newClaim p i e.slot f.cls)).proceed (newClaim p i e.slot f.cls) f c e).lineWork := by
  rewrite [State.decideActuate, h]
  exact if_pos hl

theorem State.decideActuate_ending {b : Bool} (h : s.claimOn p i = some d) (hd : d.state = .ending b) :
    s.decideActuate e f c p i = s.answer e .refusedState := by
  rewrite [State.decideActuate, h]
  dsimp only
  rw [hd]

theorem State.decideActuate_held (h : s.claimOn p i = some d) (hd : d.state = .held) : s.decideActuate e f c p i
    = if d.holder = e.slot then (s.proceed d f c e).lineWork else s.answer e .held [byteOf (slotNumber d.holder)] := by
  rewrite [State.decideActuate, h]
  dsimp only
  rw [hd]

end

/-- HELD names the holder. -/
theorem State.taken_held (s : State) (e : IntakeEntry) (rest : List IntakeEntry) (k : Slot) :
    (s.taken rest).answer e .held [byteOf (slotNumber k)]
      = answered s e rest [responseFrame s e .held false (byteOf (slotNumber k)) 0 0 0] :=
  State.answer_taken _ _ _ _ _ _ _ _ _ _ rfl

/-- Settles O40: the checks in their order. -/
theorem actuateRefused : Obligations.ActuateRefused := by
  intro s e rest ht htf
  obtain ⟨g, hx, hg, hr⟩ := exec_actuate ht
  rewrite [hx]
  refine ⟨fun h => ?_, fun c h1 h6 h31 hc => ⟨fun hn => ?_, fun hy => ⟨fun hb => ?_, fun f hs hf hk => ?_⟩⟩⟩
  · exact event_answered hr htf (hg.trans ((State.actuated_range h).trans (s.taken_refused e rest _)))
  · exact event_answered hr htf (hg.trans ((State.actuated_refusedRights (s := s.taken rest) h1 h6 h31 hc hn).trans
      (s.taken_refused e rest _)))
  · exact event_answered hr htf (hg.trans ((State.actuated_refusedState (s := s.taken rest) h1 h6 h31 hc hy
      (State.bodyFunctionAt_none (s := s.taken rest) hb)).trans (s.taken_refused e rest _)))
  · have hd := State.actuated_decided (s := s.taken rest) h1 h6 h31 hc hy (State.bodyFunctionAt_some (s := s.taken rest) hs hf hk)
    refine ⟨fun ha => ?_, fun ha => ?_⟩
    · rewrite [if_neg (mt FunctionClass.admits_iff.mp ha)] at hd
      exact event_answered hr htf (hg.trans (hd.trans (s.taken_refused e rest _)))
    · rewrite [if_pos (FunctionClass.admits_iff.mpr ha)] at hd
      have hgd := hg.trans hd
      refine ⟨fun hn hl => ?_, fun d b hcl hst => ?_, fun d hcl hst hne => ?_⟩
      · have hbusy := State.taken_refused (s.count .requestsBusy) e rest .busy
        exact event_still hr (hgd.trans ((State.decideActuate_full (s := s.taken rest) hn hl).trans hbusy))
          ((htf.answered e rest [responseFrame s e .busy false 0 0 0 0]).of_same ⟨rfl, rfl, rfl, rfl, rfl, rfl⟩) rfl
      · exact event_answered hr htf (hgd.trans ((State.decideActuate_ending (s := s.taken rest) hcl hst).trans
          (s.taken_refused e rest _)))
      · exact event_answered hr htf (hgd.trans ((State.decideActuate_held (s := s.taken rest) hcl hst).trans
          ((if_neg hne).trans (s.taken_held e rest _))))

/-- The taking of a request, a change of its claims and of the line leave the rest. -/
theorem State.taken_keeps (s : State) (rest : List IntakeEntry) (claims : List Claim) (line : TrailerLine) :
    Keeps [.now, .comb, .sense, .walker, .units, .cache, .lamps, .flash, .slots, .missed, .settings, .setup, .pending] s
      { s.taken rest with claims := claims, line := line } :=
  keeps_cons (p := .now) rfl (keeps_cons (p := .comb) rfl (keeps_cons (p := .sense) rfl (keeps_cons (p := .walker) rfl
    (keeps_cons (p := .units) rfl (keeps_cons (p := .cache) rfl (keeps_cons (p := .lamps) rfl (keeps_cons (p := .flash) rfl
    (keeps_cons (p := .slots) (fun _ => rfl) (keeps_cons (missed_same rfl) (keeps_cons (p := .settings) rfl
    (keeps_cons (p := .setup) rfl (keeps_cons (p := .pending) rfl (keeps_nil _ _)))))))))))))

/-- An event that hands work to the line and leaves chapter 1's part as it is. -/
theorem event_resumed {f : State → State} {s t : State} (hr : s.comb.heldInReset = false) (hf : f s = t.lineWork)
    (hc : t.comb = s.comb) : event f s = .next t.resumed :=
  event_quiet hr hf (by rw [State.combSummary, State.combFlags, State.lineWork_comb, hc]; rfl)

/-- Settles O41: the claim is made or taken up, and the command handed over. -/
theorem actuateProceeds : Obligations.ActuateProceeds := by
  intro s e rest c f entry value ht h1 h6 h31 hc hy hs hf ha hv hentry
  obtain ⟨g, hx, hg, hr⟩ := exec_actuate ht
  have hadm := FunctionClass.admits_iff.mpr ha
  have hd := State.actuated_decided (s := s.taken rest) h1 h6 h31 hc hy
    (State.bodyFunctionAt_some (s := s.taken rest) hs hf (FunctionClass.body_of_admits hadm))
  rewrite [if_pos hadm] at hd
  rewrite [hx]
  refine ⟨fun hn hl => ?_, fun d hcl hst hho => ?_⟩
  · have hclaim : ∀ n : Claim, n.position = e.operand 2 → n.index = e.operand 3 → n.entry = none → n.state = .held →
        ∃ u, ((s.taken rest).claimed n).proceed n f c e = u
          ∧ u.claims.length = s.claims.length + 1
          ∧ u.claimOn (e.operand 2) (e.operand 3) = some { n.commanded c s.now with entry := some .waiting }
          ∧ (∀ p i, p ≠ e.operand 2 ∨ i ≠ e.operand 3 → u.claimOn p i = s.claimOn p i)
          ∧ u.line = { s.line with urgent := s.line.urgent ++ [entry] }
          ∧ u.port = { s.port with intake := rest }
          ∧ u.counters = { s.counters with requestsTaken := bumped s.counters.requestsTaken }
          ∧ u.comb = s.comb
          ∧ Keeps [.now, .comb, .sense, .walker, .units, .cache, .lamps, .flash, .slots, .missed, .settings, .setup,
              .pending] s u := by
      intro n hp hi hne hst
      have hon : (s.taken rest).claimOn n.position n.index = none := by rw [hp, hi]; exact hn
      have hself := State.claimed_claimOn hon
      have hprox := State.proceed_eq (s := (s.taken rest).claimed n) ht.whole hst hv c
      have hent : e.entryOf n c value = entry := by rw [hentry, IntakeEntry.entryOf, hp, hi]
      rewrite [hent] at hprox
      have htail := State.handCommand_tail (s := (s.taken rest).claimed n) (c := n.commanded c s.now)
        (by rw [Claim.commanded, hne]; exact fun h => by cases h) entry
      refine ⟨_, hprox, ?_, ?_, fun p i h => ?_, ?_⟩
      · rewrite [State.handCommand_claims, State.putClaim_claims_length]
        exact insertClaim_length n s.claims
      · exact State.handCommand_claimOn (c := n.commanded c s.now) (d := n) (by rw [← hp, ← hi]; exact hself) hp hi entry
      · have hpi : p ≠ n.position ∨ i ≠ n.index := by rw [hp, hi]; exact h
        exact (State.handCommand_claimOn_ne (c := n.commanded c s.now) hpi entry).trans
          (State.claimed_claimOn_ne (s := s.taken rest) hpi)
      · rewrite [show ((s.taken rest).claimed n).now = s.now from rfl, htail]
        exact ⟨rfl, rfl, rfl, rfl, s.taken_keeps rest _ _⟩
    obtain ⟨u, hu, hlen, hself, hothers, hline, hport, hcount, hcomb, hkeeps⟩ :=
      hclaim (newClaim (e.operand 2) (e.operand 3) e.slot f.cls) rfl rfl rfl rfl
    refine ⟨u, event_resumed hr ?_ hcomb, hlen, hself, hothers, hline, hport, hcount, hkeeps⟩
    rw [hg, hd, State.decideActuate_claims (s := s.taken rest) hn hl, hu]
  · obtain ⟨hp, hi⟩ := State.claimOn_key hcl
    have hent : e.entryOf d c value = entry := by rw [hentry, IntakeEntry.entryOf, hp, hi]
    have hprox := State.proceed_eq (s := s.taken rest) ht.whole hst hv c
    rewrite [hent] at hprox
    have hkeeps := State.handCommand_keeps (s := s.taken rest) (c := d.commanded c s.now) entry
    refine ⟨(s.taken rest).handCommand (d.commanded c s.now) entry, event_resumed hr ?_ (State.handCommand_comb _ _ _),
      State.handCommand_claimOn (s := s.taken rest) (c := d.commanded c s.now) hcl hp hi entry, fun p i h => ?_, ?_, State.handCommand_line _ _ entry, ?_,
      (hkeeps .portIn (by decide)).2.1, State.handCommand_counters _ _ _, ?_⟩
    · rewrite [hg, hd, State.decideActuate_held (s := s.taken rest) hcl hst, if_pos hho, hprox]
      rfl
    · exact State.handCommand_claimOn_ne (s := s.taken rest) (c := d.commanded c s.now) (by rw [← hp, ← hi] at h; exact h) entry
    · rewrite [State.handCommand_claims, State.putClaim_claims_length]
      rfl
    · exact (State.handCommand_outbox _ _ entry).trans (Outbox.respondAll_settings rfl _ _)
    · exact Keeps.trans (t := s.taken rest) ((s.taken_keeps rest s.claims s.line).sub (by decide))
        (hkeeps.sub (by decide))

/-! ### The hold time (R147) -/

/-- What the hold time does. -/
def State.holdTimeEnded (s : State) (p i : Nat) : State :=
  match s.claimOn p i with
  | some c =>
    match c.cls, c.state, c.lastRun with
    | .momentary, .held, some since =>
      (((s.reach (since + s.setting .momentaryHold)).stopClaim c none false).noticeClaimEnd c .expired).lineWork
    | _, _, _ => s
  | none => s

theorem exec_holdTimeExpiry (p i : Nat) (s : State) : exec (.holdTimeExpiry p i) s = event (fun s => s.holdTimeEnded p i) s := rfl

/-- Settles O42: the claim goes to ENDING with its STOP, and its holder hears of it. -/
theorem holdTimeExpiryStops : Obligations.HoldTimeExpiryStops := by
  intro s p i c hr hcl
  obtain ⟨hp, hi⟩ := State.claimOn_key hcl
  refine ⟨fun since hk hst hlast => ?_, fun htf h => ?_⟩
  · let t := s.reach (since + s.settings.momentaryHold.toNat)
    have hstop : t.stopClaim c none false
        = t.handCommand { c with state := .ending false, stopMark := true } (stopOf p i) := by
      rewrite [State.stopClaim, hp, hi]
      rfl
    have hself := State.handCommand_claimOn (s := t) (c := { c with state := .ending false, stopMark := true }) hcl hp hi (stopOf p i)
    have hne (q j : Nat) (h : q ≠ p ∨ j ≠ i) := State.handCommand_claimOn_ne (s := t)
      (c := { c with state := .ending false, stopMark := true }) (p := q) (i := j) (by rw [← hp, ← hi] at h; exact h) (stopOf p i)
    have hout := State.handCommand_outbox t { c with state := .ending false, stopMark := true } (stopOf p i)
    have hline := State.handCommand_line t { c with state := .ending false, stopMark := true } (stopOf p i)
    have hkeeps := State.handCommand_keeps (s := t) (c := { c with state := .ending false, stopMark := true }) (stopOf p i)
    rewrite [← hstop] at hself hout hline hkeeps
    have hnot := State.noticeClaimEnd_keeps (s := t.stopClaim c none false) (c := c) .expired
    rewrite [exec_holdTimeExpiry]
    refine ⟨(t.stopClaim c none false).noticeClaimEnd c .expired, event_resumed hr ?_ ?_, ?_, ?_, fun q j h => ?_, ?_, ?_, ?_, ?_⟩
    · rewrite [State.holdTimeEnded, hcl]
      dsimp only
      rewrite [hk, hst, hlast]
      rfl
    · exact (State.noticeClaimEnd_comb _ c _).trans (State.stopClaim_comb t c none false)
    · exact (State.noticeClaimEnd_now _ c _).trans (State.stopClaim_now t c none false)
    · rewrite [State.claimOn, State.noticeClaimEnd_claims]
      exact hself
    · rewrite [State.claimOn, State.noticeClaimEnd_claims, hstop]
      exact hne q j h
    · exact (State.noticeClaimEnd_line _ c _).trans hline
    · have hanswered : (t.stopClaim c none false).outbox = s.outbox.respondAll s (s.superseded c) :=
        hout.trans (Outbox.respondAll_settings (s := s) (t := t) rfl _ _)
      rewrite [State.noticeClaimEnd_outbox, Outbox.offer_settings (State.stopClaim_settings t c none false), hanswered, hp, hi]
      exact Outbox.offer_settings (s := s) (t := t) rfl _ _ _ _
    · exact counters_of_tallies ((State.noticeClaimEnd_tallies _ c _).trans (State.stopClaim_tallies t c none false))
    · have hall : Keeps noticeFrame t ((t.stopClaim c none false).noticeClaimEnd c .expired) :=
        Keeps.trans (hkeeps.sub (by decide)) hnot
      exact Keeps.trans (t := t) ((s.keeps_reach _).sub (by decide)) (hall.sub (by decide))
  · rewrite [exec_holdTimeExpiry]
    refine event_still hr ?_ htf rfl
    rewrite [State.holdTimeEnded, hcl]
    dsimp only
    split
    · next hk hst hl => exact absurd h (by simp [hk, hst, hl])
    · rfl

/-! ### RELEASE and FORCE-RELEASE (R150, R151) -/

/-- What a claim that is given up leaves: a MOMENTARY one goes to ENDING with its STOP, another is gone with its waiting entry. -/
structure Relinquished (s : State) (c : Claim) (announce : Bool) (u : State) : Prop where
  momentary : c.cls = .momentary → u.claimOn c.position c.index
      = some { c with state := .ending announce, stopMark := true, entry := some .waiting }
    ∧ u.line = { s.line with urgent := s.withCommand c (stopOf c.position c.index) }
  other : c.cls ≠ .momentary → u.claimOn c.position c.index = none
    ∧ u.line = if c.entry = some .waiting then
        { s.line with urgent := s.line.urgent.filter fun x => !decide (x.position = c.position ∧ x.index = c.index) } else s.line
  others : ∀ q j, q ≠ c.position ∨ j ≠ c.index → u.claimOn q j = s.claimOn q j
  outbox : u.outbox = s.outbox.respondAll s (s.superseded c)
  keeps : Keeps commandFrame s u
  comb : u.comb = s.comb

theorem State.relinquish_comb (s : State) (c : Claim) (b : Bool) : (s.relinquish c b).comb = s.comb := by
  unfold State.relinquish
  cases c.cls with
  | momentary => exact State.stopClaim_comb s c none b
  | latched | setpoint | sensor => exact State.endClaim_comb s c

theorem State.relinquished {s : State} {c : Claim} (h : s.claimOn c.position c.index = some c) (b : Bool) :
    Relinquished s c b (s.relinquish c b) := by
  by_cases hk : c.cls = .momentary
  · have hstop : s.relinquish c b
        = s.handCommand { c with state := .ending b, stopMark := true } (stopOf c.position c.index) := by
      obtain ⟨position, index, holder, cls, state, lastRun, entry, stopMark⟩ := c
      obtain rfl : cls = .momentary := hk
      rfl
    rewrite [hstop]
    exact { momentary := fun _ => ⟨State.handCommand_claimOn (c := { c with state := .ending b, stopMark := true }) h rfl rfl _, State.handCommand_line _ _ _⟩
            other := fun hn => absurd hk hn
            others := fun q j hq => State.handCommand_claimOn_ne (c := { c with state := .ending b, stopMark := true }) hq _
            outbox := State.handCommand_outbox _ _ _
            keeps := State.handCommand_keeps _
            comb := State.handCommand_comb _ _ _ }
  · have hend : s.relinquish c b = s.endClaim c := by
      rewrite [State.relinquish]
      cases hc : c.cls with
      | momentary => exact absurd hc hk
      | latched | setpoint | sensor => rfl
    rewrite [hend]
    exact { momentary := fun hm => absurd hm hk
            other := fun _ => ⟨State.endClaim_claimOn, State.endClaim_line _ _⟩
            others := fun q j hq => State.endClaim_claimOn_ne hq
            outbox := State.endClaim_outbox _ _
            keeps := State.endClaim_keeps
            comb := State.endClaim_comb _ _ }

/-- What RELEASE does at its taking. -/
def State.releaseTaken (s : State) (e : IntakeEntry) : State :=
  if !validPosition (e.operand 2) || !validIndex (e.operand 3) then s.answer e .refusedRange
  else
    match s.claimOn (e.operand 2) (e.operand 3) with
    | none => s.answer e .refusedState
    | some c =>
      match c.state with
      | .ending _ => s.answer e .refusedState
      | .held =>
        if c.holder = e.slot then ((s.answer e .done).relinquish c true).lineWork
        else s.answer e .held [byteOf (slotNumber c.holder)]

/-- What FORCE-RELEASE does at its taking. -/
def State.forceReleaseTaken (s : State) (e : IntakeEntry) : State :=
  if !validPosition (e.operand 2) || !validIndex (e.operand 3) then s.answer e .refusedRange
  else if !s.hasRight e.slot .resets then s.answer e .refusedRights
  else
    match s.claimOn (e.operand 2) (e.operand 3) with
    | none => s.answer e .refusedState
    | some c =>
      match c.state with
      | .ending _ => s.answer e .refusedState
      | .held => (((s.answer e .done).noticeClaimEnd c .forced).relinquish c false).lineWork

section
variable {s : State} {e : IntakeEntry} {rest : List IntakeEntry}

theorem exec_release (ht : Takes s 0x41 e rest 1) :
    ∃ g, exec .release s = event g s ∧ g s = (s.taken rest).releaseTaken e ∧ s.comb.heldInReset = false :=
  ⟨fun s => s.taking (isRequest codeRelease) fun e s => s.releaseTaken e, rfl, ht.taking (by decide) (by decide) _,
    ht.running⟩

theorem exec_forceRelease (ht : Takes s 0x42 e rest 1) :
    ∃ g, exec .forceRelease s = event g s ∧ g s = (s.taken rest).forceReleaseTaken e ∧ s.comb.heldInReset = false :=
  ⟨fun s => s.taking (isRequest codeForceRelease) fun e s => s.forceReleaseTaken e, rfl,
    ht.taking (by decide) (by decide) _, ht.running⟩

theorem State.taken_doneNothing (s : State) (e : IntakeEntry) (rest : List IntakeEntry) :
    (s.taken rest).answer e .done = doneWith s e rest 0 0 0 0 := s.taken_done e rest []

/-- RELEASE, by its checks. -/
theorem release_decided (ht : Takes s 0x41 e rest 1) : (TimersFollow s →
      ((e.operand 2 < 1 ∨ 6 < e.operand 2 ∨ 31 < e.operand 3) → exec .release s = .next (refusedWith s e rest .refusedRange))
      ∧ (1 ≤ e.operand 2 → e.operand 2 ≤ 6 → e.operand 3 ≤ 31 →
        (s.claimOn (e.operand 2) (e.operand 3) = none → exec .release s = .next (refusedWith s e rest .refusedState))
        ∧ (∀ c, s.claimOn (e.operand 2) (e.operand 3) = some c → c.state ≠ .held →
            exec .release s = .next (refusedWith s e rest .refusedState))
        ∧ (∀ c, s.claimOn (e.operand 2) (e.operand 3) = some c → c.state = .held → c.holder ≠ e.slot →
            exec .release s = .next (answered s e rest [responseFrame s e .held false (byteOf (slotNumber c.holder)) 0 0 0]))))
    ∧ (∀ c, 1 ≤ e.operand 2 → e.operand 2 ≤ 6 → e.operand 3 ≤ 31 → s.claimOn (e.operand 2) (e.operand 3) = some c →
      c.state = .held → c.holder = e.slot →
      exec .release s = .next ((doneWith s e rest 0 0 0 0).relinquish c true).resumed) := by
  obtain ⟨g, hx, hg, hr⟩ := exec_release ht
  rewrite [hx]
  refine ⟨fun htf => ⟨fun h => ?_, fun h1 h6 h31 => ?_⟩, fun c h1 h6 h31 hcl hst hho => ?_⟩
  · exact event_answered hr htf (hg.trans ((if_pos (functionOperands_outside h)).trans (s.taken_refused e rest _)))
  · have hin := hg.trans (if_neg (functionOperands h1 h6 h31))
    rewrite [show (s.taken rest).claimOn (e.operand 2) (e.operand 3) = s.claimOn (e.operand 2) (e.operand 3) from rfl] at hin
    refine ⟨fun hn => ?_, fun c hcl hst => ?_, fun c hcl hst hho => ?_⟩
    · rewrite [hn] at hin
      exact event_answered hr htf (hin.trans (s.taken_refused e rest _))
    · rewrite [hcl] at hin
      cases hs : c.state with
      | held => exact absurd hs hst
      | ending b =>
        dsimp only at hin
        rewrite [hs] at hin
        exact event_answered hr htf (hin.trans (s.taken_refused e rest _))
    · rewrite [hcl] at hin
      dsimp only at hin
      rewrite [hst] at hin
      exact event_answered hr htf (hin.trans ((if_neg hho).trans (s.taken_held e rest _)))
  · have hin := hg.trans (if_neg (functionOperands h1 h6 h31))
    rewrite [show (s.taken rest).claimOn (e.operand 2) (e.operand 3) = s.claimOn (e.operand 2) (e.operand 3) from rfl, hcl] at hin
    dsimp only at hin
    rewrite [hst, s.taken_doneNothing] at hin
    exact event_resumed hr (hin.trans (if_pos hho)) (State.relinquish_comb _ _ _)

/-- FORCE-RELEASE, by its checks. -/
theorem forceRelease_decided (ht : Takes s 0x42 e rest 1) : (TimersFollow s →
      ((e.operand 2 < 1 ∨ 6 < e.operand 2 ∨ 31 < e.operand 3) →
        exec .forceRelease s = .next (refusedWith s e rest .refusedRange))
      ∧ (1 ≤ e.operand 2 → e.operand 2 ≤ 6 → e.operand 3 ≤ 31 →
        (s.hasRight e.slot .resets = false → exec .forceRelease s = .next (refusedWith s e rest .refusedRights))
        ∧ (s.hasRight e.slot .resets = true →
          (s.claimOn (e.operand 2) (e.operand 3) = none ∨
            ∃ c, s.claimOn (e.operand 2) (e.operand 3) = some c ∧ c.state ≠ .held) →
          exec .forceRelease s = .next (refusedWith s e rest .refusedState))))
    ∧ (∀ c, 1 ≤ e.operand 2 → e.operand 2 ≤ 6 → e.operand 3 ≤ 31 → s.hasRight e.slot .resets = true →
      s.claimOn (e.operand 2) (e.operand 3) = some c → c.state = .held →
      exec .forceRelease s = .next (((doneWith s e rest 0 0 0 0).noticeClaimEnd c .forced).relinquish c false).resumed) := by
  obtain ⟨g, hx, hg, hr⟩ := exec_forceRelease ht
  rewrite [hx]
  refine ⟨fun htf => ⟨fun h => ?_, fun h1 h6 h31 => ?_⟩, fun c h1 h6 h31 hy hcl hst => ?_⟩
  · exact event_answered hr htf (hg.trans ((if_pos (functionOperands_outside h)).trans (s.taken_refused e rest _)))
  · have hin := hg.trans (if_neg (functionOperands h1 h6 h31))
    rewrite [State.taken_hasRight,
      show (s.taken rest).claimOn (e.operand 2) (e.operand 3) = s.claimOn (e.operand 2) (e.operand 3) from rfl] at hin
    refine ⟨fun hn => ?_, fun hy h => ?_⟩
    · rewrite [hn] at hin
      exact event_answered hr htf (hin.trans (s.taken_refused e rest _))
    · rewrite [hy] at hin
      obtain hn | ⟨c, hcl, hst⟩ := h
      · rewrite [hn] at hin
        exact event_answered hr htf (hin.trans (s.taken_refused e rest _))
      · rewrite [hcl] at hin
        cases hs : c.state with
        | held => exact absurd hs hst
        | ending b =>
          dsimp only at hin
          rewrite [hs] at hin
          exact event_answered hr htf (hin.trans (s.taken_refused e rest _))
  · have hin := hg.trans (if_neg (functionOperands h1 h6 h31))
    rewrite [State.taken_hasRight, hy,
      show (s.taken rest).claimOn (e.operand 2) (e.operand 3) = s.claimOn (e.operand 2) (e.operand 3) from rfl, hcl] at hin
    dsimp only at hin
    rewrite [hst, s.taken_doneNothing] at hin
    exact event_resumed hr hin ((State.relinquish_comb _ _ _).trans (State.noticeClaimEnd_comb _ _ _))

end

/-- Settles O43: the checks in their order, then the claim given up. -/
theorem releasesEndClaims : Obligations.ReleasesEndClaims := by
  refine ⟨fun s e rest ht => ?_, fun s e rest ht => ?_⟩
  · obtain ⟨href, hrel⟩ := release_decided ht
    refine ⟨href, fun c h1 h6 h31 hcl hst hho => ⟨_, hrel c h1 h6 h31 hcl hst hho, ?_⟩⟩
    obtain ⟨hp, hi⟩ := State.claimOn_key hcl
    rewrite [← hp, ← hi] at hcl ⊢
    obtain ⟨hm, ho, hothers, hout, hkeeps, -⟩ := State.relinquished (s := doneWith s e rest 0 0 0 0) hcl true
    exact ⟨hm, ho, hothers, hout.trans (Outbox.respondAll_settings rfl _ _), hkeeps.sub (by decide)⟩
  · obtain ⟨href, hrel⟩ := forceRelease_decided ht
    refine ⟨href, fun c h1 h6 h31 hy hcl hst => ⟨_, hrel c h1 h6 h31 hy hcl hst, ?_⟩⟩
    obtain ⟨hp, hi⟩ := State.claimOn_key hcl
    rewrite [← hp, ← hi] at hcl ⊢
    have hnot := State.noticeClaimEnd_keeps (s := doneWith s e rest 0 0 0 0) (c := c) .forced
    have hclaims : ((doneWith s e rest 0 0 0 0).noticeClaimEnd c .forced).claims = s.claims := State.noticeClaimEnd_claims _ _ _
    have hline : ((doneWith s e rest 0 0 0 0).noticeClaimEnd c .forced).line = s.line := State.noticeClaimEnd_line _ _ _
    have hset : ((doneWith s e rest 0 0 0 0).noticeClaimEnd c .forced).settings = s.settings :=
      State.noticeClaimEnd_settings _ _ _
    have htal := State.noticeClaimEnd_tallies (doneWith s e rest 0 0 0 0) c .forced
    have hnout := State.noticeClaimEnd_outbox (s := doneWith s e rest 0 0 0 0) (c := c) .forced
    generalize (doneWith s e rest 0 0 0 0).noticeClaimEnd c .forced = t at hnot hclaims hline hset htal hnout ⊢
    have hclt : t.claimOn c.position c.index = some c := by rw [State.claimOn, hclaims]; exact hcl
    obtain ⟨hm, ho, hothers, hout, hkeeps, -⟩ := State.relinquished hclt false
    have hcount := hkeeps .counters (by decide)
    refine ⟨fun h => ?_, fun h => ?_, fun q j h => ?_, ?_, ?_, hnot.trans (hkeeps.sub (by decide))⟩
    · obtain ⟨ha, hb⟩ := hm h
      refine ⟨ha, hb.trans ?_⟩
      rw [State.withCommand, State.withCommand, hline]
    · obtain ⟨ha, hb⟩ := ho h
      exact ⟨ha, by rw [hb, hline]⟩
    · rewrite [hothers q j h, State.claimOn, hclaims]
      rfl
    · rewrite [hout, Outbox.respondAll_settings hset, State.superseded, State.superseded, hline, hnout]
      exact congrArg (fun o : Outbox => o.respondAll s _) (Outbox.offer_settings rfl _ _ _ _)
    · exact counters_of_tallies (s := doneWith s e rest 0 0 0 0) ((congrArg (fun n : Counters => { n with noticesDropped := 0 }) hcount).trans htal)

end Sys2Proof.Machine
end

end
